-- ==== Sys2Proof/Word.lean ====
section
/-! DEFINITION. The words of the EA24: bytes, line clock values, and eight like things numbered 0..7. -/

namespace Sys2Proof

/-- A byte of a frame, of table space or of the image (12_formats.md). -/
abbrev Byte := BitVec 8

/-- A value of the line clock: an unsigned 32-bit count of seconds (R179). -/
abbrev Clock := BitVec 32

/-- Sub-second time since power-on in units of 1/19,200 s, one bit time of the house link (R1; log 4). -/
abbrev Tick := Nat

/-- Eight like things numbered 0..7: the zone records and the zone outputs. -/
structure Eight (α : Type) where
  e0 : α
  e1 : α
  e2 : α
  e3 : α
  e4 : α
  e5 : α
  e6 : α
  e7 : α
  deriving DecidableEq, Repr

namespace Eight

variable {α β : Type}

/-- Eight copies of one thing. -/
def all (a : α) : Eight α := ⟨a, a, a, a, a, a, a, a⟩

/-- The thing numbered `i`. -/
def get (e : Eight α) (i : Fin 8) : α :=
  match i.val with
  | 0 => e.e0
  | 1 => e.e1
  | 2 => e.e2
  | 3 => e.e3
  | 4 => e.e4
  | 5 => e.e5
  | 6 => e.e6
  | _ => e.e7

/-- The same eight with the thing numbered `i` replaced. -/
def set (e : Eight α) (i : Fin 8) (a : α) : Eight α :=
  match i.val with
  | 0 => { e with e0 := a }
  | 1 => { e with e1 := a }
  | 2 => { e with e2 := a }
  | 3 => { e with e3 := a }
  | 4 => { e with e4 := a }
  | 5 => { e with e5 := a }
  | 6 => { e with e6 := a }
  | _ => { e with e7 := a }

/-- The eight in the order of their numbers. -/
def toList (e : Eight α) : List α :=
  [e.e0, e.e1, e.e2, e.e3, e.e4, e.e5, e.e6, e.e7]

/-- Each of the eight taken through `f`. -/
def map (f : α → β) (e : Eight α) : Eight β :=
  ⟨f e.e0, f e.e1, f e.e2, f e.e3, f e.e4, f e.e5, f e.e6, f e.e7⟩

/-- Eight things made from their numbers. -/
def ofFn (f : Fin 8 → α) : Eight α :=
  ⟨f 0, f 1, f 2, f 3, f 4, f 5, f 6, f 7⟩

end Eight

/-- The numbers 0..7 in order ("in zone number order"). -/
def eightNumbers : List (Fin 8) := [0, 1, 2, 3, 4, 5, 6, 7]

end Sys2Proof
end

