-- ==== Sys2Proof/Syntax.lean ====
section
/-! DEFINITION. The commands of the EA24: one constructor of `Instr` for each row of spec/opcode_table.json. -/

namespace Sys2Proof

/-- A line frame without its lead, length and check, which its other fields give (R2, 12.1). -/
structure Frame where
  dest : Byte
  source : Byte
  kind : Byte
  tag : Byte
  payload : List Byte
  deriving DecidableEq, Repr

/-- The two serial lines (01, introduction). -/
inductive Line where
  | field
  | house
  deriving DecidableEq, Repr

/-- A character of a line as its bits are sampled, but for the start bit, which is low in every character (R1). -/
structure LineChar where
  value : Byte
  parity : Bool
  stop : Bool
  deriving DecidableEq, Repr

/-- The two debounced inputs of the burner (R79). -/
inductive Input where
  | run
  | lock
  deriving DecidableEq, Repr

/-- The two thermostat slots of a zone (R36). -/
inductive SlotNo where
  | one
  | two
  deriving DecidableEq, Repr

/-- A MGMT request of the house: the header fields and the parameters after the operation byte (R169, 12.4). -/
structure HouseReq where
  dest : Byte := 0
  source : Byte := 62
  tag : Byte := 0
  params : List Byte := []
  deriving DecidableEq, Repr

/-- An SVC request of a service tool: the header fields, the three parameter bytes after the operation code (12.2),
and the end time of its frame in ticks (R6). -/
structure SvcReq where
  dest : Byte := 0
  source : Byte
  tag : Byte := 0
  params : List Byte := [0, 0, 0]
  time : Tick := 0
  deriving DecidableEq, Repr

/-- A request that either side may send (R26, R169). -/
inductive Request where
  | house (r : HouseReq)
  | field (r : SvcReq)
  deriving DecidableEq, Repr

/-- The zone settings whose write only stores the value and evaluates the zone afresh (R35). -/
inductive ZoneSetting where
  | priority
  | hysteresis
  | frost
  | economy
  | overrideSetpoint
  deriving DecidableEq, Repr

/-- The settings the band is judged by (R131). -/
inductive Threshold where
  | dry
  | low
  | hysteresis
  deriving DecidableEq, Repr

/-- The levels of RUN and LOCK at one moment (R79). -/
structure InputLevels where
  run : Bool
  lock : Bool
  deriving DecidableEq, Repr

/-- A moment on a serial line. `arriving`: a character is arriving at it, its start bit come and its stop bit not yet
ended (R1, R10). -/
structure LineMoment where
  time : Tick
  arriving : Bool := false
  deriving DecidableEq, Repr

/-- An event that an advance of the line clock can make due. Each is a row of its own; an advance names those that are
taken before the firing second of the same line clock value (R66, R89, R92, R164; log 11). -/
inductive ClockEvent where
  | readingAgesOut (zone : Fin 8) (slot : SlotNo)
  | overrideExpires (zone : Fin 8)
  | fallbackPhaseChange (zone : Fin 8)
  | valveTravelEnd (output : Fin 8)
  | overrunEnds
  | inputAccepted (input : Input)
  | startLimitExpires
  | runoutLimitExpires
  | backOffExpires
  | clearTimerExpires
  | resetGapEnds
  | coolOffExpires
  | spacingExpires
  | budgetEntryAgesOut
  | pregapEnds
  | pulseEnds
  | postgapEnds
  | checkingExpires
  | claimHoldExpires
  | reconcileTimerExpires
  | sampleTimerExpires
  | gaugeReportDue
  | postExpires (dest : Byte) (tag : Nat)
  deriving DecidableEq, Repr

/-- The commands. `time` operands are in ticks since power-on (log 4); a command that names a moment before one
already reached is taken at the one reached. -/
inductive Instr where
  /-- POWER_ON (R180): the STORE strap, whether a read of the memory is acknowledged, and the levels of RDY, RUN and LOCK. -/
  | powerOn (strap readAck rdy run lock : Bool)
  /-- POWER_LOSS (R183). -/
  | powerLoss
  /-- LINE_CLOCK_ADVANCE (R179), with the levels that it samples (R79), and the events due at it that are taken before
  its firing second (R92). -/
  | lineClockAdvance (levels : InputLevels) (first : List ClockEvent)
  /-- CHARACTER_RECEIVED (R1, R3): the bits of a `LineChar` as sampled; `time` is the end of its stop bit. -/
  | characterReceived (line : Line) (value : Byte) (parity stop : Bool) (time : Tick)
  /-- FRAME_TRUNCATED (R5); with a character arriving the gap has ended (R1). -/
  | frameTruncated (line : Line) (moment : LineMoment)
  /-- SKIP_END (R7); with a character arriving the gap has ended (R1). -/
  | skipEnd (line : Line) (moment : LineMoment)
  /-- FIELD_TRANSMIT_START (R10); with a character of another station arriving the field line is not idle. -/
  | fieldTransmitStart (moment : LineMoment)
  /-- ECHO_CHECK (R11): the bits of the `LineChar` read back, as sampled. -/
  | echoCheck (value : Byte) (parity stop : Bool) (time : Tick)
  /-- REPLY_WITHDRAWN (R12). -/
  | replyWithdrawn (time : Tick)
  /-- RDY_CHANGE (R14): the new level. -/
  | rdyChange (level : Bool)
  /-- HOUSE_TRANSMIT_START (R14). -/
  | houseTransmitStart
  /-- HOUSE_FRAME_SENT (R13). -/
  | houseFrameSent
  /-- CLASSIFIER_TAKE (R22); `time` is the moment a reply is offered (R12). -/
  | classifierTake (time : Tick)
  /-- READING_AGES_OUT (R40). -/
  | readingAgesOut (zone : Fin 8) (slot : SlotNo)
  /-- OVERRIDE_EXPIRES (R43). -/
  | overrideExpires (zone : Fin 8)
  /-- FALLBACK_PHASE_CHANGE (R49). -/
  | fallbackPhaseChange (zone : Fin 8)
  /-- TURN_EXPIRES (R66). -/
  | turnExpires (zone : Fin 8)
  /-- VALVE_TRAVEL_END (R70). -/
  | valveTravelEnd (output : Fin 8)
  /-- OVERRUN_ENDS (R75). -/
  | overrunEnds
  /-- INPUT_ACCEPTED (R79). -/
  | inputAccepted (input : Input)
  /-- START_LIMIT_EXPIRES (R83). -/
  | startLimitExpires
  /-- RUNOUT_LIMIT_EXPIRES (R85, R87). -/
  | runoutLimitExpires
  /-- BACK_OFF_EXPIRES (R86). -/
  | backOffExpires
  /-- CLEAR_TIMER_EXPIRES (R88). -/
  | clearTimerExpires
  /-- RESET_GAP_ENDS (R90). -/
  | resetGapEnds
  /-- COOL_OFF_EXPIRES (R99). -/
  | coolOffExpires
  /-- SPACING_EXPIRES (R101). -/
  | spacingExpires
  /-- BUDGET_ENTRY_AGES_OUT (R102). -/
  | budgetEntryAgesOut
  /-- PREGAP_ENDS (R104). -/
  | pregapEnds
  /-- PULSE_ENDS (R104). -/
  | pulseEnds
  /-- POSTGAP_ENDS (R104). -/
  | postgapEnds
  /-- CHECKING_EXPIRES (R105). -/
  | checkingExpires
  /-- PROVED (R106). -/
  | proved
  /-- CLAIM_HOLD_EXPIRES (R113). -/
  | claimHoldExpires
  /-- SAMPLE_TIMER_EXPIRES (R119). -/
  | sampleTimerExpires
  /-- SUPPLY_CONVERSION_DONE (R119): the count s. -/
  | supplyConversionDone (count : BitVec 12)
  /-- SAMPLE_TAKEN (R119): the count t. -/
  | sampleTaken (count : BitVec 12)
  /-- GAUGE_REPORT_DUE (R135). -/
  | gaugeReportDue
  /-- RECONCILE_TIMER_EXPIRES (R143). -/
  | reconcileTimerExpires
  /-- DAILY_RING_ROLL (R148): whether it is taken before the firing second of its line clock value. -/
  | dailyRingRoll (beforeSecond : Bool)
  /-- POST_EXPIRES (R164): the post's destination and tag. -/
  | postExpires (dest : Byte) (tag : Nat)
  /-- HOUSE_KIND_DROP (R168): the house frame. -/
  | houseKindDrop (frame : Frame)
  /-- UNKNOWN_OP (R169, R26): the request, its parameters beginning with the operation byte; a house request without a
  payload is one too, which the same test of form turns away as REFUSED LENGTH (R169 row 2). -/
  | unknownOp (req : Request)
  /-- RELAY_DOWN (R31): the PASS frame, its parameters being the field kind, the field tag and the field payload. -/
  | relayDown (req : HouseReq)
  /-- READ (R170). -/
  | read (req : Request)
  /-- WRITE (R171). -/
  | write (req : HouseReq)
  /-- COUNTER_CLEAR (R178): a write to the fault view counter of this number in the order of 12.6. -/
  | counterClear (tag : Byte) (counter : Fin 40) (value : BitVec 16)
  /-- ATTENTION_ENABLE_WRITE (R15). -/
  | attentionEnableWrite (tag : Byte) (value : BitVec 16)
  /-- ZONE_SETTING_WRITE (R35); a byte-wide setting takes the low byte of `value`. -/
  | zoneSettingWrite (tag : Byte) (zone : Fin 8) (setting : ZoneSetting) (value : BitVec 16)
  /-- SLOT_WRITE (R36). -/
  | slotWrite (tag : Byte) (zone : Fin 8) (slot : SlotNo) (value : Byte)
  /-- ZONE_ENABLE_WRITE (R54). -/
  | zoneEnableWrite (tag : Byte) (zone : Fin 8) (value : Byte)
  /-- OVERRIDE_DURATION_WRITE (R43). -/
  | overrideDurationWrite (tag : Byte) (zone : Fin 8) (value : BitVec 16)
  /-- STALENESS_LIMIT_WRITE (R40). -/
  | stalenessLimitWrite (tag : Byte) (zone : Fin 8) (value : Byte)
  /-- FALLBACK_ON_TIME_WRITE (R49). -/
  | fallbackOnTimeWrite (tag : Byte) (zone : Fin 8) (value : Byte)
  /-- ROUTE_WRITE (R65). -/
  | routeWrite (tag : Byte) (zone : Fin 8) (value : Byte)
  /-- CONCURRENT_LIMIT_WRITE (R69). -/
  | concurrentLimitWrite (tag : Byte) (value : Byte)
  /-- TURN_LENGTH_WRITE (R68). -/
  | turnLengthWrite (tag : Byte) (value : Byte)
  /-- BYPASS_FITTED_WRITE (R76): the part flags written with this bit and the other flags as they stand. -/
  | bypassFittedWrite (tag : Byte) (on : Bool)
  /-- DRY_STOP_WRITE (R82): the part flags written with this bit and the other flags as they stand. -/
  | dryStopWrite (tag : Byte) (on : Bool)
  /-- AUTO_RECOVERY_WRITE (R100). -/
  | autoRecoveryWrite (tag : Byte) (value : Byte)
  /-- RESET_WITHOUT_GAUGE_WRITE (R100): the part flags written with this bit and the other flags as they stand. -/
  | resetWithoutGaugeWrite (tag : Byte) (on : Bool)
  /-- BUDGET_WINDOW_WRITE (R102). -/
  | budgetWindowWrite (tag : Byte) (value : Byte)
  /-- PROVING_TIME_WRITE (R106). -/
  | provingTimeWrite (tag : Byte) (value : BitVec 16)
  /-- BAND_THRESHOLD_WRITE (R131); the hysteresis takes the low byte of `value`. -/
  | bandThresholdWrite (tag : Byte) (which : Threshold) (value : BitVec 16)
  /-- GAUGE_REPORT_INTERVAL_WRITE (R135). -/
  | gaugeReportIntervalWrite (tag : Byte) (value : Byte)
  /-- RECONCILE_INTERVAL_WRITE (R143). -/
  | reconcileIntervalWrite (tag : Byte) (value : Byte)
  /-- COMMIT_STRAP (R133). -/
  | commitStrap (req : HouseReq)
  /-- DISCARD_STRAP (R134). -/
  | discardStrap (req : HouseReq)
  /-- SAVE (R182). -/
  | save (req : HouseReq)
  /-- SAVE_TRANSFER_DONE (R182): acknowledged or not. -/
  | saveTransferDone (ack : Bool)
  /-- SAVE_READBACK_DONE (R182): acknowledged or not, and the image offsets read back with another byte than was built. -/
  | saveReadbackDone (ack : Bool) (differing : List (Fin 774 × Byte))
  /-- RESTART (R177). -/
  | restart (req : HouseReq)
  /-- RELOAD (R177). -/
  | reload (req : HouseReq)
  /-- RESTART_EFFECT (R17): whether a RELOAD's read is acknowledged, the levels of RUN and LOCK (R95), and the moment. -/
  | restartEffect (readAck run lock : Bool) (time : Tick)
  /-- POST (R154). -/
  | post (req : HouseReq)
  /-- WITHDRAW (R156). -/
  | withdraw (req : HouseReq)
  /-- CLAIM_SELECT (R111). -/
  | claimSelect (req : Request)
  /-- CLAIM_TEST (R112). -/
  | claimTest (req : Request)
  /-- CLAIM_RELEASE (R112). -/
  | claimRelease (req : Request)
  /-- REMOTE_RESET (R108). -/
  | remoteReset (req : HouseReq)
  /-- SERVICE_RESET (R109). -/
  | serviceReset (req : SvcReq)
  /-- CLEAR_HARD (R110). -/
  | clearHard (req : SvcReq)
  /-- ATTN_CLEAR (R173). -/
  | attnClear (req : HouseReq)
  /-- LOG_READ (R176). -/
  | logRead (req : HouseReq)
  /-- STATUS (R175). -/
  | status (req : HouseReq)
  deriving DecidableEq, Repr

end Sys2Proof
end

