-- ==== Sys2Proof/Config.lean ====
section
/-! DEFINITION. What one part fixes and the manual does not state, and the free values: constants without a value
(notes/assumptions/7.md, 8.md and 15.md). Nothing can be proved of their values. -/

namespace Sys2Proof

/-- The part code at 0x000 (12.6 gives the field and no value; log 7). -/
opaque Config.partCode : BitVec 16

/-- The layout version at 0x002, which the image header repeats (12.6, 12.7 give no value; log 7). -/
opaque Config.layoutVersion : Byte

/-- The revision at 0x003 (12.6 gives the field and no value; log 7). -/
opaque Config.revision : Byte

/-- The free bytes: a byte the manual does not state, the n-th one drawn (log 8). -/
opaque Config.freeByte : Nat → Byte

/-- The free 16-bit values, the n-th one drawn (log 8). -/
opaque Config.freeWord : Nat → BitVec 16

/-- The byte that a READ shows at a place of table space whose field the manual gives no value at that moment, such as the
seconds left of a stopped timer: a free byte of the place's address and of the line clock (12.6, R186; log 15). -/
opaque Config.unstated : Nat → Nat → Byte

/-- The source bit of an oil event record that has no source, of the record's time: a free bit (12.4; log 15). -/
opaque Config.sourceBit : Nat → Bool

end Sys2Proof
end

