-- ==== Sys2Proof/Machine/State.lean ====
section
/-! DEFINITION. The state of the EA24 as plain data, block by block, and its value right after reset
(power-on with the STORE strap low; notes/assumptions/5.md). -/

namespace Sys2Proof.Machine

/-! ### The two lines (01) -/

/-- The phase of a frame assembler (1.3). -/
inductive Phase where
  | hunt
  | assemble
  | skip
  deriving DecidableEq, Repr

/-- The bad mark of the frame being assembled (1.3). -/
inductive BadMark where
  | none
  | parity
  | framing
  deriving DecidableEq, Repr

/-- A frame assembler (1.3). `gapFrom` is the moment from which the gap timer runs in ASSEMBLE and SKIP. -/
structure Assembler where
  phase : Phase := .skip
  bytes : List Byte := []
  expected : Option Nat := none
  bad : BadMark := .none
  gapFrom : Tick := 0
  deriving DecidableEq, Repr

/-- The eight counters both lines have (R16). -/
structure LineCounters where
  noise : Nat := 0
  parity : Nat := 0
  framing : Nat := 0
  truncated : Nat := 0
  length : Nat := 0
  check : Nat := 0
  address : Nat := 0
  overrun : Nat := 0
  deriving DecidableEq, Repr

/-- A frame of the field receive queue with the end time of its last check character (R6). -/
structure RxFrame where
  frame : Frame
  endTime : Tick
  deriving DecidableEq, Repr

/-- The block that offered a frame to the field transmit queue: the first three offer replies (R9). -/
inductive TxOrigin where
  | post
  | nomail
  | svcans
  | pass
  deriving DecidableEq, Repr

/-- An entry of the field transmit queue (R9). `sending` is the number of characters read back correctly while the
frame is on the line. -/
structure TxEntry where
  frame : Frame
  origin : TxOrigin
  deadline : Option Tick := none
  tries : Nat := 0
  sending : Option Nat := none
  deriving DecidableEq, Repr

/-- An entry of the house transmit queue (R13). `restartAnswer` marks the ANSWER of a RESTART or RELOAD (R177). -/
structure HouseEntry where
  frame : Frame
  restartAnswer : Bool := false
  deriving DecidableEq, Repr

/-- The field line port and the house link port (01). -/
structure Ports where
  fieldAsm : Assembler := {}
  houseAsm : Assembler := {}
  fieldRx : List RxFrame := []
  houseRx : List Frame := []
  fieldTx : List TxEntry := []
  fde : Bool := false
  lastSeen : Tick := 0
  houseTx : List HouseEntry := []
  houseOnLine : Bool := false
  rdy : Bool := false
  fieldCtr : LineCounters := {}
  houseCtr : LineCounters := {}
  echoFail : Nat := 0
  missedWindow : Nat := 0
  deriving DecidableEq, Repr

/-! ### Address map and classifier (02) -/

/-- The class of an address (R18). -/
inductive AddrClass where
  | room
  | listener
  | service
  | blocked
  deriving DecidableEq, Repr

/-- An address map entry (R18) with its default values (R21). -/
structure MapEntry where
  valid : Bool := false
  pattern : Byte := 0
  mask : Byte := 0
  cls : AddrClass := .blocked
  forwardUp : Bool := false
  guard : Bool := false
  deriving DecidableEq, Repr

/-- The address map and the classifier (R18, R21, R22, R34). -/
structure Classifier where
  entries : List MapEntry := List.replicate 16 {}
  forwardUnlisted : Bool := false
  inHand : Option RxFrame := none
  misdirected : Nat := 0
  unlisted : Nat := 0
  blocked : Nat := 0
  notForwarded : Nat := 0
  upDropped : Nat := 0
  coalesced : Nat := 0
  svcAnswerLost : Nat := 0
  deriving DecidableEq, Repr

/-! ### Zone Unit (03) -/

/-- The mode of a zone (R38). -/
inductive Mode where
  | off
  | heat
  deriving DecidableEq, Repr

/-- The zone state (R38). -/
inductive ZoneState where
  | off
  | quiet
  | calling
  | frost
  | fallbackOn
  | fallbackRest
  deriving DecidableEq, Repr

/-- A thermostat slot: its address and the live part that goes with it (R36, R38). -/
structure Slot where
  addr : Option Byte := none
  reading : Option Int := none
  arrival : Option Clock := none
  fresh : Bool := false
  deriving DecidableEq, Repr

/-- A zone record: the settings of R35, the live part of R38, and the rank last handed to the Rotation Unit (R50). -/
structure Zone where
  enabled : Bool := false
  slot1 : Slot := {}
  slot2 : Slot := {}
  route : Option (Fin 8) := none
  priority : Nat := 1
  hyst : Nat := 5
  frostSet : Int := 50
  stale : Nat := 30
  onTime : Nat := 10
  economy : Nat := 10
  ovSet : Int := 180
  ovDur : Nat := 0
  requested : Int := 180
  mode : Mode := .heat
  ovLeft : Option Nat := none
  eff : Int := 180
  measured : Option Int := none
  normalCall : Bool := false
  frostFlag : Bool := false
  state : ZoneState := .off
  cycleStart : Option Clock := none
  handed : Option Nat := none
  deriving DecidableEq, Repr

/-- The Zone Unit (R35, R57). -/
structure ZoneUnit where
  recs : Eight Zone
  invalidReading : Nat := 0
  badMode : Nat := 0
  deriving DecidableEq, Repr

/-! ### Rotation Unit (04) -/

/-- A record of the grant set (R59). -/
structure Grant where
  zone : Fin 8
  rank : Nat
  time : Clock
  order : Nat
  turn : Nat
  deriving DecidableEq, Repr

/-- A record of the waiting queue (R59). -/
structure Wait where
  zone : Fin 8
  rank : Nat
  time : Clock
  order : Nat
  deriving DecidableEq, Repr

/-- The state of a zone output (R70). -/
inductive OutState where
  | shut
  | opening
  | opened
  | closing
  deriving DecidableEq, Repr

/-- A zone output (R59); `travel` is the seconds left of its travel timer, 0 while it does not run. -/
structure Output where
  state : OutState := .shut
  travel : Nat := 0
  held : Bool := false
  deriving DecidableEq, Repr

/-- The Rotation Unit (R58, R59). -/
structure Rotation where
  limit : Nat := 2
  turnLen : Nat := 30
  travelTime : Nat := 120
  overrunTime : Nat := 180
  bypass : Bool := false
  grants : List Grant := []
  queue : List Wait := []
  grantCount : Nat := 0
  joinCount : Nat := 0
  outputs : Eight Output := Eight.all {}
  pump : Bool := false
  overrun : Option Nat := none
  lastFiring : Option Clock := none
  permit : Bool := false
  deriving DecidableEq, Repr

/-! ### Burner Supervisor (05) -/

/-- The seven burner states (R81). -/
inductive BurnerState where
  | idle
  | starting
  | firing
  | runout
  | locked
  | noStart
  | senseFault
  deriving DecidableEq, Repr

/-- A debounced input (R79). -/
structure Debounced where
  raw : Bool := false
  acc : Option Bool := none
  change : Option Nat := some 0
  deriving DecidableEq, Repr

/-- The Burner Supervisor (R78, R79, R81, R90, R93, R94). -/
structure Burner where
  startLimit : Nat := 60
  runoutLimit : Nat := 60
  backOff : Nat := 300
  dryStop : Bool := true
  run : Debounced := {}
  lock : Debounced := {}
  state : BurnerState := .idle
  timer : Option Nat := none
  demand : Bool := false
  reset : Bool := false
  gap : Option Nat := none
  presentMark : Bool := false
  firingTotal : Nat := 0
  cycles : Nat := 0
  shortCycles : Nat := 0
  period : Nat := 0
  lastPeriod : Nat := 0
  noStart : Nat := 0
  senseFault : Nat := 0
  deriving DecidableEq, Repr

/-! ### Recovery Controller (06) -/

/-- The twelve recovery states (R97). -/
inductive RecState where
  | none
  | cooling
  | due
  | waitOil
  | held
  | await
  | pregap
  | pulse
  | postgap
  | checking
  | proving
  | hard
  deriving DecidableEq, Repr

/-- The cause of a recovery record (R114). -/
inductive Cause where
  | auto
  | house
  | service
  | manual
  | unknown
  deriving DecidableEq, Repr

/-- The outcome of a recovery record (R114). -/
inductive RecOutcome where
  | pending
  | proved
  | relocked
  | ineffective
  | aborted
  | manual
  | unknown
  deriving DecidableEq, Repr

/-- The oil band (R129). -/
inductive Band where
  | unknown
  | normal
  | low
  | dry
  deriving DecidableEq, Repr

/-- A record of the recovery log (R114). -/
structure RecRecord where
  begin : Clock
  cause : Cause
  outcome : RecOutcome
  band : Band
  litres : Option Nat
  deriving DecidableEq, Repr

/-- The side that holds the claim (R111). -/
inductive ClaimSide where
  | none
  | house
  | field
  deriving DecidableEq, Repr

/-- The Recovery Controller (R96, R97, R101, R102, R111, R114). -/
structure Recovery where
  auto : Bool := false
  budgetMax : Nat := 2
  window : Nat := 24
  coolOff : Nat := 300
  spacingTime : Nat := 1800
  pulseLen : Nat := 3
  gapLen : Nat := 5
  provingTime : Nat := 180
  noGauge : Bool := false
  holdTime : Nat := 30
  state : RecState := .none
  timer : Option Nat := none
  proving : Nat := 0
  spacing : Option Nat := none
  budget : List Clock := []
  log : List RecRecord := []
  word : BitVec 16 := 0
  side : ClaimSide := .none
  hold : Option Nat := none
  deriving DecidableEq, Repr

/-! ### Tank Gauge (07) -/

/-- The sample in flight: none, its SUPPLY conversion, or its TANK conversion with the held count s (R119). -/
inductive Conversion where
  | idle
  | supply
  | tank (s : BitVec 12)
  deriving DecidableEq, Repr

/-- An entry of a strapping table; a depth of `none` is the unused encoding (R132). -/
structure StrapEntry where
  depth : Option Nat := none
  volume : Nat := 0
  deriving DecidableEq, Repr

/-- The Tank Gauge (R118 to R137). -/
structure Gauge where
  interval : Nat := 60
  zero : Nat := 410
  scale : Nat := 1250
  shift : Nat := 3
  delivery : Nat := 100
  dryT : Nat := 150
  lowT : Nat := 500
  bandHyst : Nat := 20
  reportMin : Nat := 15
  sampleTimer : Nat := 60
  conv : Conversion := .supply
  sampleCount : BitVec 16 := 0
  lastT : Option Nat := none
  lastS : Option Nat := none
  lastN : Option Nat := none
  lastH : Option Nat := none
  lastV : Option Nat := none
  fault : Bool := false
  invalidRun : Nat := 0
  validRun : Nat := 0
  sFlag : Bool := false
  s10 : Nat := 0
  band : Band := .unknown
  lastBand : Option Band := none
  rising : Bool := false
  candRun : Nat := 0
  settleRun : Nat := 0
  before : Nat := 0
  peak : Nat := 0
  candMax : Nat := 0
  reportTimer : Option Nat := some 900
  reportDue : Bool := false
  live : List StrapEntry := List.replicate 24 {}
  pend : List StrapEntry := List.replicate 24 {}
  supplyFault : Nat := 0
  openInput : Nat := 0
  shortInput : Nat := 0
  riseAbandoned : Nat := 0
  reportDropped : Nat := 0
  deriving DecidableEq, Repr

/-! ### Oil Accounting (08) -/

/-- The kind of an oil event (R150). -/
inductive OilKind where
  | delivery
  | lossIdle
  | lossRun
  | gaugeFault
  | gaugeRestored
  deriving DecidableEq, Repr

/-- The source of a DELIVERY record (R150). -/
inductive OilSource where
  | rise
  | reconcile
  deriving DecidableEq, Repr

/-- A record of the oil events list (R150). -/
structure OilEvent where
  kind : OilKind
  time : Clock
  before : Option Nat
  after : Option Nat
  amount : Nat
  source : Option OilSource
  deriving DecidableEq, Repr

/-- Oil Accounting (R138, R139). -/
structure Oil where
  nozzle : Nat := 2500
  reconcileHours : Nat := 6
  idleLoss : Nat := 25
  runLoss : Nat := 60
  deliveryLoss : Nat := 200
  based : Bool := false
  base : Nat := 0
  rebaseTime : Option Clock := none
  used : Nat := 0
  remainder : Nat := 0
  firing : Nat := 0
  timerRuns : Bool := false
  due : Bool := false
  observed : Option Nat := none
  armed : Bool := true
  checkpoint : Option Nat := none
  ring : List Nat := []
  today : Nat := 0
  rollDue : Bool := false
  daysToDry : Option Nat := none
  events : List OilEvent := []
  deriving DecidableEq, Repr

/-! ### Postbox (09) -/

/-- The kind of a post (R153). -/
inductive PostKind where
  | setpoint
  | mode
  | notice
  deriving DecidableEq, Repr

/-- A post (R153); `value` is the setpoint in tenths, 0 OFF or 1 HEAT, or the notice code. -/
structure Post where
  dest : Byte
  tag : Nat
  kind : PostKind
  value : Nat
  internal : Bool
  wait : Bool
  posted : Clock
  expiry : Clock
  attempts : Nat := 0
  outstanding : Bool := false
  deriving DecidableEq, Repr

/-- The Postbox (R153, R166). -/
structure Postbox where
  posts : List Post := []
  tagCounter : Nat := 0
  strayTaken : Nat := 0
  replyRefused : Nat := 0
  noticeLost : Nat := 0
  deriving DecidableEq, Repr

/-! ### Management Unit (10) and settings store (11) -/

/-- The request behind the restart pending mark (R177). -/
inductive RestartKind where
  | restart
  | reload
  deriving DecidableEq, Repr

/-- The restart pending mark, and whether the last character of its ANSWER has been sent (R177). -/
structure RestartMark where
  kind : RestartKind
  answerSent : Bool := false
  deriving DecidableEq, Repr

/-- The Management Unit (R173, R177, R178). -/
structure Management where
  attn : BitVec 16 := 0
  enable : BitVec 16 := 0xFFFF
  restart : Option RestartMark := none
  houseKind : Nat := 0
  houseNoticeLost : Nat := 0
  deriving DecidableEq, Repr

/-- The phase of a save in flight (R182). -/
inductive SavePhase where
  | mark
  | body
  | header
  | readback
  deriving DecidableEq, Repr

/-- A save in flight: its phase and the image built from its snapshot (R182). -/
structure Save where
  phase : SavePhase
  image : List Byte
  deriving DecidableEq, Repr

/-- The settings memory: (address, byte) pairs in one canonical form (log 6). -/
abbrev Memory := List Host.Cell

/-- The settings store interface and the memory behind it (R180, R182; `spoilt`: log 9). -/
structure Store where
  present : Bool := false
  fault : Bool := false
  failures : Nat := 0
  save : Option Save := none
  mem : Memory := []
  spoilt : Bool := false
  deriving DecidableEq, Repr

/-! ### The whole part -/

/-- The state of the part: the model's own fields first (log 1, log 4, log 8), then block by block. -/
structure State where
  powered : Bool
  free : Nat
  tick : Tick
  secTick : Tick
  clock : Clock
  ports : Ports
  cls : Classifier
  zones : ZoneUnit
  rot : Rotation
  burner : Burner
  recov : Recovery
  gauge : Gauge
  oil : Oil
  postbox : Postbox
  mgmt : Management
  store : Store
  pending : List Instr
  deriving DecidableEq, Repr

/-- Why the block would stop with a fault. It has no constructor: nothing in the manual stops the part, and no
command of the model faults (INVENTORY.md, Faults). -/
inductive Fault where
  deriving DecidableEq, Repr

/-- Why a command is refused. -/
inductive Refusal where
  /-- The command has no meaning in the model yet; raised by `exec` alone, and by no arm while every row is
  modelled. Safe. -/
  | notModelled (mnemonic : String)
  deriving DecidableEq, Repr

/-- Every block at its power-on values with the default settings, before the Zone Unit's first handoffs (R17, R21,
R55, R77, R95, R116, R137, R152, R167, R173, R180): zone 0 enabled, every zone's calls off. -/
def State.blank : State where
  powered := true
  free := 0
  tick := 0
  secTick := 0
  clock := 0
  ports := {}
  cls := {}
  zones := { recs := { Eight.all {} with e0 := { enabled := true } } }
  rot := {}
  burner := {}
  recov := {}
  gauge := {}
  oil := {}
  postbox := {}
  mgmt := {}
  store := {}
  pending := []

/-- The part right after reset: power-on with the STORE strap low, so on the default settings. Zone 0 has entered
FALLBACK_ON at line clock 0 and is granted, so PUMP is on and the zone-side permit is present (R55, R77). -/
def State.reset : State :=
  { State.blank with
    zones := { recs := { Eight.all {} with
      e0 := { enabled := true, state := .fallbackOn, cycleStart := some 0, handed := some 4 } } }
    rot := { grants := [⟨0, 4, 0, 1, 0⟩], grantCount := 1, joinCount := 1, pump := true, permit := true } }

end Sys2Proof.Machine
end

