-- ==== Sys2Proof/Machine/Ops.lean ====
section
/-! DEFINITION. The shared operations: updates of one block, saturating counters, ages, byte order, frames and their
check, the queues' offers, the settings memory, and the gauge values other blocks use. -/

namespace Sys2Proof.Machine

/-! ### Updates of one block -/

/-- The state with its line ports taken through `f`. -/
def State.onPorts (f : Ports → Ports) (s : State) : State := { s with ports := f s.ports }

/-- The state with its address map and classifier taken through `f`. -/
def State.onCls (f : Classifier → Classifier) (s : State) : State := { s with cls := f s.cls }

/-- The state with its Zone Unit taken through `f`. -/
def State.onZones (f : ZoneUnit → ZoneUnit) (s : State) : State := { s with zones := f s.zones }

/-- The state with its Rotation Unit taken through `f`. -/
def State.onRot (f : Rotation → Rotation) (s : State) : State := { s with rot := f s.rot }

/-- The state with its Burner Supervisor taken through `f`. -/
def State.onBurner (f : Burner → Burner) (s : State) : State := { s with burner := f s.burner }

/-- The state with its Recovery Controller taken through `f`. -/
def State.onRecov (f : Recovery → Recovery) (s : State) : State := { s with recov := f s.recov }

/-- The state with its Tank Gauge taken through `f`. -/
def State.onGauge (f : Gauge → Gauge) (s : State) : State := { s with gauge := f s.gauge }

/-- The state with its Oil Accounting taken through `f`. -/
def State.onOil (f : Oil → Oil) (s : State) : State := { s with oil := f s.oil }

/-- The state with its Postbox taken through `f`. -/
def State.onPostbox (f : Postbox → Postbox) (s : State) : State := { s with postbox := f s.postbox }

/-- The state with its Management Unit taken through `f`. -/
def State.onMgmt (f : Management → Management) (s : State) : State := { s with mgmt := f s.mgmt }

/-- The state with its settings store taken through `f`. -/
def State.onStore (f : Store → Store) (s : State) : State := { s with store := f s.store }

/-- The state with its line time moved on to `t`; time never runs back (log 4). -/
def State.reach (t : Tick) (s : State) : State := { s with tick := max s.tick t }

/-- The state after one free value has been drawn (log 8). -/
def State.drawn (s : State) : State := { s with free := s.free + 1 }

/-- A command's effect while the supply is up; a part without supply takes nothing (R183; log 2). -/
def whenOn (f : State → State) (s : State) : Host.Outcome State Fault Refusal :=
  .next (if s.powered then f s else s)

/-! ### Counters, ages, byte order -/

/-- An event counter increased by one: 16 bits, holding at 65,535 (Introduction, Counters). -/
def satInc (n : Nat) : Nat := min 65535 (n + 1)

/-- The top of a 32-bit count of seconds, at which it holds (R93, R139; log 37). -/
def secondsTop : Nat := 4294967295

/-- The seconds from `t` to `now`, modulo 2^32 (Introduction, The line clock). -/
def age (now t : Clock) : Nat := (now - t).toNat

/-- A running timer one second on; its expiry waits as 0 seconds left (log 2). -/
def tickDown : Option Nat → Option Nat := Option.map (· - 1)

/-- `v` clamped to `lo..hi` (Introduction, Arithmetic). -/
def clampInt (lo hi v : Int) : Int := if v < lo then lo else if hi < v then hi else v

/-- The quotient rounded up to whole minutes (R38, 12.2). -/
def minutesUp (seconds : Nat) : Nat := (seconds + 59) / 60

/-- `n` bytes of `v`, least significant first (12_formats.md). -/
def leBytes : Nat → Nat → List Byte
  | 0, _ => []
  | n + 1, v => BitVec.ofNat 8 v :: leBytes n (v / 256)

/-- `n` bytes of a two's complement value, least significant first (12_formats.md). -/
def leInt (n : Nat) (v : Int) : List Byte := leBytes n (v % (256 ^ n : Nat)).toNat

/-- The unsigned value of bytes stored least significant first. -/
def ofLE : List Byte → Nat
  | [] => 0
  | b :: bs => b.toNat + 256 * ofLE bs

/-- The two's complement value of 16 bits. -/
def signed16 (v : Nat) : Int := if v < 32768 then v else (v : Int) - 65536

/-- The absent encodings of R186. -/
def absentWord : Nat := 0xFFFF

/-- The absent line clock value (R186). -/
def absentClock : Nat := 0xFFFFFFFF

/-- The absent temperature (R186). -/
def absentTemp : Nat := 0x8000

/-! ### Frames (1.2, 12.1) -/

def kindRoom : Byte := 0x01
def kindWake : Byte := 0x02
def kindTaken : Byte := 0x03
def kindSvc : Byte := 0x04
def kindPost : Byte := 0x11
def kindNomail : Byte := 0x12
def kindSvcans : Byte := 0x13
def kindPass : Byte := 0x21
def kindMgmt : Byte := 0x22
def kindRoomUp : Byte := 0x31
def kindPassUp : Byte := 0x32
def kindAnswer : Byte := 0x33
def kindNotice : Byte := 0x34
def kindGauge : Byte := 0x35

/-- The fourteen defined kinds (12.1). -/
def definedKinds : List Byte :=
  [kindRoom, kindWake, kindTaken, kindSvc, kindPost, kindNomail, kindSvcans, kindPass, kindMgmt,
    kindRoomUp, kindPassUp, kindAnswer, kindNotice, kindGauge]

/-- The line address of the house controller (Introduction, Addresses). -/
def houseAddr : Byte := 62

/-- The pair sum A, B of a list of bytes (R2). -/
def pairSum (bs : List Byte) : Byte × Byte :=
  bs.foldl (fun (p : Byte × Byte) b => (p.1 + b, p.2 + (p.1 + b))) (0, 0)

/-- The bytes the pair sum is taken over: destination through last payload byte (R2). -/
def frameBody (f : Frame) : List Byte :=
  f.dest :: f.source :: f.kind :: f.tag :: BitVec.ofNat 8 f.payload.length :: f.payload

/-- The characters of a frame as sent (12.1). -/
def frameBytes (f : Frame) : List Byte :=
  0xA5 :: frameBody f ++ [(pairSum (frameBody f)).1, (pairSum (frameBody f)).2]

/-- A frame as a receiver can hand it on: addresses 0..63 (R6) and at most 16 payload bytes (R4). -/
def frameFits (f : Frame) : Bool := f.dest ≤ 63 && f.source ≤ 63 && f.payload.length ≤ 16

/-! ### The transmit queues' offers (R9, R13) -/

/-- The house transmit queue takes the frame: an ANSWER while it holds fewer than 16, any other kind while it holds
fewer than 15 (R13). -/
def houseAccepts (f : Frame) (s : State) : Bool :=
  if f.kind = kindAnswer then s.ports.houseTx.length < 16 else s.ports.houseTx.length < 15

/-- The entry joins the tail of the house transmit queue. -/
def pushHouse (e : HouseEntry) (s : State) : State :=
  s.onPorts fun p => { p with houseTx := p.houseTx ++ [e] }

/-- The field transmit queue takes an offer while it holds fewer than 8 frames (R9). -/
def fieldAccepts (s : State) : Bool := s.ports.fieldTx.length < 8

/-- The entry joins the field transmit queue. -/
def pushField (e : TxEntry) (s : State) : State :=
  s.onPorts fun p => { p with fieldTx := p.fieldTx ++ [e] }

/-! ### The settings memory (11; log 6) -/

/-- What a byte of the settings memory that nothing has written reads as (DESIGN CHOICE, log 6). -/
def erasedByte : Byte := 0xFF

/-- The byte at an address of the settings memory. -/
def Memory.read : Memory → Nat → Byte
  | [], _ => erasedByte
  | (a, b) :: m, x => if x = a then b else Memory.read m x

/-- The memory with one byte written; the canonical form is kept. -/
def Memory.write : Memory → Nat → Byte → Memory
  | [], x, v => if v = erasedByte then [] else [(x, v)]
  | (a, b) :: m, x, v =>
    if x < a then (if v = erasedByte then (a, b) :: m else (x, v) :: (a, b) :: m)
    else if x = a then (if v = erasedByte then m else (a, v) :: m)
    else (a, b) :: Memory.write m x v

/-- The memory with bytes written from an address on. -/
def Memory.writeBytes (m : Memory) : Nat → List Byte → Memory
  | _, [] => m
  | x, b :: bs => Memory.writeBytes (Memory.write m x b) (x + 1) bs

/-- `n` bytes from an address on. -/
def Memory.readBytes (m : Memory) : Nat → Nat → List Byte
  | _, 0 => []
  | x, n + 1 => Memory.read m x :: Memory.readBytes m (x + 1) n

/-- The canonical form: addresses strictly rising, no entry equal to what an unlisted address reads as. -/
abbrev Memory.wf (m : Memory) : Prop :=
  m.Pairwise (fun p q => p.1 < q.1) ∧ ∀ c ∈ m, c.2 ≠ erasedByte

/-! ### The gauge as other blocks see it (R122, R125) -/

/-- The points of a strapping table: its entries up to the first unused one (R132). -/
def strapPoints : List StrapEntry → List (Nat × Nat)
  | [] => []
  | e :: es =>
    match e.depth with
    | none => []
    | some d => (d, e.volume) :: strapPoints es

/-- The three gauge states (R122). -/
inductive GaugeState where
  | noTable
  | fault
  | valid
  deriving DecidableEq, Repr

/-- The gauge state (R122). -/
def Gauge.state (g : Gauge) : GaugeState :=
  if (strapPoints g.live).length < 2 then .noTable else if g.fault then .fault else .valid

/-- A volume is reportable while the gauge is VALID and the S flag is set (R122). -/
def Gauge.reportable (g : Gauge) : Bool := decide (g.state = .valid) && g.sFlag

/-- The reported volume S_L in litres (R125). -/
def Gauge.litres (g : Gauge) : Nat := g.s10 / 10

/-- The reported volume where one is reportable. -/
def Gauge.reported (g : Gauge) : Option Nat := if g.reportable then some g.litres else none

/-- The rise watch of R143: RISING, or a candidate run of 1 or 2. -/
def Gauge.riseWatch (g : Gauge) : Bool := g.rising || decide (0 < g.candRun)

/-- The oil gate fails: band DRY, or UNKNOWN with reset without gauge off (R97, R100). -/
def oilGateFails (s : State) : Bool :=
  decide (s.gauge.band = .dry) || (decide (s.gauge.band = .unknown) && !s.recov.noGauge)

end Sys2Proof.Machine
end

