-- ==== Sys2Proof/Machine/Flags.lean ====
section
/-! DEFINITION. The codes of the enumerations (12.5), the attention bits with their notices (R173, R174), and the flag
bytes of table space (12.5, 12.6). -/

namespace Sys2Proof.Machine

/-! ### Codes (12.5) -/

def ZoneState.code : ZoneState → Nat
  | .off => 0
  | .quiet => 1
  | .calling => 2
  | .frost => 3
  | .fallbackOn => 4
  | .fallbackRest => 5

def BurnerState.code : BurnerState → Nat
  | .idle => 0
  | .starting => 1
  | .firing => 2
  | .runout => 3
  | .locked => 4
  | .noStart => 5
  | .senseFault => 6

def RecState.code : RecState → Nat
  | .none => 0
  | .cooling => 1
  | .due => 2
  | .waitOil => 3
  | .held => 4
  | .await => 5
  | .pregap => 6
  | .pulse => 7
  | .postgap => 8
  | .checking => 9
  | .proving => 10
  | .hard => 11

def Band.code : Band → Nat
  | .unknown => 0
  | .normal => 1
  | .low => 2
  | .dry => 3

def GaugeState.code : GaugeState → Nat
  | .noTable => 0
  | .fault => 1
  | .valid => 2

def ClaimSide.code : ClaimSide → Nat
  | .none => 0
  | .house => 1
  | .field => 2

def Cause.code : Cause → Nat
  | .auto => 0
  | .house => 1
  | .service => 2
  | .manual => 3
  | .unknown => 4

def RecOutcome.code : RecOutcome → Nat
  | .pending => 0
  | .proved => 1
  | .relocked => 2
  | .ineffective => 3
  | .aborted => 4
  | .manual => 5
  | .unknown => 6

def OilKind.code : OilKind → Nat
  | .delivery => 0
  | .lossIdle => 1
  | .lossRun => 2
  | .gaugeFault => 3
  | .gaugeRestored => 4

def OilSource.code : OilSource → Nat
  | .rise => 0
  | .reconcile => 1

def AddrClass.code : AddrClass → Nat
  | .room => 0
  | .listener => 1
  | .service => 2
  | .blocked => 3

/-- The class a code names (R18, 12.5). -/
def AddrClass.ofCode (b : Byte) : Option AddrClass :=
  if b = 0 then some .room else if b = 1 then some .listener else if b = 2 then some .service
  else if b = 3 then some .blocked else none

def OutState.code : OutState → Nat
  | .shut => 0
  | .opening => 1
  | .opened => 2
  | .closing => 3

/-- The post kinds of 12.2. -/
def PostKind.code : PostKind → Nat
  | .setpoint => 1
  | .mode => 2
  | .notice => 3

/-- The post kind a byte names (12.2, R185). -/
def PostKind.ofCode (b : Byte) : Option PostKind :=
  if b = 1 then some .setpoint else if b = 2 then some .mode else if b = 3 then some .notice else none

def SavePhase.code : SavePhase → Nat
  | .mark => 1
  | .body => 2
  | .header => 3
  | .readback => 4

/-- How a post ended (R165). -/
inductive PostOutcome where
  | delivered
  | undelivered
  | expired
  | withdrawn
  | superseded
  deriving DecidableEq, Repr

def PostOutcome.code : PostOutcome → Nat
  | .delivered => 0
  | .undelivered => 1
  | .expired => 2
  | .withdrawn => 3
  | .superseded => 4

/-- The invalid kind of a sample (R120); a valid sample has none. -/
inductive InvalidKind where
  | supply
  | opened
  | shorted
  deriving DecidableEq, Repr

def InvalidKind.code : InvalidKind → Nat
  | .supply => 1
  | .opened => 2
  | .shorted => 3

/-- An internal notice (R153, 12.2). -/
inductive Internal where
  | boilerFault
  | boilerOk
  | callEngineer
  | oilLow
  | oilDry
  | oilOk
  deriving DecidableEq, Repr

def Internal.code : Internal → Nat
  | .boilerFault => 1
  | .boilerOk => 2
  | .callEngineer => 3
  | .oilLow => 4
  | .oilDry => 5
  | .oilOk => 6

/-! ### Attention (10.4) -/

/-- The attention bits, numbered as in 12.6. -/
inductive AttnBit where
  | lockout
  | hard
  | recovered
  | burnerFault
  | oilLow
  | oilDry
  | delivery
  | loss
  | gauge
  | zone
  | post
  | claim
  | store
  | field
  | house
  | recoveryWait
  deriving DecidableEq, Repr

/-- The number of an attention bit, from bit 0 (12.6). -/
def AttnBit.index : AttnBit → Nat
  | .lockout => 0
  | .hard => 1
  | .recovered => 2
  | .burnerFault => 3
  | .oilLow => 4
  | .oilDry => 5
  | .delivery => 6
  | .loss => 7
  | .gauge => 8
  | .zone => 9
  | .post => 10
  | .claim => 11
  | .store => 12
  | .field => 13
  | .house => 14
  | .recoveryWait => 15

/-- The 16-bit word with this bit alone set. -/
def AttnBit.word (b : AttnBit) : BitVec 16 := (1 : BitVec 16) <<< b.index

/-- The ATTN output: some status bit is set whose enable bit is set (R15). -/
def State.attnPin (s : State) : Bool := decide (s.mgmt.attn &&& s.mgmt.enable ≠ 0)

/-- An event for the house: the attention bit it sets and what its NOTICE frame carries (12.3). -/
structure Notice where
  bit : AttnBit
  code : Byte
  subject : Nat := 0
  value1 : Nat := 0
  value2 : Nat := 0
  deriving DecidableEq, Repr

/-- The NOTICE frame of an event at line clock `now` (R174, 12.3). -/
def Notice.frame (n : Notice) (now : Clock) : Frame where
  dest := houseAddr
  source := 0
  kind := kindNotice
  tag := 0
  payload := n.code :: BitVec.ofNat 8 n.subject :: leBytes 2 n.value1 ++ leBytes 2 n.value2 ++ leBytes 4 now.toNat

/-- An attention status bit is set (R173). -/
def setAttn (b : AttnBit) (s : State) : State :=
  s.onMgmt fun m => { m with attn := m.attn ||| b.word }

/-- A NOTICE is lost: counted, and HOUSE set without a notice of its own (R174). -/
def loseNotice (s : State) : State :=
  s.onMgmt fun m =>
    { m with houseNoticeLost := satInc m.houseNoticeLost, attn := m.attn ||| AttnBit.house.word }

/-- An event sets its attention bit and, where the bit is enabled, offers its NOTICE to the house (R173, R174). -/
def raise (n : Notice) (s : State) : State :=
  if s.mgmt.enable &&& n.bit.word = 0 then setAttn n.bit s
  else if houseAccepts (n.frame s.clock) s then pushHouse { frame := n.frame s.clock } (setAttn n.bit s)
  else loseNotice (setAttn n.bit s)

/-! ### Flag bytes -/

/-- A list of on/off items as a flag byte, bit 0 first (12_formats.md). -/
def flagByte : List Bool → Nat
  | [] => 0
  | b :: bs => (if b then 1 else 0) + 2 * flagByte bs

/-- The part flags at 0x008 (12.6). -/
def partFlags (s : State) : Byte :=
  BitVec.ofNat 8 (flagByte [s.cls.forwardUnlisted, s.rot.bypass, s.burner.dryStop, s.recov.noGauge])

/-- The gauge byte (12.5). -/
def gaugeByte (g : Gauge) : Nat :=
  g.state.code + 4 * flagByte [g.rising, g.sFlag, g.fault]

/-- The claim byte of the claim view (12.5); bit 7 is used by STATUS only. -/
def claimByte (r : Recovery) : Nat :=
  r.side.code + 4 * flagByte [decide (r.word ≠ 0)]

/-- The band byte at 0x21F (12.6); bits 4 and 5 hold no band while none is last known (log 15). -/
def bandByte (now : Clock) (g : Gauge) : Nat :=
  g.band.code + (match g.lastBand with
    | none => 16 * ((Config.unstated 0x21F now.toNat).toNat % 4)
    | some b => 16 * b.code + 64)

/-- The flags of a zone record (12.6). -/
def zoneFlags (z : Zone) : Nat :=
  flagByte [z.slot1.fresh, z.slot2.fresh, z.normalCall, z.frostFlag, decide (z.mode = .heat)]

/-- Raw, accepted and accepted-present of one input (12.6). The manual gives an absent accepted level no bit value, and
`unset` is what stands there (log 15). -/
def inputBits (unset : Bool) (d : Debounced) : List Bool := [d.raw, d.acc.getD unset, d.acc.isSome]

/-- The inputs byte at 0x1D0 (12.6), the accepted bits 1 and 4 free while the levels are absent (log 15). -/
def inputsByte (now : Clock) (b : Burner) : Nat :=
  let free := Config.unstated 0x1D0 now.toNat
  flagByte (inputBits (free.getLsbD 1) b.run ++ inputBits (free.getLsbD 4) b.lock)

/-- The accounting flags at 0x2E8 (12.6). -/
def accountingFlags (o : Oil) : Nat :=
  flagByte [o.based, o.due, o.armed, o.checkpoint.isSome, o.observed.isSome, o.rebaseTime.isSome]

/-- The flag byte of a map entry (12.6). -/
def mapFlags (e : MapEntry) : Nat := flagByte [e.valid, e.forwardUp, e.guard]

end Sys2Proof.Machine
end

