-- ==== Sys2Proof/Machine/Oil.lean ====
section
/-! DEFINITION. Oil Accounting (08): burn, rebase, reconciliation, losses, deliveries, daily ring, days to dry. -/

namespace Sys2Proof.Machine

/-- A record joins at the tail of a list of at most `n`; the oldest leaves when `n` are held (R114, R150). -/
def joinBounded {α : Type} (n : Nat) (l : List α) (x : α) : List α :=
  if l.length < n then l ++ [x] else l.drop 1 ++ [x]

/-- The book volume in signed litres (R139). -/
def Oil.book (o : Oil) : Int := (o.base : Int) - ((o.used / 1000 : Nat) : Int)

/-- A record is added to the oil events list (R150). -/
def Oil.addEvent (e : OilEvent) (o : Oil) : Oil := { o with events := joinBounded 16 o.events e }

/-- The NOTICE of a DELIVERY record (R151). -/
def deliveryNotice (amount : Nat) (src : OilSource) : Notice where
  bit := .delivery
  code := 0x08
  value1 := amount
  value2 := src.code

/-- The NOTICE of a loss record (R151). -/
def lossNotice (amount : Nat) (kind : OilKind) : Notice where
  bit := .loss
  code := 0x09
  value1 := amount
  value2 := kind.code

/-- A rebase to `v` litres (R141). -/
def Oil.rebase (now : Clock) (v : Nat) (o : Oil) : Oil :=
  { o with
    based := true, base := v, used := 0, remainder := 0, firing := 0, rebaseTime := some now,
    due := false, timerRuns := true }

/-- The accounts become UNBASED (R142). -/
def Oil.unbase (o : Oil) : Oil :=
  { o with based := false, timerRuns := false, due := false, checkpoint := none }

/-- The top of the range of used, 2^40 − 1 mL (R139). -/
def usedTop : Nat := 1099511627775

/-- A firing second (R140, R148). Used and firing since rebase hold at the top of their ranges (R139; log 37). -/
def Oil.burn (o : Oil) : Oil :=
  if o.based then
    { o with
      remainder := (o.remainder + o.nozzle) % 3600
      used := min usedTop (o.used + (o.remainder + o.nozzle) / 3600)
      firing := min secondsTop (o.firing + 1)
      today := o.today + 1 }
  else { o with today := o.today + 1 }

/-- FIRING entered: the idle watch is disarmed (R146). -/
def Oil.firingEntered (o : Oil) : Oil := { o with armed := false, checkpoint := none }

/-- FIRING left: the idle watch is armed from the reported volume, if any (R146). -/
def Oil.firingLeft (reported : Option Nat) (o : Oil) : Oil := { o with armed := true, checkpoint := reported }

/-- The loss or delivery that a reconciliation records (R144 steps 2 and 3), with its notice. -/
def Oil.reconcileRecord (now : Clock) (sl : Nat) (o : Oil) : Oil × List Notice :=
  if (sl : Int) - o.book ≤ -(o.runLoss : Int) then
    (o.addEvent ⟨.lossRun, now, some o.book.toNat, some sl, (o.book - sl).toNat, none⟩,
      [lossNotice (o.book - sl).toNat .lossRun])
  else if (o.deliveryLoss : Int) ≤ (sl : Int) - o.book then
    ({ o.addEvent ⟨.delivery, now, some o.book.toNat, some sl, sl - o.book.toNat, some .reconcile⟩ with
        checkpoint := o.checkpoint.map fun _ => sl },
      [deliveryNotice (sl - o.book.toNat) .reconcile])
  else (o, [])

/-- The observed rate as a reconciliation judges it (R144 step 4). -/
def Oil.judgeRate (sl : Nat) (o : Oil) : Option Nat :=
  if 3600 ≤ o.firing ∧ sl < o.base then some (min 65535 ((o.base - sl) * 1000 * 3600 / o.firing)) else o.observed

/-- A reconciliation at volume `sl` (R144). -/
def Oil.reconcile (now : Clock) (sl : Nat) (o : Oil) : Oil × List Notice :=
  (({ (o.reconcileRecord now sl).1 with observed := o.judgeRate sl }).rebase now sl, (o.reconcileRecord now sl).2)

/-- The idle test of a sample report with a reportable volume (R146). -/
def Oil.idleCheck (now : Clock) (sl : Nat) (o : Oil) : Oil × List Notice :=
  if o.armed then
    match o.checkpoint with
    | none => ({ o with checkpoint := some sl }, [])
    | some c =>
      if sl + o.idleLoss ≤ c then
        ({ o.addEvent ⟨.lossIdle, now, some c, some sl, c - sl, none⟩ with checkpoint := none },
          [lossNotice (c - sl) .lossIdle])
      else (o, [])
  else ({ o with checkpoint := none }, [])

/-- Days to dry from the reported volume and DRY_T (R149). -/
def Oil.days (sl : Option Nat) (dryT : Nat) (o : Oil) : Option Nat :=
  match sl with
  | none => none
  | some v =>
    if o.ring.length = 0 then none
    else if v ≤ dryT then some 0
    else if o.ring.sum = 0 then some 999
    else some (min 999 ((v - dryT) * 1000 * o.ring.length * 3600 / (o.ring.sum * o.nozzle)))

/-- A sample report (R145): `sl` the reported volume if one is reportable, `first` the first-reportable mark. -/
def Oil.sampleReport (now : Clock) (valid : Bool) (sl : Option Nat) (first : Bool) (dryT : Nat) (o : Oil) :
    Oil × List Notice :=
  if valid then
    match sl with
    | none => ({ o with daysToDry := none }, [])
    | some v =>
      let opened : Oil × List Notice :=
        if first then (if o.based then o.reconcile now v else (o.rebase now v, [])) else (o, [])
      let checked := opened.1.idleCheck now v
      ({ checked.1 with daysToDry := checked.1.days (some v) dryT }, opened.2 ++ checked.2)
  else (o, [])

/-- A Rise event carrying before and after (R147). -/
def Oil.rise (now : Clock) (before after : Nat) (o : Oil) : Oil × List Notice :=
  (({ o.addEvent ⟨.delivery, now, some before, some after, after - before, some .rise⟩ with
      checkpoint := o.checkpoint.map fun _ => after }).rebase now after,
    [deliveryNotice (after - before) .rise])

/-- The daily ring rolls; with `early` the last second counted belongs to the new day (R148). -/
def Oil.roll (early : Bool) (o : Oil) : Oil :=
  { o with
    ring := (if early then o.today - 1 else o.today) :: o.ring.take 6
    today := if early then 1 else 0
    rollDue := false }

/-! ### Oil Accounting in the part -/

/-- The events of a list raised in order (R173). -/
def raiseAll (ns : List Notice) (s : State) : State := ns.foldl (fun s n => raise n s) s

/-- Oil Accounting takes something that may raise notices. -/
def oilTakes (f : Oil → Oil × List Notice) (s : State) : State :=
  raiseAll (f s.oil).2 (s.onOil fun o => (f o).1)

/-- The reconcile timer has reached its interval (R143). -/
def reconcileReached (s : State) : Bool :=
  decide (s.oil.reconcileHours * 3600 ≤ age s.clock (s.oil.rebaseTime.getD 0))

/-- A reconciliation that has become due is taken where a volume is reportable and the rise watch is off, and is
marked due otherwise, its timer stopped (R143). -/
def reconcileOrMark (s : State) : State :=
  match s.gauge.reported with
  | some v =>
    if s.gauge.riseWatch then s.onOil fun o => { o with due := true, timerRuns := false }
    else oilTakes (·.reconcile s.clock v) s
  | none => s.onOil fun o => { o with due := true, timerRuns := false }

/-- The end of the handoffs of a sample: a due reconciliation, marked or just run out, is taken (R143). -/
def reconcileAfterSample (s : State) : State :=
  if s.oil.based && (s.oil.due || (s.oil.timerRuns && reconcileReached s)) then reconcileOrMark s else s

/-- RECONCILE_TIMER_EXPIRES (R143). -/
def reconcileTimerExpires (s : State) : State :=
  if s.oil.based && s.oil.timerRuns && reconcileReached s then reconcileOrMark s else s

/-- DAILY_RING_ROLL (R148): `beforeSecond` takes the roll ahead of the firing second that carries the same line clock
value (log 11). -/
def dailyRingRoll (beforeSecond : Bool) (s : State) : State :=
  if s.oil.rollDue then
    s.onOil (·.roll (beforeSecond && decide (s.clock.toNat % 86400 = 0) && decide (s.rot.lastFiring = some s.clock)
      && decide (0 < s.oil.today)))
  else s

def execReconcileTimerExpires (s : State) : Host.Outcome State Fault Refusal := whenOn reconcileTimerExpires s

def execDailyRingRoll (beforeSecond : Bool) (s : State) : Host.Outcome State Fault Refusal :=
  whenOn (dailyRingRoll beforeSecond) s

end Sys2Proof.Machine
end

