-- ==== Sys2Proof/Machine/Demand.lean ====
section
/-! DEFINITION. Burner supervision, the outputs: the demand conditions and their judgement, the entries into the
burner states, the FIRING period, and the relay interlock (R81, R82, R88, R90, R93). -/

namespace Sys2Proof.Machine

/-- The change timer has reached 2 s (R79). -/
def Debounced.due (d : Debounced) : Bool := decide (d.change = some 2)

/-- The Supervisor has accepted both inputs; until then it is settling (R80). -/
def Burner.settled (b : Burner) : Bool := b.run.acc.isSome && b.lock.acc.isSome

/-- RUN is accepted on. -/
def Burner.runOn (b : Burner) : Bool := decide (b.run.acc = some true)

/-- LOCK is accepted on. -/
def Burner.lockOn (b : Burner) : Bool := decide (b.lock.acc = some true)

/-- Demand condition 2: the Recovery Controller is in NONE or PROVING (R82). -/
def Recovery.allowsDemand (r : Recovery) : Bool := decide (r.state = .none) || decide (r.state = .proving)

/-- Demand condition 3, the oil permit (R82). -/
def oilPermit (s : State) : Bool := !(decide (s.gauge.band = .dry) && s.burner.dryStop)

/-- The six demand conditions of R82. -/
def demandConditions (s : State) : Bool :=
  s.rot.permit && s.recov.allowsDemand && oilPermit s && (!s.burner.reset && s.burner.gap.isNone) && s.burner.settled
    && (decide (s.burner.state = .idle) || decide (s.burner.state = .starting) || decide (s.burner.state = .firing))

/-- DEMAND is energized and the state becomes STARTING with its start limit (R82). -/
def Burner.start (b : Burner) : Burner :=
  { b with demand := true, state := .starting, timer := some b.startLimit }

/-- DEMAND is released and the state becomes RUNOUT with its runout limit (R83, R84). -/
def Burner.toRunout (b : Burner) : Burner :=
  { b with demand := false, state := .runout, timer := some b.runoutLimit }

/-- The state becomes IDLE with DEMAND released and no timer (R81). -/
def Burner.toIdle (b : Burner) : Burner := { b with demand := false, state := .idle, timer := none }

/-- The FIRING period ends: its length is stored and a short cycle counted under 120 s (R93). -/
def Burner.endPeriod (b : Burner) : Burner :=
  { b with
    lastPeriod := b.period, period := 0
    shortCycles := if b.period < 120 then satInc b.shortCycles else b.shortCycles }

/-- A FIRING period begins (R83, R93). -/
def Burner.toFiring (b : Burner) : Burner :=
  { b with state := .firing, timer := none, cycles := satInc b.cycles, period := 0 }

/-- FIRING is left: the period ends and Oil Accounting arms its idle watch (R92, R93, R146). -/
def leaveFiring (s : State) : State :=
  (s.onBurner Burner.endPeriod).onOil (·.firingLeft s.gauge.reported)

/-- FIRING is entered (R83, R92, R146). -/
def enterFiring (s : State) : State := (s.onBurner Burner.toFiring).onOil Oil.firingEntered

/-- The demand conditions are judged (R82). While the Supervisor settles they are not judged (R80). -/
def judgeDemand (s : State) : State :=
  if s.burner.settled then
    match s.burner.state with
    | .idle => if demandConditions s then s.onBurner Burner.start else s
    | .starting => if demandConditions s then s else s.onBurner Burner.toRunout
    | .firing => if demandConditions s then s else (leaveFiring s).onBurner Burner.toRunout
    | _ => s
  else s

/-- The burner enters IDLE, and the demand conditions are judged (R82). -/
def enterIdle (s : State) : State := judgeDemand (s.onBurner Burner.toIdle)

/-- The NOTICE of a sense fault: the state left, and the accepted levels (R88, 12.3). -/
def senseFaultNotice (left : BurnerState) (b : Burner) : Notice where
  bit := .burnerFault
  code := 0x05
  subject := left.code
  value1 := flagByte [b.runOn, b.lockOn]

/-- The burner enters SENSE_FAULT from the state `left` (R88). -/
def enterSenseFault (left : BurnerState) (s : State) : State :=
  raise (senseFaultNotice left s.burner)
    (s.onBurner fun b =>
      { b with demand := false, state := .senseFault, timer := none, senseFault := satInc b.senseFault })

/-- RESET follows the Recovery Controller: energized in PULSE, released at its end, when the reset gap starts (R90). -/
def Burner.followPulse (pulse : Bool) (gapLen : Nat) (b : Burner) : Burner :=
  { b with
    reset := pulse
    gap := if b.reset && !pulse then some gapLen else b.gap }

/-- START_LIMIT_EXPIRES (R83). -/
def startLimitExpires (s : State) : State :=
  if s.burner.state = .starting ∧ s.burner.timer = some 0 then
    s.onBurner fun b =>
      { b with demand := false, state := .noStart, timer := some b.backOff, noStart := satInc b.noStart }
  else s

/-- RUNOUT_LIMIT_EXPIRES, in RUNOUT (R85) and in LOCKED (R87). -/
def runoutLimitExpires (s : State) : State :=
  if s.burner.timer = some 0 then
    match s.burner.state with
    | .runout => if s.burner.runOn then enterSenseFault .runout s else enterIdle s
    | .locked => if s.burner.runOn then enterSenseFault .locked s else s.onBurner fun b => { b with timer := none }
    | _ => s
  else s

/-- BACK_OFF_EXPIRES (R86). -/
def backOffExpires (s : State) : State :=
  if s.burner.state = .noStart ∧ s.burner.timer = some 0 then enterIdle s else s

/-- CLEAR_TIMER_EXPIRES (R88). Where the acceptance of RUN on is due at the same moment, R89 has SENSE_FAULT follow IDLE,
so the demand conditions are not judged before that acceptance (log 38). -/
def clearTimerExpires (s : State) : State :=
  if s.burner.state = .senseFault ∧ s.burner.timer = some 0 then
    (if s.burner.run.due && s.burner.run.raw then s.onBurner Burner.toIdle else enterIdle s)
  else s

/-- RESET_GAP_ENDS (R90): demand condition 4 holds again, and the conditions are judged. -/
def resetGapEnds (s : State) : State :=
  if s.burner.gap = some 0 then judgeDemand (s.onBurner fun b => { b with gap := none }) else s

def execStartLimitExpires (s : State) : Host.Outcome State Fault Refusal := whenOn startLimitExpires s

def execRunoutLimitExpires (s : State) : Host.Outcome State Fault Refusal := whenOn runoutLimitExpires s

def execBackOffExpires (s : State) : Host.Outcome State Fault Refusal := whenOn backOffExpires s

def execClearTimerExpires (s : State) : Host.Outcome State Fault Refusal := whenOn clearTimerExpires s

def execResetGapEnds (s : State) : Host.Outcome State Fault Refusal := whenOn resetGapEnds s

end Sys2Proof.Machine
end

