-- ==== Sys2Proof/Machine/Rotation.lean ====
section
/-! DEFINITION. Grants, rotation and zone outputs (04). -/

namespace Sys2Proof.Machine

/-- The routes of the eight zones as the Rotation Unit reads them from the zone records (R65). -/
abbrev Routes := Eight (Option (Fin 8))

/-- The routes in force (R65). -/
def routesOf (s : State) : Routes := s.zones.recs.map (·.route)

/-! ### The waiting queue -/

/-- Record `a` stands before record `b`: higher rank, then earlier join time by age, then lower join order (R59). -/
def waitBefore (now : Clock) (a b : Wait) : Bool :=
  decide (b.rank < a.rank) ||
    (decide (a.rank = b.rank) &&
      (decide (age now b.time < age now a.time) || (decide (a.time = b.time) && decide (a.order < b.order))))

/-- A record takes its place in the waiting queue (R59, R61, R64). -/
def enqueue (now : Clock) (w : Wait) : List Wait → List Wait
  | [] => [w]
  | x :: xs => if waitBefore now w x then w :: x :: xs else x :: enqueue now w xs

/-- The zone joins the queue now with the next join order (R61). -/
def Rotation.join (now : Clock) (z : Fin 8) (rank : Nat) (r : Rotation) : Rotation :=
  { r with
    joinCount := r.joinCount + 1
    queue := enqueue now ⟨z, rank, now, r.joinCount + 1⟩ r.queue }

/-! ### Grants -/

/-- Every held flag is cleared and a running overrun is stopped, as each grant does (R62, R75). -/
def Rotation.clearOverrun (r : Rotation) : Rotation :=
  { r with overrun := none, outputs := r.outputs.map fun o => { o with held := false } }

/-- The zone of a queue record is granted now with its turn timer at 0 and the next grant order (R62). -/
def Rotation.grant (now : Clock) (w : Wait) (r : Rotation) : Rotation :=
  { r.clearOverrun with
    grantCount := r.grantCount + 1
    grants := r.grants ++ [⟨w.zone, w.rank, now, r.grantCount + 1, 0⟩] }

/-- The fill over what is left of the queue (R62). -/
def fillFrom (now : Clock) : List Wait → Rotation → Rotation
  | [], r => { r with queue := [] }
  | w :: ws, r => if r.grants.length < r.limit then fillFrom now ws (r.grant now w) else { r with queue := w :: ws }

/-- Waiting zones are granted from the head until L zones are granted or the queue is empty (R62). -/
def Rotation.fill (now : Clock) (r : Rotation) : Rotation := fillFrom now r.queue r

/-- A granted zone is expired while its turn timer is at or above the turn length (R66). -/
def Rotation.expired (r : Rotation) (g : Grant) : Bool := decide (r.turnLen * 60 ≤ g.turn)

/-- Of two candidates of the swap check, the one taken first: lowest rank, then earliest grant time, then lowest grant
order (R67 step 2). -/
def swapFirst (now : Clock) (a b : Grant) : Grant :=
  if b.rank < a.rank then b
  else if a.rank < b.rank then a
  else if age now a.time < age now b.time then b
  else if age now b.time < age now a.time then a
  else if b.order < a.order then b
  else a

/-- The candidate the swap check takes (R67 steps 1 and 2). -/
def Rotation.candidate (now : Clock) (r : Rotation) : Option Grant :=
  match r.grants.filter r.expired with
  | [] => none
  | g :: gs => some (gs.foldl (swapFirst now) g)

/-- The swap check, at most `n` swaps (R67): each swap leaves one fewer expired zone. -/
def swapLoop (now : Clock) : Nat → Rotation → Rotation
  | 0, r => r
  | n + 1, r =>
    match r.candidate now, r.queue with
    | some c, h :: q =>
      if c.rank ≤ h.rank then
        swapLoop now n
          (({ r with queue := q, grants := r.grants.filter (fun g => decide (g.zone ≠ c.zone)) }.grant now h).join now
            c.zone c.rank)
      else r
    | _, _ => r

/-- The swap check (R67). -/
def Rotation.swapCheck (now : Clock) (r : Rotation) : Rotation := swapLoop now r.grants.length r

/-- Of two granted zones, the one a lowered limit moves out first: lowest rank, then latest grant time, then highest
grant order (R69). -/
def limitFirst (now : Clock) (a b : Grant) : Grant :=
  if b.rank < a.rank then b
  else if a.rank < b.rank then a
  else if age now b.time < age now a.time then b
  else if age now a.time < age now b.time then a
  else if a.order < b.order then b
  else a

/-- The excess zones leave the grant set one by one and rejoin the queue (R69). -/
def shedLoop (now : Clock) : Nat → Rotation → Rotation
  | 0, r => r
  | n + 1, r =>
    match r.grants with
    | [] => r
    | g :: gs =>
      if r.limit < r.grants.length then
        let c := gs.foldl (limitFirst now) g
        shedLoop now n
          ({ r with grants := r.grants.filter (fun x => decide (x.zone ≠ c.zone)) }.join now c.zone c.rank)
      else r

/-- The concurrent limit takes effect at once (R69). -/
def Rotation.applyLimit (now : Clock) (r : Rotation) : Rotation := (shedLoop now r.grants.length r).fill now

/-- The overrun is judged when the grant set has emptied (R74). -/
def Rotation.judgeOverrun (now : Clock) (r : Rotation) : Rotation :=
  match r.lastFiring with
  | none => r
  | some t =>
    if 0 < r.overrunTime ∧ age now t < r.overrunTime then
      { r with
        overrun := some r.overrunTime
        outputs := if r.bypass then r.outputs
          else r.outputs.map fun o => { o with held := o.held || decide (o.state = .opened) } }
    else r

/-! ### Outputs, permit, pump -/

/-- An output's valve is on its way: the travel timer runs (R70). -/
def Output.moving (o : Output) : Bool := decide (o.state = .opening) || decide (o.state = .closing)

/-- The seconds left of a running travel timer (R70). -/
def Output.travelLeft (o : Output) : Option Nat := if o.moving then some o.travel else none

/-- The relay of an output is energized in OPENING and OPEN and released in SHUT and CLOSING (R70). -/
def Output.relay (o : Output) : Bool :=
  match o.state with
  | .shut => false
  | .opening => true
  | .opened => true
  | .closing => false

/-- The relay drive of the pin ZV0 to ZV7 of this number (R70). -/
def State.valveRelay (s : State) (i : Fin 8) : Bool := (s.rot.outputs.get i).relay

/-- An output is wanted while a granted zone routes to it (R71). -/
def Rotation.wanted (routes : Routes) (r : Rotation) (i : Fin 8) : Bool :=
  r.grants.any fun g => decide (routes.get g.zone = some i)

/-- An output enters OPENING with a full travel (R70). -/
def Output.toOpening (travel : Nat) (o : Output) : Output := { o with state := .opening, travel := travel }

/-- An output enters CLOSING with a full travel (R70). -/
def Output.toClosing (travel : Nat) (o : Output) : Output := { o with state := .closing, travel := travel }

/-- The judgement of one output but for an unwanted OPEN one (R71). -/
def Output.judge (travel : Nat) (wanted : Bool) (o : Output) : Output :=
  match o.state, wanted with
  | .shut, true => o.toOpening travel
  | .closing, true => o.toOpening travel
  | .opening, false => o.toClosing travel
  | _, _ => o

/-- An unwanted OPEN output closes when it is not held and no wanted output is OPENING (R72). -/
def Output.judgeOpen (travel : Nat) (wanted anyOpening : Bool) (o : Output) : Output :=
  if o.state = .opened ∧ wanted = false ∧ o.held = false ∧ anyOpening = false then o.toClosing travel else o

/-- The outputs judged, all wanted ones before the unwanted OPEN ones (R71, R72). -/
def Rotation.judgeOutputs (routes : Routes) (r : Rotation) : Rotation :=
  let first := Eight.ofFn fun i => (r.outputs.get i).judge r.travelTime (r.wanted routes i)
  let anyOpening := eightNumbers.any fun i => r.wanted routes i && decide ((first.get i).state = .opening)
  { r with outputs := Eight.ofFn fun i => (first.get i).judgeOpen r.travelTime (r.wanted routes i) anyOpening }

/-- The zone-side permit (R73). -/
def Rotation.permitNow (routes : Routes) (r : Rotation) : Bool :=
  r.grants.any fun g =>
    match routes.get g.zone with
    | none => true
    | some i => decide ((r.outputs.get i).state = .opened)

/-- PUMP (R76). -/
def Rotation.pumpNow (routes : Routes) (r : Rotation) : Bool :=
  r.outputs.toList.any Output.relay
    || r.grants.any (fun g => decide (routes.get g.zone = none))
    || (r.bypass && r.overrun.isSome)

/-- PUMP set afresh (R76). -/
def Rotation.setPump (routes : Routes) (r : Rotation) : Rotation := { r with pump := r.pumpNow routes }

/-- The end of a Rotation Unit event: outputs judged, permit given, PUMP set (R60). -/
def Rotation.settle (routes : Routes) (r : Rotation) : Rotation :=
  ({ r.judgeOutputs routes with permit := (r.judgeOutputs routes).permitNow routes }).setPump routes

/-! ### The events of the Rotation Unit -/

/-- A start of call (R61). -/
def Rotation.startOfCall (now : Clock) (z : Fin 8) (rank : Nat) (r : Rotation) : Rotation :=
  ((r.join now z rank).fill now).swapCheck now

/-- The zone's record leaves the grant set or the queue (R63). -/
def Rotation.remove (z : Fin 8) (r : Rotation) : Rotation :=
  { r with
    grants := r.grants.filter (fun g => decide (g.zone ≠ z))
    queue := r.queue.filter (fun w => decide (w.zone ≠ z)) }

/-- An end of call (R63): the place is filled, the swap check runs, and an emptied grant set judges the overrun. -/
def Rotation.endOfCall (now : Clock) (z : Fin 8) (r : Rotation) : Rotation :=
  let filled := (r.remove z).fill now
  let judged := if filled.grants.isEmpty && !r.grants.isEmpty then filled.judgeOverrun now else filled
  judged.swapCheck now

/-- The queue with the record of zone `z`, if it waits, moved to its place for the rank (R64). -/
def reRank (now : Clock) (z : Fin 8) (rank : Nat) (q : List Wait) : List Wait :=
  match q.find? (fun w => decide (w.zone = z)) with
  | some w => enqueue now { w with rank := rank } (q.filter (fun x => decide (x.zone ≠ z)))
  | none => q

/-- A rank change (R64). -/
def Rotation.rankChange (now : Clock) (z : Fin 8) (rank : Nat) (r : Rotation) : Rotation :=
  Rotation.swapCheck now
    { r with
      queue := reRank now z rank r.queue
      grants := r.grants.map fun (g : Grant) => if g.zone = z then { g with rank := rank } else g }

/-- A firing second: every granted zone's turn timer counts, up to 3,600 (R66). -/
def Rotation.firingSecond (now : Clock) (r : Rotation) : Rotation :=
  { r with
    grants := r.grants.map fun g => { g with turn := min 3600 (g.turn + 1) }
    lastFiring := some now }

/-- The permit is given to the Burner Supervisor: a change of it is a change of a demand condition (R73, R82). -/
def givePermit (old : Bool) (s : State) : State := if s.rot.permit = old then s else judgeDemand s

/-- A Rotation Unit event whose own change is `f`, worked in the order of R60. -/
def rotationEvent (f : Rotation → Rotation) (s : State) : State :=
  givePermit s.rot.permit (s.onRot fun r => (f r).settle (routesOf s))

/-- The handoffs of the Zone Unit (R50): the rank handed before and the rank now. -/
def handOver (z : Fin 8) (old new : Option Nat) (s : State) : State :=
  match old, new with
  | none, some k => rotationEvent (·.startOfCall s.clock z k) s
  | some _, none => rotationEvent (·.endOfCall s.clock z) s
  | some a, some b => if a = b then s else rotationEvent (·.rankChange s.clock z b) s
  | none, none => s

/-- A route change of zone `z`: the outputs are judged afresh if the zone is granted (R65). -/
def routeChange (z : Fin 8) (s : State) : State :=
  if s.rot.grants.any (fun g => decide (g.zone = z)) then rotationEvent id s else s

/-- The swap check of a granted zone whose turn timer has reached the turn length (R66). -/
def turnExpires (z : Fin 8) (s : State) : State :=
  if s.rot.grants.any (fun g => decide (g.zone = z) && s.rot.expired g) then
    rotationEvent (·.swapCheck s.clock) s
  else s

/-- The travel timer of an output ends (R70). -/
def Output.travelEnd (o : Output) : Output :=
  match o.state with
  | .opening => { o with state := .opened, travel := 0 }
  | .closing => { o with state := .shut, travel := 0 }
  | _ => o

/-- An output's travel timer has run out. -/
def Output.travelOver (o : Output) : Bool :=
  o.moving && decide (o.travel = 0)

/-- VALVE_TRAVEL_END (R70). -/
def valveTravelEnd (i : Fin 8) (s : State) : State :=
  if (s.rot.outputs.get i).travelOver then
    rotationEvent (fun r => { r with outputs := r.outputs.set i (r.outputs.get i).travelEnd }) s
  else s

/-- OVERRUN_ENDS (R75). -/
def overrunEnds (s : State) : State :=
  if s.rot.overrun = some 0 then rotationEvent Rotation.clearOverrun s else s

/-- A write of bypass fitted sets PUMP afresh (R76). -/
def setPump (s : State) : State := s.onRot (·.setPump (routesOf s))

def execTurnExpires (zone : Fin 8) (s : State) : Host.Outcome State Fault Refusal := whenOn (turnExpires zone) s

def execValveTravelEnd (output : Fin 8) (s : State) : Host.Outcome State Fault Refusal :=
  whenOn (valveTravelEnd output) s

def execOverrunEnds (s : State) : Host.Outcome State Fault Refusal := whenOn overrunEnds s

end Sys2Proof.Machine
end

