-- ==== Sys2Proof/Machine/Zones.lean ====
section
/-! DEFINITION. Zones and the call for heat (03). -/

namespace Sys2Proof.Machine

/-! ### One zone record -/

/-- The slot of this number. -/
def Zone.slot (n : SlotNo) (z : Zone) : Slot :=
  match n with
  | .one => z.slot1
  | .two => z.slot2

/-- The record with one slot taken through `f`. -/
def Zone.onSlot (n : SlotNo) (f : Slot → Slot) (z : Zone) : Zone :=
  match n with
  | .one => { z with slot1 := f z.slot1 }
  | .two => { z with slot2 := f z.slot2 }

/-- The reading of a slot while it is fresh. -/
def Slot.freshReading (t : Slot) : Option Int := if t.fresh then t.reading else none

/-- The lower of two readings that may be absent. -/
def lowest : Option Int → Option Int → Option Int
  | none, b => b
  | a, none => a
  | some a, some b => some (min a b)

/-- The measured value M: the lowest fresh reading, absent while the zone is stale (R41). -/
def Zone.measure (z : Zone) : Option Int := lowest z.slot1.freshReading z.slot2.freshReading

/-- The base setpoint: the override setpoint while an override is active (R44 step 1). -/
def Zone.baseSet (z : Zone) : Int := if z.ovLeft.isSome then z.ovSet else z.requested

/-- E before clamping (R44 step 2). -/
def Zone.rawEff (band : Band) (z : Zone) : Int :=
  match z.mode, band with
  | .off, _ => z.frostSet
  | .heat, .dry => z.frostSet
  | .heat, .low => z.baseSet - z.economy
  | .heat, .normal => z.baseSet
  | .heat, .unknown => z.baseSet

/-- The effective setpoint E (R44). -/
def Zone.effective (band : Band) (z : Zone) : Int := clampInt z.frostSet 300 (z.rawEff band)

/-- The normal call at reading `m` and setpoint `e` (R45). -/
def Zone.judgeNormal (m e : Int) (z : Zone) : Bool :=
  if m < e - z.hyst then true else if e ≤ m then false else z.normalCall

/-- The frost call at reading `m` (R46). -/
def Zone.judgeFrost (m : Int) (z : Zone) : Bool :=
  if m < z.frostSet then true else if z.frostSet + z.hyst ≤ m then false else z.frostFlag

/-- The state from the two calls (R47). -/
def stateOfCalls (frost normal : Bool) : ZoneState :=
  if frost then .frost else if normal then .calling else .quiet

/-- The zone is in fallback (R48). -/
def ZoneState.inFallback (st : ZoneState) : Bool := decide (st = .fallbackOn) || decide (st = .fallbackRest)

/-- The fallback phase at the start of a cycle (R48, R49). -/
def fallbackStart (onTime : Nat) : ZoneState := if 0 < onTime then .fallbackOn else .fallbackRest

/-- The zone with E and M taken afresh (R51). -/
def Zone.refresh (band : Band) (z : Zone) : Zone := { z with eff := z.effective band, measured := z.measure }

/-- Entry into fallback at line clock `now` (R48). -/
def Zone.enterFallback (now : Clock) (z : Zone) : Zone :=
  { z with normalCall := false, frostFlag := false, cycleStart := some now, state := fallbackStart z.onTime }

/-- A zone that is not enabled (R47, R54). -/
def Zone.toOff (z : Zone) : Zone :=
  { z with normalCall := false, frostFlag := false, cycleStart := none, state := .off }

/-- A fresh enabled zone judged by its two calls at reading `m` (R45, R46, R47). -/
def Zone.judgeCalls (m : Int) (z : Zone) : Zone :=
  { z with
    normalCall := z.judgeNormal m z.eff, frostFlag := z.judgeFrost m, cycleStart := none
    state := stateOfCalls (z.judgeFrost m) (z.judgeNormal m z.eff) }

/-- An evaluation of the zone (R51): E, M, then the state. -/
def Zone.evaluate (band : Band) (now : Clock) (z : Zone) : Zone :=
  if z.enabled then
    match z.measure with
    | some m => (z.refresh band).judgeCalls m
    | none => if z.state.inFallback then z.refresh band else (z.refresh band).enterFallback now
  else (z.refresh band).toOff

/-- The rank of a zone; none while it does not call (R50). -/
def Zone.rank (z : Zone) : Option Nat :=
  match z.state with
  | .frost => some 4
  | .fallbackOn => some 4
  | .calling => some z.priority
  | _ => none

/-- The change of state sets the ZONE attention bit (R52). -/
def zoneAlarm (old new : ZoneState) : Bool :=
  (new.inFallback && (decide (old = .quiet) || decide (old = .calling) || decide (old = .frost)))
    || (decide (new = .frost) && !decide (old = .frost))

/-- The ZONE notice (R52, 12.3). -/
def zoneNotice (i : Fin 8) (st : ZoneState) : Notice where
  bit := .zone
  code := 0x0B
  subject := i.val
  value1 := st.code

/-- The seconds since the current fallback cycle start (R49). -/
def Zone.cycleAge (now : Clock) (z : Zone) : Nat := age now (z.cycleStart.getD now)

/-- A fallback phase that is over changes (R49). -/
def Zone.phaseChange (now : Clock) (z : Zone) : Zone :=
  if 3600 ≤ z.cycleAge now then
    { z with cycleStart := z.cycleStart.map (· + 3600), state := fallbackStart z.onTime }
  else { z with state := .fallbackRest }

/-- The fallback phase is over: 60 minutes of the cycle, or F minutes in FALLBACK_ON (R49). -/
def Zone.phaseOver (now : Clock) (z : Zone) : Bool :=
  z.enabled && z.state.inFallback && z.cycleStart.isSome &&
    (decide (3600 ≤ z.cycleAge now) || (decide (z.state = .fallbackOn) && decide (z.onTime * 60 ≤ z.cycleAge now)))

/-- The phase of a zone in fallback judged afresh after a write of F (R49). -/
def Zone.rejudgePhase (now : Clock) (z : Zone) : Zone :=
  if z.state.inFallback then
    { z with state := if z.cycleAge now < z.onTime * 60 then .fallbackOn else .fallbackRest }
  else z

/-- A slot whose reading is as old as the staleness limit ages out (R40). -/
def Slot.ageOut (now : Clock) (limitMin : Nat) (t : Slot) : Slot :=
  if t.fresh && decide (limitMin * 60 ≤ age now (t.arrival.getD now)) then { t with fresh := false } else t

/-- Both slots judged against the staleness limit (R40). -/
def Zone.rejudgeSlots (now : Clock) (z : Zone) : Zone :=
  { z with slot1 := z.slot1.ageOut now z.stale, slot2 := z.slot2.ageOut now z.stale }

/-- A valid reading is stored in a slot (R39 step 1). -/
def Slot.take (now : Clock) (reading : Int) (t : Slot) : Slot :=
  { t with reading := some reading, arrival := some now, fresh := true }

/-- A slot stored with an address or absent: a new value clears the live part (R36). -/
def Slot.store (a : Option Byte) (t : Slot) : Slot := if t.addr = a then t else { addr := a }

/-- The override duration written (R43). -/
def Zone.setOverride (minutes : Nat) (z : Zone) : Zone :=
  { z with ovDur := minutes, ovLeft := if minutes = 0 then none else some (minutes * 60) }

/-! ### The Zone Unit in the part -/

/-- The zone record of this number. -/
def State.zone (s : State) (i : Fin 8) : Zone := s.zones.recs.get i

/-- The state with one zone record taken through `f`. -/
def State.onZone (i : Fin 8) (f : Zone → Zone) (s : State) : State :=
  s.onZones fun u => { u with recs := u.recs.set i (f (u.recs.get i)) }

/-- The evaluated record stored, with the rank that is handed over (R50, R51). -/
def storeEvaluated (i : Fin 8) (z : Zone) (s : State) : State := s.onZone i fun _ => { z with handed := z.rank }

/-- ZONE is set where the evaluation calls for it (R52). -/
def zoneAttention (i : Fin 8) (old new : ZoneState) (s : State) : State :=
  if zoneAlarm old new then raise (zoneNotice i new) s else s

/-- The end of an event of zone `i` that has left the record `z` with `old` as its state before the event: the record
is evaluated, ZONE is set where due, and the handoff is made (R50, R51, R52). -/
def finishZone (i : Fin 8) (old : ZoneState) (handed : Option Nat) (z : Zone) (s : State) : State :=
  handOver i handed z.rank (zoneAttention i old z.state (storeEvaluated i z s))

/-- Zone `i` is evaluated (R51). -/
def evaluateZone (i : Fin 8) (s : State) : State :=
  finishZone i (s.zone i).state (s.zone i).handed ((s.zone i).evaluate s.gauge.band s.clock) s

/-- An event of zone `i` whose own change of the record is `f`, then its evaluation (R51). -/
def zoneEvent (i : Fin 8) (f : Zone → Zone) (s : State) : State := evaluateZone i (s.onZone i f)

/-- Every zone is evaluated in zone number order, as at a change of band (R51). -/
def evaluateAll (s : State) : State := eightNumbers.foldl (fun s i => evaluateZone i s) s

/-- The slot of the table that holds an address (R37, R39). -/
def findSlot (a : Byte) (s : State) : Option (Fin 8 × SlotNo) :=
  eightNumbers.findSome? fun i =>
    if (s.zone i).slot1.addr = some a then some (i, .one)
    else if (s.zone i).slot2.addr = some a then some (i, .two)
    else none

/-- The fields of a ROOM report (3.2, 12.2). -/
structure Report where
  reading : Int
  setpoint : Int
  mode : Byte
  deriving DecidableEq, Repr

/-- A valid reading lies in −400..600 (R39). -/
def Report.readingValid (r : Report) : Bool := decide (-400 ≤ r.reading) && decide (r.reading ≤ 600)

/-- The mode field of a report, if it names HEAT or OFF (12.2, R185). -/
def modeOfByte (b : Byte) : Option Mode := if b = 0 then some .off else if b = 1 then some .heat else none

/-- The report taken into its slot's record (R39 steps 1 and 2). -/
def Zone.takeReport (now : Clock) (n : SlotNo) (r : Report) (z : Zone) : Zone :=
  let read := if r.readingValid then z.onSlot n (·.take now r.reading) else z
  match modeOfByte r.mode with
  | some m => { read with mode := m, requested := clampInt 0 300 r.setpoint }
  | none => read

/-- The counters of a report (R57), counted in the steps of R39 and so for a report that a slot binds (log 44). -/
def countReport (r : Report) (u : ZoneUnit) : ZoneUnit :=
  { u with
    invalidReading := if r.readingValid then u.invalidReading else satInc u.invalidReading
    badMode := if (modeOfByte r.mode).isSome then u.badMode else satInc u.badMode }

/-- A report from an address: taken into the zone that binds it, if any (R39). One that no slot binds is not counted
(log 44). -/
def takeReport (a : Byte) (r : Report) (s : State) : State :=
  match findSlot a s with
  | none => s
  | some (i, n) => zoneEvent i (·.takeReport s.clock n r) (s.onZones (countReport r))

/-- The zone number, state and E that the Zone Unit answers the classifier with (R53). -/
def reportAnswer (a : Byte) (s : State) : Option (Fin 8 × ZoneState × Int) :=
  (findSlot a s).map fun p => (p.1, (s.zone p.1).state, (s.zone p.1).eff)

/-- A delivered SETPOINT or MODE written into the zone record of the device (R42). -/
def zoneDelivered (a : Byte) (kind : PostKind) (value : Nat) (s : State) : State :=
  match findSlot a s with
  | none => s
  | some (i, _) =>
    match kind with
    | .setpoint => zoneEvent i (fun z => { z with requested := clampInt 0 300 value }) s
    | .mode => zoneEvent i (fun z => { z with mode := if value = 1 then .heat else .off }) s
    | .notice => s

/-- READING_AGES_OUT (R40). -/
def readingAgesOut (i : Fin 8) (n : SlotNo) (s : State) : State :=
  if (((s.zone i).slot n).ageOut s.clock (s.zone i).stale).fresh = ((s.zone i).slot n).fresh then s
  else zoneEvent i (fun z => z.onSlot n (·.ageOut s.clock z.stale)) s

/-- OVERRIDE_EXPIRES (R43). -/
def overrideExpires (i : Fin 8) (s : State) : State :=
  if (s.zone i).ovLeft = some 0 then zoneEvent i (·.setOverride 0) s else s

/-- FALLBACK_PHASE_CHANGE (R49). -/
def fallbackPhaseChange (i : Fin 8) (s : State) : State :=
  if (s.zone i).phaseOver s.clock then zoneEvent i (·.phaseChange s.clock) s else s

def execReadingAgesOut (zone : Fin 8) (slot : SlotNo) (s : State) : Host.Outcome State Fault Refusal :=
  whenOn (readingAgesOut zone slot) s

def execOverrideExpires (zone : Fin 8) (s : State) : Host.Outcome State Fault Refusal :=
  whenOn (overrideExpires zone) s

def execFallbackPhaseChange (zone : Fin 8) (s : State) : Host.Outcome State Fault Refusal :=
  whenOn (fallbackPhaseChange zone) s

end Sys2Proof.Machine
end

