-- ==== Sys2Proof/Machine/Posts.lean ====
section
/-! DEFINITION. Postbox (09): the pool, internal notices, resolution, the wake of a device, and the house requests
POST and WITHDRAW apart from their answers. -/

namespace Sys2Proof.Machine

/-! ### The pool (9.1) -/

/-- The posts of one device, oldest first (R153). -/
def Postbox.of (d : Byte) (b : Postbox) : List Post := b.posts.filter fun p => decide (p.dest = d)

/-- A post is unsent while its attempts are 0 and it is not outstanding (R153). -/
def Post.unsent (p : Post) : Bool := decide (p.attempts = 0) && !p.outstanding

/-- The first of the `n` values from `c` on, modulo 16, that is no tag of the list (R153). -/
def freeTag (tags : List Nat) : Nat → Nat → Nat
  | 0, c => c % 16
  | n + 1, c => if tags.contains (c % 16) then freeTag tags n (c + 1) else c % 16

/-- The tag a new post of the device takes (R153). -/
def Postbox.nextTag (d : Byte) (b : Postbox) : Nat := freeTag ((b.of d).map (·.tag)) 16 b.tagCounter

/-- A post is added at the tail of the pool with the next tag (R153). -/
def Postbox.add (p : Post) (b : Postbox) : Postbox :=
  { b with
    posts := b.posts ++ [{ p with tag := b.nextTag p.dest }]
    tagCounter := (b.nextTag p.dest + 1) % 16 }

/-- The list without the first element that `q` holds of. -/
def removeFirst {α : Type} (q : α → Bool) : List α → List α
  | [] => []
  | x :: xs => if q x then xs else x :: removeFirst q xs

/-- The list with the first element that `q` holds of taken through `f`. -/
def mapFirst {α : Type} (q : α → Bool) (f : α → α) : List α → List α
  | [] => []
  | x :: xs => if q x then f x :: xs else x :: mapFirst q f xs

/-- The post of a device with a tag. -/
def Post.named (d : Byte) (tag : Nat) (p : Post) : Bool := decide (p.dest = d) && decide (p.tag = tag)

/-- A post is the device's outstanding one (R153). -/
def Post.awaited (d : Byte) (p : Post) : Bool := decide (p.dest = d) && p.outstanding

/-- The longest lifetime of a post: 240 minutes (R154, R157). -/
def longestLife : Nat := 14400

/-- The line clock has reached the post's expiry, judged on the interval from the clock to the expiry, modulo 2^32: of a post
that still lives it is at least a second and at most the longest lifetime, however old its posted time is (R155, R164;
log 26). -/
def Post.isOver (now : Clock) (p : Post) : Bool :=
  decide (age p.expiry now = 0) || decide (longestLife < age p.expiry now)

/-! ### Resolution (R165) -/

/-- The POST_RESOLVED notice (R165, 12.3). -/
def resolvedNotice (p : Post) (o : PostOutcome) : Notice where
  bit := .post
  code := 0x0C
  subject := p.dest.toNat
  value1 := p.tag
  value2 := o.code

/-- A post resolves: where its wait flag is set, POST is set with its notice (R165). -/
def resolve (p : Post) (o : PostOutcome) (s : State) : State :=
  if p.wait then raise (resolvedNotice p o) s else s

/-- The pool without the first post that `q` holds of. -/
def dropPost (q : Post → Bool) (s : State) : State :=
  s.onPostbox fun b => { b with posts := removeFirst q b.posts }

/-- The pool with the first post that `q` holds of taken through `f`. -/
def changePost (q : Post → Bool) (f : Post → Post) (s : State) : State :=
  s.onPostbox fun b => { b with posts := mapFirst q f b.posts }

/-! ### Internal notices (9.3) -/

/-- The codes that an internal notice cancels (R158). -/
def Internal.cancels : Internal → List Nat
  | .boilerOk => [Internal.boilerFault.code, Internal.callEngineer.code]
  | .oilOk => [Internal.oilLow.code, Internal.oilDry.code]
  | _ => []

/-- A new internal notice for a device at line clock `now` (R157); its tag is given when it is added. -/
def internalPost (n : Internal) (d : Byte) (now : Clock) : Post where
  dest := d
  tag := 0
  kind := .notice
  value := n.code
  internal := true
  wait := false
  posted := now
  expiry := now + 14400

/-- An unsent internal notice of the device with a code in the list. -/
def Post.unsentInternal (d : Byte) (codes : List Nat) (p : Post) : Bool :=
  decide (p.dest = d) && p.internal && p.unsent && codes.contains p.value

/-- An internal notice that may be removed to make room: any that is not outstanding (R159). -/
def Post.displaceable (p : Post) : Bool := p.internal && !p.outstanding

/-- An internal notice to be added finds its place, or is lost and counted (R159). -/
def Postbox.place (p : Post) (b : Postbox) : Postbox :=
  if (b.of p.dest).length < 4 then
    if b.posts.length < 24 then b.add p
    else if b.posts.any Post.displaceable then
      ({ b with posts := removeFirst Post.displaceable b.posts }).add p
    else { b with noticeLost := satInc b.noticeLost }
  else if (b.of p.dest).any Post.displaceable then
    ({ b with posts := removeFirst (fun x => decide (x.dest = p.dest) && x.displaceable) b.posts }).add p
  else { b with noticeLost := satInc b.noticeLost }

/-- An internal notice stored for one device, the cancel pairs applied (R157, R158). Of several unsent notices of its code
the oldest is removed (log 40). -/
def Postbox.notify (n : Internal) (now : Clock) (d : Byte) (b : Postbox) : Postbox :=
  if b.posts.any (Post.unsentInternal d n.cancels) then
    { b with posts := b.posts.filter fun p => !p.unsentInternal d n.cancels }
  else if b.posts.any (Post.unsentInternal d [n.code]) then
    ({ b with posts := removeFirst (Post.unsentInternal d [n.code]) b.posts }).add (internalPost n d now)
  else b.place (internalPost n d now)

/-- The addresses in the slots of enabled zones, in zone number order, slot 1 before slot 2 (R157). -/
def boundAddresses (s : State) : List Byte :=
  eightNumbers.flatMap fun i =>
    if (s.zone i).enabled then (s.zone i).slot1.addr.toList ++ (s.zone i).slot2.addr.toList else []

/-- An internal notice is posted to every bound slot of every enabled zone (R157). -/
def postInternal (n : Internal) (s : State) : State :=
  s.onPostbox fun b => (boundAddresses s).foldl (fun b d => b.notify n s.clock d) b

/-! ### Delivery in the wake (9.4) -/

/-- A TAKEN or another frame of the wake meets the device's outstanding post (R160, R161). -/
def meetOutstanding (d : Byte) (taken : Option Nat) (s : State) : State :=
  match s.postbox.posts.find? (Post.awaited d) with
  | some p =>
    if taken = some p.tag then
      match p.kind with
      | .notice => resolve p .delivered (dropPost (Post.awaited d) s)
      | _ => zoneDelivered d p.kind p.value (resolve p .delivered (dropPost (Post.awaited d) s))
    else
      let stray := s.onPostbox fun b =>
        if taken.isSome then { b with strayTaken := satInc b.strayTaken } else b
      if 3 ≤ p.attempts then resolve p .undelivered (dropPost (Post.awaited d) stray) else stray
  | none =>
    s.onPostbox fun b => if taken.isSome then { b with strayTaken := satInc b.strayTaken } else b

/-- The minutes left to a post's expiry, rounded up (12.2). -/
def Post.minutesLeft (now : Clock) (p : Post) : Nat := if p.isOver now then 0 else minutesUp (age p.expiry now)

/-- The POST frame of a post (R162, 12.2). -/
def postFrame (p : Post) (more : Bool) (now : Clock) : Frame where
  dest := p.dest
  source := 0
  kind := kindPost
  tag := BitVec.ofNat 8 p.tag
  payload := BitVec.ofNat 8 p.kind.code :: (if more then 1 else 0) :: leBytes 2 p.value ++ leBytes 2 (p.minutesLeft now)

/-- The NOMAIL frame to a device (R162). -/
def nomailFrame (d : Byte) : Frame where
  dest := d
  source := 0
  kind := kindNomail
  tag := 0
  payload := []

/-- The reply window: 100 ms from the end of the device's frame (R12), in ticks. -/
def replyWindow : Tick := 1920

/-- The reply to a device is chosen and offered (R162, R12): `endTime` is the end of the device's frame. -/
def offerReply (d : Byte) (endTime : Tick) (s : State) : State :=
  if endTime + replyWindow < s.tick then
    s.onPorts fun p => { p with missedWindow := satInc p.missedWindow }
  else if fieldAccepts s then
    match s.postbox.of d with
    | [] => pushField { frame := nomailFrame d, origin := .nomail, deadline := some (endTime + replyWindow) } s
    | p :: rest =>
      pushField { frame := postFrame p (!rest.isEmpty) s.clock, origin := .post, deadline := some (endTime + replyWindow) }
        (changePost (Post.named d p.tag) (fun p => { p with outstanding := true }) s)
  else s.onPostbox fun b => { b with replyRefused := satInc b.replyRefused }

/-- A frame of a wake from device `d`; `taken` is the tag of a TAKEN (R160 to R162). -/
def wake (d : Byte) (taken : Option Nat) (endTime : Tick) (s : State) : State :=
  offerReply d endTime (meetOutstanding d taken s)

/-- How an accepted frame left the field transmit queue (R9). -/
inductive TxOutcome where
  | sent
  | withdrawn
  | dropped
  deriving DecidableEq, Repr

/-- The outcome of a transmission on its post (R163). A post that is no longer outstanding counts the attempt of a SENT and
stays so (log 41). -/
def Post.transmitted (o : TxOutcome) (p : Post) : Post :=
  match o with
  | .sent => { p with attempts := min 3 (p.attempts + 1) }
  | _ => if p.attempts = 0 then { p with outstanding := false } else p

/-- The field transmit queue reports an outcome; only a POST's is acted on (R33, R163). -/
def reportOutcome (e : TxEntry) (o : TxOutcome) (s : State) : State :=
  match e.origin with
  | .post => changePost (Post.named e.frame.dest e.frame.tag.toNat) (Post.transmitted o) s
  | _ => s

/-- POST_EXPIRES (R164). -/
def postExpires (d : Byte) (tag : Nat) (s : State) : State :=
  match s.postbox.posts.find? (Post.named d tag) with
  | some p => if p.isOver s.clock then resolve p .expired (dropPost (Post.named d tag) s) else s
  | none => s

def execPostExpires (dest : Byte) (tag : Nat) (s : State) : Host.Outcome State Fault Refusal :=
  whenOn (postExpires dest tag) s

end Sys2Proof.Machine
end

