-- ==== Sys2Proof/Machine/Recover.lean ====
section
/-! DEFINITION. Lockout recovery and the service claim (06): the episode, the due check, the pulse sequence, the claim
word and the requests' effects apart from their answers. -/

namespace Sys2Proof.Machine

/-! ### Notices (R115, 12.3) -/

def lockoutNotice (left : BurnerState) (band : Band) (present : Bool) : Notice where
  bit := .lockout
  code := 0x01
  subject := left.code
  value1 := band.code
  value2 := flagByte [present]

def relockNotice (count : Nat) : Notice where
  bit := .lockout
  code := 0x02
  value1 := count

def hardNotice (entries : Nat) : Notice where
  bit := .hard
  code := 0x03
  value1 := entries

def recoveredNotice (o : RecOutcome) (c : Cause) : Notice where
  bit := .recovered
  code := 0x04
  value1 := o.code
  value2 := c.code

def claimNotice (side : ClaimSide) : Notice where
  bit := .claim
  code := 0x0D
  value1 := side.code

def waitNotice (st : RecState) : Notice where
  bit := .recoveryWait
  code := 0x11
  value1 := st.code

/-! ### State, records, budget -/

/-- A change of the recovery state with its timer; RESET follows PULSE, and the change is handed to the Burner
Supervisor as a change of a demand condition (R90, R97). The proving count stays as it is: after PROVING it keeps what it
reached until the next PROVING or a restart (R106; log 47). -/
def recovTo (st : RecState) (timer : Option Nat) (s : State) : State :=
  judgeDemand
    ((s.onRecov fun r => { r with state := st, timer := timer }).onBurner
      (·.followPulse (decide (st = .pulse)) s.recov.gapLen))

/-- A record joins the recovery log (R114): band and litres as they stand, litres absent in band UNKNOWN. -/
def addRecord (begin : Clock) (c : Cause) (o : RecOutcome) (s : State) : State :=
  s.onRecov fun r =>
    { r with
      log := joinBounded 16 r.log
        ⟨begin, c, o, s.gauge.band, if s.gauge.band = .unknown then none else some s.gauge.litres⟩ }

/-- The PENDING record closes with the outcome of its attempt (R114). -/
def closeRecord (o : RecOutcome) (s : State) : State :=
  s.onRecov fun r =>
    { r with log := r.log.map fun x => if x.outcome = .pending then { x with outcome := o } else x }

/-- The cause of the PENDING record (R115). -/
def pendingCause (r : Recovery) : Cause :=
  match r.log.find? (fun x => decide (x.outcome = .pending)) with
  | some x => x.cause
  | none => .unknown

/-- A counted pulse enters the budget list, which never holds more than five (R102). -/
def addBudget (t : Clock) (s : State) : State :=
  s.onRecov fun r => { r with budget := if r.budget.length < 5 then r.budget ++ [t] else r.budget }

/-- The budget list without the entries whose age has reached the window (R102). -/
def Recovery.ageBudget (now : Clock) (r : Recovery) : Recovery :=
  { r with budget := r.budget.filter fun t => decide (age now t < r.window * 3600) }

/-- A pulse begins: its record is opened and the state becomes PREGAP (R104, R114). -/
def beginPulse (c : Cause) (s : State) : State :=
  recovTo .pregap (some s.recov.gapLen) (addRecord s.clock c .pending s)

/-- The cool-off starts and the state becomes COOLING (R98, R105, R106). -/
def toCooling (s : State) : State := recovTo .cooling (some s.recov.coolOff) s

/-! ### The due check (R100) -/

/-- The states in which a change runs the due check (R100). -/
def RecState.waitsForDue (st : RecState) : Bool :=
  decide (st = .due) || decide (st = .waitOil) || decide (st = .held) || decide (st = .await)

/-- Entry into WAIT_OIL, AWAIT or HELD from another state raises RECOVERY_WAIT (R115). -/
def enterWait (st : RecState) (s : State) : State :=
  if s.recov.state = st then s else raise (waitNotice st) (recovTo st none s)

/-- Entry into HARD (R100 step 5, R115). -/
def enterHard (s : State) : State :=
  if s.recov.state = .hard then s
  else postInternal .callEngineer (raise (hardNotice s.recov.budget.length) (recovTo .hard none s))

/-- The due check (R100). -/
def dueCheck (s : State) : State :=
  if s.recov.word ≠ 0 then enterWait .held s
  else if oilGateFails s then enterWait .waitOil s
  else if !s.recov.auto then enterWait .await s
  else if s.recov.spacing.isSome then (if s.recov.state = .due then s else recovTo .due none s)
  else if s.recov.budgetMax ≤ s.recov.budget.length then enterHard s
  else beginPulse .auto (addBudget s.clock s)

/-- A trigger of the due check: it runs in DUE, WAIT_OIL, HELD and AWAIT (R100). -/
def dueTrigger (s : State) : State := if s.recov.state.waitsForDue then dueCheck s else s

/-! ### Episode ends and the Supervisor's handoffs -/

/-- The attempt is PROVED (R106); the proving count keeps what it reached (log 47). -/
def proveAttempt (s : State) : State :=
  postInternal .boilerOk
    (raise (recoveredNotice .proved (pendingCause s.recov)) (recovTo .none none (closeRecord .proved s)))

/-- Manual reset observed (R107). -/
def manualReset (s : State) : State :=
  postInternal .boilerOk
    (raise (recoveredNotice .manual .manual)
      (recovTo .none none ((addRecord s.clock .manual .manual s).onRecov fun r => { r with budget := [] })))

/-- The power-on penalty (R116). -/
def powerOnPenalty (s : State) : State :=
  addRecord 0 .unknown .unknown
    (if s.clock.toNat < s.recov.window * 3600 then addBudget 0 s else s)

/-- The Supervisor hands a lockout (R98): whether it was present at power-on, and the burner state left. -/
def takeLockout (present : Bool) (left : BurnerState) (s : State) : State :=
  match s.recov.state with
  | .none =>
    let begun := postInternal .boilerFault (raise (lockoutNotice left s.gauge.band present) (toCooling s))
    if present then powerOnPenalty begun else begun
  | .proving =>
    raise (relockNotice s.recov.proving) (toCooling (closeRecord .relocked s))
  | _ => s

/-- The proving of an attempt begins (R105, R106). -/
def toProving (s : State) : State := recovTo .proving none (s.onRecov fun r => { r with proving := 0 })

/-- The Supervisor hands a lock clear (R99, R103, R104, R105, R107). -/
def takeLockClear (s : State) : State :=
  match s.recov.state with
  | .cooling => manualReset s
  | .due => manualReset s
  | .waitOil => manualReset s
  | .held => manualReset s
  | .await => manualReset s
  | .hard => manualReset s
  | .checking => toProving s
  | _ => s

/-! ### The timers -/

/-- The timer of the state has run out. -/
def recovTimerOver (st : RecState) (s : State) : Bool :=
  decide (s.recov.state = st) && decide (s.recov.timer = some 0)

/-- COOL_OFF_EXPIRES (R99). -/
def coolOffExpires (s : State) : State := if recovTimerOver .cooling s then dueCheck s else s

/-- SPACING_EXPIRES (R101). -/
def spacingExpires (s : State) : State :=
  if s.recov.spacing = some 0 then dueTrigger (s.onRecov fun r => { r with spacing := none }) else s

/-- BUDGET_ENTRY_AGES_OUT (R102). -/
def budgetEntryAgesOut (s : State) : State := s.onRecov (·.ageBudget s.clock)

/-- PREGAP_ENDS (R104). -/
def pregapEnds (s : State) : State :=
  if recovTimerOver .pregap s then recovTo .pulse (some s.recov.pulseLen) s else s

/-- PULSE_ENDS (R104). -/
def pulseEnds (s : State) : State :=
  if recovTimerOver .pulse s then recovTo .postgap (some s.recov.gapLen) s else s

/-- POSTGAP_ENDS (R101, R104, R105). -/
def postgapEnds (s : State) : State :=
  if recovTimerOver .postgap s then
    let spaced := s.onRecov fun r => { r with spacing := some r.spacingTime }
    if s.burner.lock.acc = some false then toProving spaced else recovTo .checking (some 15) spaced
  else s

/-- CHECKING_EXPIRES (R105). -/
def checkingExpires (s : State) : State :=
  if recovTimerOver .checking s then toCooling (closeRecord .ineffective s) else s

/-- PROVED (R106). -/
def provedEvent (s : State) : State :=
  if s.recov.state = .proving ∧ s.recov.provingTime ≤ s.recov.proving then proveAttempt s else s

/-- The claim is cleared (R112, R113). -/
def Recovery.clearClaim (r : Recovery) : Recovery := { r with word := 0, side := .none, hold := none }

/-- CLAIM_HOLD_EXPIRES (R113). -/
def claimHoldExpires (s : State) : State :=
  if s.recov.hold = some 0 then
    dueTrigger (raise (claimNotice s.recov.side) (s.onRecov Recovery.clearClaim))
  else s

def execCoolOffExpires (s : State) : Host.Outcome State Fault Refusal := whenOn coolOffExpires s

def execSpacingExpires (s : State) : Host.Outcome State Fault Refusal := whenOn spacingExpires s

def execBudgetEntryAgesOut (s : State) : Host.Outcome State Fault Refusal := whenOn budgetEntryAgesOut s

def execPregapEnds (s : State) : Host.Outcome State Fault Refusal := whenOn pregapEnds s

def execPulseEnds (s : State) : Host.Outcome State Fault Refusal := whenOn pulseEnds s

def execPostgapEnds (s : State) : Host.Outcome State Fault Refusal := whenOn postgapEnds s

def execCheckingExpires (s : State) : Host.Outcome State Fault Refusal := whenOn checkingExpires s

def execProved (s : State) : Host.Outcome State Fault Refusal := whenOn provedEvent s

def execClaimHoldExpires (s : State) : Host.Outcome State Fault Refusal := whenOn claimHoldExpires s

/-! ### Requests (6.4 to 6.7) -/

/-- The statuses of an answer (12.4). -/
inductive Status where
  | done
  | clamped
  | accept
  | abort
  | busy
  | refused
  deriving DecidableEq, Repr

def Status.code : Status → Byte
  | .done => 0
  | .clamped => 1
  | .accept => 2
  | .abort => 3
  | .busy => 4
  | .refused => 5

/-- The reasons of a refusal (R169, 12.4). -/
inductive Reason where
  | address
  | value
  | conflict
  | length
  | unknownOp
  | full
  | deviceFull
  | sleeper
  | guarded
  | blocked
  | unlisted
  | tooSoon
  | noOil
  | noBudget
  | hard
  | claimed
  | notLocked
  | noTable
  | strapOrder
  | noStore
  deriving DecidableEq, Repr

def Reason.code : Reason → Byte
  | .address => 0x01
  | .value => 0x02
  | .conflict => 0x03
  | .length => 0x04
  | .unknownOp => 0x05
  | .full => 0x06
  | .deviceFull => 0x07
  | .sleeper => 0x08
  | .guarded => 0x09
  | .blocked => 0x0A
  | .unlisted => 0x0B
  | .tooSoon => 0x0C
  | .noOil => 0x0D
  | .noBudget => 0x0E
  | .hard => 0x0F
  | .claimed => 0x10
  | .notLocked => 0x11
  | .noTable => 0x12
  | .strapOrder => 0x13
  | .noStore => 0x14

/-- The payload of an answer: the status, the reason of a refusal, the values returned (R169). -/
abbrev Answer := List Byte

/-- An answer with a status other than REFUSED. -/
def answer (st : Status) (values : List Byte := []) : Answer := st.code :: values

/-- A refusal with its reason. -/
def refuse (r : Reason) (values : List Byte := []) : Answer := Status.refused.code :: r.code :: values

/-- The states in which a request for a reset is BUSY (R108 row 2, R109 row 3, R110 row 3). -/
def RecState.busy (st : RecState) : Bool :=
  decide (st = .pregap) || decide (st = .pulse) || decide (st = .postgap) || decide (st = .checking)
    || decide (st = .proving)

/-- REMOTE_RESET (R108). -/
def remoteReset (s : State) : Answer × State :=
  if s.recov.state = .none then (refuse .notLocked, s)
  else if s.recov.state.busy then (answer .busy, s)
  else if s.recov.state = .hard then (refuse .hard, s)
  else if s.recov.state = .cooling then (refuse .tooSoon (leBytes 2 (s.recov.timer.getD 0)), s)
  else if s.recov.side = .field then (refuse .claimed, s)
  else if oilGateFails s then (refuse .noOil, s)
  else if s.recov.budgetMax ≤ s.recov.budget.length then (refuse .noBudget, s)
  else (answer .accept, beginPulse .house (addBudget s.clock s))

/-- The word given is the field's claim word (R109 row 1, R110 row 1). -/
def fieldWordHeld (w : BitVec 16) (r : Recovery) : Bool :=
  decide (r.side = .field) && decide (w ≠ 0) && decide (w = r.word)

/-- SERVICE_RESET (R109). -/
def serviceReset (w : BitVec 16) (s : State) : Answer × State :=
  if !fieldWordHeld w s.recov then (answer .abort, s)
  else if s.recov.state = .none then (refuse .notLocked, s)
  else if s.recov.state.busy then (answer .busy, s)
  else (answer .accept, beginPulse .service s)

/-- CLEAR_HARD (R110). -/
def clearHard (w : BitVec 16) (s : State) : Answer × State :=
  if !fieldWordHeld w s.recov then (answer .abort, s)
  else if s.recov.state = .none then (refuse .notLocked, s)
  else if s.recov.state.busy then (answer .busy, s)
  else if s.recov.state = .hard then
    (answer .accept, dueCheck (s.onRecov fun r => { r with budget := [] }))
  else (answer .abort, s)

/-- CLAIM_SELECT from a side (R111). -/
def claimSelect (side : ClaimSide) (w : BitVec 16) (s : State) : Answer × State :=
  if w = 0 then (refuse .value, s)
  else if s.recov.word = 0 then
    (answer .accept,
      dueTrigger (s.onRecov fun r => { r with word := w, side := side, hold := some (r.holdTime * 60) }))
  else (answer .abort, s)

/-- CLAIM_TEST (R112). -/
def claimTest (w : BitVec 16) (s : State) : Answer × State :=
  if w ≠ 0 ∧ w = s.recov.word then
    (answer .accept, s.onRecov fun r => { r with hold := some (r.holdTime * 60) })
  else (answer .abort, s)

/-- CLAIM_RELEASE (R112). -/
def claimRelease (w : BitVec 16) (s : State) : Answer × State :=
  if w ≠ 0 ∧ w = s.recov.word then (answer .accept, dueTrigger (s.onRecov Recovery.clearClaim))
  else (answer .abort, s)

end Sys2Proof.Machine
end

