-- ==== Sys2Proof/Machine/BurnerInputs.lean ====
section
/-! DEFINITION. Burner supervision, the inputs: sampling and acceptance of RUN and LOCK, settling, and what each
acceptance does in each burner state (R79, R80, R83 to R88, R91). -/

namespace Sys2Proof.Machine

/-! ### Sampling (R79) -/

/-- A sample of the pin at an advance of the line clock (R79). -/
def Debounced.sample (level : Bool) (d : Debounced) : Debounced :=
  { d with
    raw := level
    change :=
      if d.acc = some level then none
      else if level = d.raw then
        (match d.change with
        | none => some 0
        | some n => some (min 2 (n + 1)))
      else some 0 }

/-- A sample of the pin outside the advances, at a restart: it counts no second (R79, R95; log 17). -/
def Debounced.resample (level : Bool) (d : Debounced) : Debounced :=
  { d with
    raw := level
    change := if d.acc = some level then none else if level = d.raw then d.change else some 0 }

/-- The first sample, at power-on: the accepted level is absent and the change timer starts (R79, R80). -/
def Debounced.atPowerOn (level : Bool) : Debounced := { raw := level, acc := none, change := some 0 }

/-- The acceptance: the accepted level takes the raw level and the timer stops (R79). -/
def Debounced.accept (d : Debounced) : Debounced := { d with acc := some d.raw, change := none }

/-! ### Entries that hand something on -/

/-- The burner enters LOCKED (R87): DEMAND is released, and the runout limit starts while RUN is accepted on. -/
def Burner.toLocked (b : Burner) : Burner :=
  { b with
    demand := false, state := .locked, presentMark := false
    timer := if b.runOn then some b.runoutLimit else none }

/-- The burner enters LOCKED from `left` and hands the lockout, marked or not as present at power-on (R87, R91). -/
def enterLocked (present : Bool) (left : BurnerState) (s : State) : State :=
  judgeDemand (takeLockout present left ((if left = .firing then leaveFiring s else s).onBurner Burner.toLocked))

/-- The lock clear is handed to the Recovery Controller (R91). -/
def handLockClear (s : State) : State := judgeDemand (takeLockClear s)

/-- The clear timer starts: 30 s (R88). -/
def startClearTimer (s : State) : State := s.onBurner fun b => { b with timer := some 30 }

/-! ### Acceptances in the burner states -/

/-- RUN accepted on (R83, R85, R86, R87, R88). -/
def runAcceptedOn (s : State) : State :=
  match s.burner.state with
  | .idle => enterSenseFault .idle s
  | .starting => enterFiring s
  | .firing => s
  | .runout => s
  | .locked => enterSenseFault .locked s
  | .noStart => enterSenseFault .noStart s
  | .senseFault => s.onBurner fun b => { b with timer := none }

/-- RUN accepted off (R84, R85, R87, R88). -/
def runAcceptedOff (s : State) : State :=
  match s.burner.state with
  | .firing =>
    if s.burner.lockOn then s else (leaveFiring s).onBurner Burner.start
  | .runout => enterIdle s
  | .locked => s.onBurner fun b => { b with timer := none }
  | .senseFault =>
    if s.burner.lockOn then enterLocked s.burner.presentMark .senseFault s else startClearTimer s
  | _ => s

/-- LOCK accepted on (R87, R88). -/
def lockAcceptedOn (s : State) : State :=
  match s.burner.state with
  | .senseFault => if s.burner.runOn then s else enterLocked s.burner.presentMark .senseFault s
  | left => enterLocked false left s

/-- LOCK accepted off (R87, R88). -/
def lockAcceptedOff (s : State) : State :=
  match s.burner.state with
  | .locked =>
    if s.burner.runOn then handLockClear (enterSenseFault .locked s)
    else handLockClear (s.onBurner Burner.toIdle)
  | .senseFault => if s.burner.runOn then handLockClear s else startClearTimer (handLockClear s)
  | _ => s

/-- The first burner state once both inputs are accepted (R80). -/
def endSettling (s : State) : State :=
  if s.burner.runOn then
    enterSenseFault .idle (s.onBurner fun b => { b with presentMark := b.lockOn })
  else if s.burner.lockOn then enterLocked true .idle s
  else enterIdle s

/-- What the burner states do with an acceptance (R79). -/
def actOnAcceptance (input : Input) (level : Bool) (s : State) : State :=
  match input, level with
  | .run, true => runAcceptedOn s
  | .run, false => runAcceptedOff s
  | .lock, true => lockAcceptedOn s
  | .lock, false => lockAcceptedOff (s.onBurner fun b => { b with presentMark := false })

/-- The input of this name. -/
def Burner.input (i : Input) (b : Burner) : Debounced :=
  match i with
  | .run => b.run
  | .lock => b.lock

/-- The burner with one input taken through `f`. -/
def Burner.onInput (i : Input) (f : Debounced → Debounced) (b : Burner) : Burner :=
  match i with
  | .run => { b with run := f b.run }
  | .lock => { b with lock := f b.lock }

/-- INPUT_ACCEPTED (R79, R80): while the Supervisor settles, the second acceptance derives the first burner state. -/
def inputAccepted (i : Input) (s : State) : State :=
  if (s.burner.input i).due then
    let accepted := s.onBurner (·.onInput i Debounced.accept)
    if s.burner.settled then actOnAcceptance i (s.burner.input i).raw accepted
    else if accepted.burner.settled then endSettling accepted
    else accepted
  else s

def execInputAccepted (input : Input) (s : State) : Host.Outcome State Fault Refusal :=
  whenOn (inputAccepted input) s

end Sys2Proof.Machine
end

