-- ==== Sys2Proof/Machine/GaugeUnit.lean ====
section
/-! DEFINITION. Tank Gauge (07): the sample, the level arithmetic, smoothing and rises, the band and its handoffs, the
GAUGE report, and the strapping tables. -/

namespace Sys2Proof.Machine

/-! ### Validity and fault runs (7.2) -/

/-- The invalid kind of a sample with counts `t` and `c`; a valid sample has none (R120). -/
def invalidKind (t c : Nat) : Option InvalidKind :=
  if c < 2800 ∨ 3300 < c then some .supply
  else if t < 205 then some .opened
  else if 3890 < t then some .shorted
  else none

/-- The counter of an invalid kind increases (R120, R136). -/
def Gauge.countInvalid (k : InvalidKind) (g : Gauge) : Gauge :=
  match k with
  | .supply => { g with supplyFault := satInc g.supplyFault }
  | .opened => { g with openInput := satInc g.openInput }
  | .shorted => { g with shortInput := satInc g.shortInput }

/-- The counts of a taken sample are stored and the sample count goes on (R119, R120). -/
def Gauge.recordCounts (t c : Nat) (g : Gauge) : Gauge :=
  { g with conv := .idle, sampleCount := g.sampleCount + 1, lastT := some t, lastS := some c }

/-- A rise or candidate run in progress is abandoned without an event (R128, R133); the settle run then reads 0, after a
commit too (log 36). -/
def Gauge.abandonRise (g : Gauge) : Gauge := { g with rising := false, candRun := 0, settleRun := 0 }

/-- The S flag is unset, a rise is abandoned and the band becomes UNKNOWN (R122, R128, R129). -/
def Gauge.unreport (g : Gauge) : Gauge := { g.abandonRise with sFlag := false, band := .unknown }

/-- An invalid sample: it breaks the candidate and settle runs, in RISING or not (R120), and the third in a row sets the flag
(R121, R127, R128). -/
def Gauge.invalidSample (k : InvalidKind) (g : Gauge) : Gauge :=
  let held : Gauge := { g.countInvalid k with candRun := 0, settleRun := 0 }
  if g.fault then { held with validRun := 0 }
  else if g.invalidRun < 2 then { held with invalidRun := g.invalidRun + 1 }
  else { held.unreport with fault := true, invalidRun := 0, validRun := 0 }

/-- A valid sample in the fault runs: the third in a row clears the flag (R121). -/
def Gauge.validRuns (g : Gauge) : Gauge :=
  if g.fault then
    if g.validRun < 2 then { g with validRun := g.validRun + 1 }
    else { g with fault := false, invalidRun := 0, validRun := 0 }
  else { g with invalidRun := 0 }

/-! ### Level arithmetic (7.3) -/

/-- The normalised level n (R123 step 1). -/
def normalised (t c : Nat) : Nat := min 4095 (t * 3000 / c)

/-- The head h of a normalised level (R123 step 2). -/
def Gauge.head (n : Nat) (g : Gauge) : Nat := if n ≤ g.zero then 0 else min 3000 ((n - g.zero) * g.scale / 1000)

/-- The volume at head `h` through the points of a table (R124). -/
def volumeAt (h : Nat) : List (Nat × Nat) → Nat
  | [] => 0
  | [p] => p.2
  | p :: q :: rest => if h < q.1 then p.2 + (h - p.1) * (q.2 - p.2) / (q.1 - p.1) else volumeAt h (q :: rest)

/-- A smoothing step of the volume in tenths toward ten times `v` (R125). -/
def smoothed (shift s10 v : Nat) : Nat :=
  if s10 ≤ 10 * v then s10 + (10 * v - s10) / 2 ^ shift else s10 - (s10 - 10 * v) / 2 ^ shift

/-- A sample is a candidate of a rise: V is D_s or more above S_L (R127). -/
def Gauge.candidate (v : Nat) (g : Gauge) : Bool := decide (g.litres + g.delivery ≤ v)

/-- The gauge with S10 smoothed toward `v` (R125). -/
def Gauge.smooth (v : Nat) (g : Gauge) : Gauge := { g with s10 := smoothed g.shift g.s10 v }

/-- A valid sample outside RISING with the S flag set: the rise test, then the smoothing (R125, R127). -/
def Gauge.watch (v : Nat) (g : Gauge) : Gauge :=
  if g.candidate v then
    match g.candRun with
    | 0 => { g.smooth v with before := g.litres, candRun := 1, candMax := v }
    | 1 => { g.smooth v with candRun := 2, candMax := max g.candMax v }
    | _ => { g.smooth v with rising := true, candRun := 0, settleRun := 0, peak := max g.candMax v }
  else { g.smooth v with candRun := 0 }

/-- The settle run after a sample of volume `v` in RISING (R128 step 1). -/
def Gauge.settleNext (v : Nat) (g : Gauge) : Nat := if v ≤ g.peak + 5 then g.settleRun + 1 else 0

/-- A valid sample in RISING (R128), with the Rise event where the rise ends with one. After a rise that ends so the settle
run goes on reading what it reached (log 36). -/
def Gauge.follow (v : Nat) (g : Gauge) : Gauge × Option (Nat × Nat) :=
  let next : Gauge := { g with settleRun := g.settleNext v, peak := max g.peak v, s10 := 10 * v }
  if g.settleNext v < 3 then (next, none)
  else if g.before < v then ({ next with rising := false }, some (g.before, v))
  else ({ next with rising := false, riseAbandoned := satInc g.riseAbandoned }, none)

/-- The band judged at volume `v` from the band before (R129). -/
def Gauge.judgeBand (v : Nat) (g : Gauge) : Band :=
  match g.band with
  | .low => if v < g.dryT then .dry else if g.lowT + g.bandHyst ≤ v then .normal else .low
  | .dry => if g.lowT + g.bandHyst ≤ v then .normal else if g.dryT + g.bandHyst ≤ v then .low else .dry
  | _ => if v < g.dryT then .dry else if v < g.lowT then .low else .normal

/-- The band set from the reported volume as it stands (R129). -/
def Gauge.setBand (g : Gauge) : Gauge := { g with band := g.judgeBand g.litres }

/-- What a taken sample hands on beside the gauge's own values (R135). -/
structure Handoff where
  invalid : Option InvalidKind := none
  first : Bool := false
  rise : Option (Nat × Nat) := none
  deriving DecidableEq, Repr

/-- The volume of a valid sample taken into S10, the rise detection and the band (R125 to R129). -/
def Gauge.takeVolume (v : Nat) (g : Gauge) : Gauge × Handoff :=
  match g.state with
  | .noTable => (g, {})
  | .fault => ({ g with lastV := some v }, {})
  | .valid =>
    let seen : Gauge := { g with lastV := some v }
    if g.sFlag then
      if g.rising then (((seen.follow v).1).setBand, { rise := (seen.follow v).2 })
      else ((seen.watch v).setBand, {})
    else ({ seen with s10 := 10 * v, sFlag := true }.setBand, { first := true })

/-- A valid sample through the fault runs and the level arithmetic (R121 to R129). -/
def Gauge.validSample (t c : Nat) (g : Gauge) : Gauge × Handoff :=
  let runs := g.validRuns
  let n := normalised t c
  let h := runs.head n
  ({ runs with lastN := some n, lastH := some h }).takeVolume (volumeAt h (strapPoints g.live))

/-- The taken sample applied to the gauge by R120 to R129. -/
def Gauge.takeSample (t c : Nat) (g : Gauge) : Gauge × Handoff :=
  match invalidKind t c with
  | some k => ((g.recordCounts t c).invalidSample k, { invalid := some k })
  | none => (g.recordCounts t c).validSample t c

/-! ### Handoffs (7.5, 7.7) -/

/-- The NOTICE of a gauge fault with its invalid kind, or of a gauge restore (R121, 12.3). -/
def gaugeNotice (k : Option InvalidKind) : Notice where
  bit := .gauge
  code := 0x0A
  value1 := match k with
    | some k => k.code
    | none => 4

/-- A gauge fault or restore handed to Oil Accounting with the GAUGE bit (R121, R135 step 1, R150): `before` is the
volume reportable just before. -/
def handFault (old : Bool) (before : Option Nat) (k : Option InvalidKind) (s : State) : State :=
  if old = s.gauge.fault then s
  else if s.gauge.fault then
    raise (gaugeNotice k) (s.onOil (·.addEvent ⟨.gaugeFault, s.clock, before, none, 0, none⟩))
  else raise (gaugeNotice none) (s.onOil (·.addEvent ⟨.gaugeRestored, s.clock, none, none, 0, none⟩))

/-- The NOTICE of OIL_LOW and OIL_DRY, carrying S_L (R130, 12.3). -/
def oilLowNotice (v : Nat) : Notice where
  bit := .oilLow
  code := 0x06
  value1 := v

def oilDryNotice (v : Nat) : Notice where
  bit := .oilDry
  code := 0x07
  value1 := v

/-- The notices of a band change against the last known band (R130). They come after those that the handoffs of the change
raise (log 45). -/
def bandNotices (s : State) : State :=
  match s.gauge.band, s.gauge.lastBand with
  | .low, some .low => s
  | .low, _ => postInternal .oilLow (raise (oilLowNotice s.gauge.litres) s)
  | .dry, some .dry => s
  | .dry, _ => postInternal .oilDry (raise (oilDryNotice s.gauge.litres) s)
  | .normal, some .low => postInternal .oilOk s
  | .normal, some .dry => postInternal .oilOk s
  | _, _ => s

/-- The last known band becomes the band, unless that is UNKNOWN (R130). -/
def Gauge.knowBand (g : Gauge) : Gauge :=
  match g.band with
  | .unknown => g
  | b => { g with lastBand := some b }

/-- A band change from `old` handed to the Zone Unit, the Burner Supervisor and the Recovery Controller, with its
notices after what the three blocks raise (R130, R135 step 2; log 45). -/
def handBand (old : Band) (s : State) : State :=
  if old = s.gauge.band then s
  else (bandNotices (dueTrigger (judgeDemand (evaluateAll s)))).onGauge Gauge.knowBand

/-- The sample report to Oil Accounting (R135 step 3, R145). -/
def handReport (h : Handoff) (s : State) : State :=
  oilTakes (·.sampleReport s.clock h.invalid.isNone s.gauge.reported h.first s.gauge.dryT) s

/-- A Rise event to Oil Accounting (R135 step 4, R147). -/
def handRise (h : Handoff) (s : State) : State :=
  match h.rise with
  | none => s
  | some p => oilTakes (·.rise s.clock p.1 p.2) s

/-- V as it is sent: absent in NO_TABLE (R135, R186). -/
def Gauge.sentV (g : Gauge) : Nat := if g.state = .noTable then absentWord else g.lastV.getD absentWord

/-- S_L as it is sent: absent while no volume is reportable (R135, R186). -/
def Gauge.sentLitres (g : Gauge) : Nat := g.reported.getD absentWord

/-- The GAUGE frame of a sample (R135, 12.3). -/
def gaugeFrame (k : Option InvalidKind) (g : Gauge) : Frame where
  dest := houseAddr
  source := 0
  kind := kindGauge
  tag := 0
  payload :=
    leBytes 2 (g.lastT.getD absentWord) ++ leBytes 2 (g.lastS.getD absentWord) ++ leBytes 2 (g.lastH.getD absentWord)
      ++ leBytes 2 g.sentV ++ leBytes 2 g.sentLitres
      ++ [BitVec.ofNat 8 g.band.code, BitVec.ofNat 8 (gaugeByte g), BitVec.ofNat 8 (k.elim 0 InvalidKind.code)]

/-- The gauge report timer started with the interval in force; stopped at interval 0 (R135). -/
def Gauge.startReportTimer (g : Gauge) : Gauge :=
  { g with reportTimer := if g.reportMin = 0 then none else some (g.reportMin * 60) }

/-- The GAUGE report offered to the house if one is due (R135 step 5). -/
def handGaugeReport (k : Option InvalidKind) (s : State) : State :=
  if s.gauge.reportDue then
    let cleared := s.onGauge fun g => { g with reportDue := false }.startReportTimer
    if houseAccepts (gaugeFrame k s.gauge) s then pushHouse { frame := gaugeFrame k s.gauge } cleared
    else cleared.onGauge fun g => { g with reportDropped := satInc g.reportDropped }
  else s

/-- The handoffs of a taken sample in the order of R135, with the due reconciliation at their end (R143). -/
def handSample (old : Gauge) (h : Handoff) (s : State) : State :=
  reconcileAfterSample
    (handGaugeReport h.invalid
      (handRise h (handReport h (handBand old.band (handFault old.fault old.reported h.invalid s)))))

/-! ### Events -/

/-- SAMPLE_TIMER_EXPIRES (R119). -/
def sampleTimerExpires (s : State) : State :=
  if s.gauge.sampleTimer = 0 then
    s.onGauge fun g =>
      { g with sampleTimer := g.interval, conv := if g.conv = .idle then .supply else g.conv }
  else s

/-- SUPPLY_CONVERSION_DONE (R119). -/
def supplyConversionDone (count : BitVec 12) (s : State) : State :=
  if s.gauge.conv = .supply then s.onGauge fun g => { g with conv := .tank count } else s

/-- SAMPLE_TAKEN (R119 to R135). -/
def sampleTaken (count : BitVec 12) (s : State) : State :=
  match s.gauge.conv with
  | .tank c =>
    handSample s.gauge (s.gauge.takeSample count.toNat c.toNat).2
      (s.onGauge fun g => (g.takeSample count.toNat c.toNat).1)
  | _ => s

/-- GAUGE_REPORT_DUE (R135). -/
def gaugeReportDue (s : State) : State :=
  if s.gauge.reportTimer = some 0 then s.onGauge fun g => { g with reportTimer := none, reportDue := true } else s

/-- The band judged afresh at a write of a threshold (R131). -/
def rejudgeBand (s : State) : State :=
  if s.gauge.reportable then handBand s.gauge.band (s.onGauge Gauge.setBand) else s

/-- A write of the gauge report interval (R135). -/
def writeReportInterval (minutes : Nat) (s : State) : State :=
  s.onGauge fun g =>
    { g with reportMin := minutes, reportDue := g.reportDue && decide (minutes ≠ 0) }.startReportTimer

/-! ### The strapping tables (7.6) -/

/-- The lowest point, counted from `i`, whose depth or volume does not rise above the point before (R133 row 3). -/
def strapDisorder : Nat → List (Nat × Nat) → Option Nat
  | _, [] => none
  | _, [_] => none
  | i, p :: q :: rest => if q.1 ≤ p.1 ∨ q.2 ≤ p.2 then some i else strapDisorder (i + 1) (q :: rest)

/-- The outcome of the checks of R133. -/
inductive StrapCheck where
  | noTable
  | order (point : Nat)
  | good
  deriving DecidableEq, Repr

/-- The checks of R133 on the points of a table. -/
def checkStrap (ps : List (Nat × Nat)) : StrapCheck :=
  match ps with
  | [] => .noTable
  | [_] => .noTable
  | p :: rest =>
    if p.1 = 0 then
      match strapDisorder 1 (p :: rest) with
      | some i => .order i
      | none => .good
    else .order 0

/-- A table with every entry after its last point made unused, which is said of the entry's depth (R132, R133; log 15). -/
def cutTable (es : List StrapEntry) : List StrapEntry :=
  let n := (strapPoints es).length
  es.take n ++ (es.drop n).map fun e => { e with depth := none }

/-- The pending table becomes the live one (R133). -/
def Gauge.commit (g : Gauge) : Gauge :=
  { g.unreport with live := cutTable g.pend, pend := cutTable g.pend }

/-- COMMIT_STRAP (R133, R142). -/
def commitStrap (s : State) : Answer × State :=
  match checkStrap (strapPoints s.gauge.pend) with
  | .noTable => (refuse .noTable, s)
  | .order i => (refuse .strapOrder [BitVec.ofNat 8 i], s)
  | .good => (answer .done, (handBand s.gauge.band (s.onGauge Gauge.commit)).onOil Oil.unbase)

/-- DISCARD_STRAP (R134). -/
def discardStrap (s : State) : Answer × State :=
  (answer .done, s.onGauge fun g => { g with pend := g.live })

def execSampleTimerExpires (s : State) : Host.Outcome State Fault Refusal := whenOn sampleTimerExpires s

def execSupplyConversionDone (count : BitVec 12) (s : State) : Host.Outcome State Fault Refusal :=
  whenOn (supplyConversionDone count) s

def execSampleTaken (count : BitVec 12) (s : State) : Host.Outcome State Fault Refusal :=
  whenOn (sampleTaken count) s

def execGaugeReportDue (s : State) : Host.Outcome State Fault Refusal := whenOn gaugeReportDue s

end Sys2Proof.Machine
end

