-- ==== Sys2Proof/Machine/Lines.lean ====
section
/-! DEFINITION. The two lines (01): frame assembly, field transmission with its echo check and reply windows, and the
house transmitter. -/

namespace Sys2Proof

/-! ### Characters (1.1) -/

/-- The ones among the data bits and the parity bit of a character (R1). -/
def LineChar.ones (c : LineChar) : Nat :=
  (eightNumbers.map fun i => (c.value.getLsbD i.val).toNat).sum + c.parity.toNat

/-- A parity error: the count of ones in the data and parity bits is odd (R1). -/
def LineChar.parityError (c : LineChar) : Bool := decide (c.ones % 2 = 1)

/-- A framing error: the stop bit is sampled low (R1). -/
def LineChar.framingError (c : LineChar) : Bool := !c.stop

/-- The eleven bits of a character in the order they are sent: start bit, data bits least significant first, parity bit,
stop bit (R1). -/
def LineChar.bits (c : LineChar) : List Bool :=
  false :: (eightNumbers.map fun i => c.value.getLsbD i.val) ++ [c.parity, c.stop]

/-- The character that carries a byte, with correct parity and a full stop bit, as the EA24 sends it (R1). -/
def LineChar.sent (v : Byte) : LineChar :=
  { value := v, parity := LineChar.parityError { value := v, parity := false, stop := true }, stop := true }

end Sys2Proof

namespace Sys2Proof.Machine

/-- The characters of a frame as the EA24 sends them, back to back (R1). -/
def frameChars (f : Frame) : List LineChar := (frameBytes f).map LineChar.sent

/-! ### Frame assembly (1.3) -/

/-- What a character makes of the frame being assembled (R3, R4, R6). -/
inductive AsmEvent where
  | nothing
  | noise
  | parity
  | framing
  | length
  | check
  | address
  | frame (f : Frame)
  deriving DecidableEq, Repr

/-- Two character times of a line, in ticks (R1). -/
def gapLimit : Line → Tick
  | .field => 88
  | .house => 22

/-- The bad mark after a character with these error marks (R4). -/
def BadMark.after (parityErr framingErr : Bool) : BadMark → BadMark
  | .none => if framingErr then .framing else if parityErr then .parity else .none
  | m => m

/-- What a discard counts: the marked error, or `other` in an unmarked frame. -/
def BadMark.counts (other : AsmEvent) : BadMark → AsmEvent
  | .none => other
  | .parity => .parity
  | .framing => .framing

/-- An assembler out of any frame (R3). -/
def Assembler.hunting : Assembler := { phase := .hunt }

/-- An assembler that has just entered SKIP (R7). -/
def Assembler.skipping (now : Tick) : Assembler := { phase := .skip, gapFrom := now }

/-- The frame spelled by the bytes of a complete frame (12.1). -/
def frameOf (bs : List Byte) : Frame where
  dest := bs.getD 1 0
  source := bs.getD 2 0
  kind := bs.getD 3 0
  tag := bs.getD 4 0
  payload := (bs.drop 6).take (bs.length - 8)

/-- The check bytes agree with the pair sum of the bytes between lead and check (R2). -/
def checkAgrees (bs : List Byte) : Bool :=
  decide (pairSum ((bs.drop 1).take (bs.length - 3)) = (bs.getD (bs.length - 2) 0, bs.getD (bs.length - 1) 0))

/-- The checks at the end of a frame but for the receive queue (R6). -/
def frameEnd (bad : BadMark) (bs : List Byte) : AsmEvent :=
  match bad with
  | .parity => .parity
  | .framing => .framing
  | .none =>
    if checkAgrees bs then
      (if (frameOf bs).dest ≤ 63 ∧ (frameOf bs).source ≤ 63 then .frame (frameOf bs) else .address)
    else .check

/-- A character in HUNT (R3). -/
def Assembler.hunt (v : Byte) (parityErr framingErr : Bool) (now : Tick) (a : Assembler) : Assembler × AsmEvent :=
  if framingErr then (a, .framing)
  else if parityErr then (a, .parity)
  else if v = 0xA5 then ({ phase := .assemble, bytes := [v], gapFrom := now }, .nothing)
  else (a, .noise)

/-- A byte stored in ASSEMBLE that is not the length byte: the frame ends when the expected size is reached (R4). -/
def Assembler.stored (bs : List Byte) (bad : BadMark) (size : Option Nat) (now : Tick) : Assembler × AsmEvent :=
  if size = some bs.length then (Assembler.hunting, frameEnd bad bs)
  else ({ phase := .assemble, bytes := bs, expected := size, bad := bad, gapFrom := now }, .nothing)

/-- A character in ASSEMBLE (R4). -/
def Assembler.assemble (v : Byte) (parityErr framingErr : Bool) (now : Tick) (a : Assembler) : Assembler × AsmEvent :=
  let bad := a.bad.after parityErr framingErr
  if a.bytes.length = 5 then
    if 16 < v.toNat then (Assembler.skipping now, bad.counts .length)
    else Assembler.stored (a.bytes ++ [v]) bad (some (8 + v.toNat)) now
  else Assembler.stored (a.bytes ++ [v]) bad a.expected now

/-- A character meets the assembler (R3, R4, R7). -/
def Assembler.take (v : Byte) (parityErr framingErr : Bool) (now : Tick) (a : Assembler) : Assembler × AsmEvent :=
  match a.phase with
  | .hunt => a.hunt v parityErr framingErr now
  | .assemble => a.assemble v parityErr framingErr now
  | .skip => ({ a with gapFrom := now }, .nothing)

/-- The counter of an event of the assembler (R16); a frame is counted by the receive queue alone. -/
def LineCounters.count (e : AsmEvent) (c : LineCounters) : LineCounters :=
  match e with
  | .nothing => c
  | .noise => { c with noise := satInc c.noise }
  | .parity => { c with parity := satInc c.parity }
  | .framing => { c with framing := satInc c.framing }
  | .length => { c with length := satInc c.length }
  | .check => { c with check := satInc c.check }
  | .address => { c with address := satInc c.address }
  | .frame _ => c

/-- A frame that meets a full receive queue (R6, R8). -/
def LineCounters.countOverrun (c : LineCounters) : LineCounters := { c with overrun := satInc c.overrun }

/-- The assembler of a line. -/
def Ports.asm (l : Line) (p : Ports) : Assembler :=
  match l with
  | .field => p.fieldAsm
  | .house => p.houseAsm

/-- The ports with the assembler of a line replaced. -/
def Ports.setAsm (l : Line) (a : Assembler) (p : Ports) : Ports :=
  match l with
  | .field => { p with fieldAsm := a }
  | .house => { p with houseAsm := a }

/-- The ports with the counters of a line taken through `f`. -/
def Ports.onCtr (l : Line) (f : LineCounters → LineCounters) (p : Ports) : Ports :=
  match l with
  | .field => { p with fieldCtr := f p.fieldCtr }
  | .house => { p with houseCtr := f p.houseCtr }

/-- A complete frame at the end time `now`: it joins the line's receive queue of 4 or is an overrun (R6, R8). -/
def Ports.receive (l : Line) (now : Tick) (f : Frame) (p : Ports) : Ports :=
  match l with
  | .field =>
    if p.fieldRx.length < 4 then { p with fieldRx := p.fieldRx ++ [⟨f, now⟩] }
    else { p with fieldCtr := p.fieldCtr.countOverrun }
  | .house =>
    if p.houseRx.length < 4 then { p with houseRx := p.houseRx ++ [f] }
    else { p with houseCtr := p.houseCtr.countOverrun }

/-- The event of the assembler applied to the ports (R6, R16). -/
def Ports.applyEvent (l : Line) (now : Tick) (e : AsmEvent) (p : Ports) : Ports :=
  match e with
  | .frame f => p.receive l now f
  | e => p.onCtr l (·.count e)

/-- A character of a line handed to its frame assembler with its value and its two error marks (R1, R3 to R7). -/
def Ports.character (l : Line) (c : LineChar) (now : Tick) (p : Ports) : Ports :=
  let taken := (p.asm l).take c.value c.parityError c.framingError now
  (p.setAsm l taken.1).applyEvent l now taken.2

/-- The gap timer of the line has passed 2 character times at `now` with no character arriving, whose start bit would
have ended the gap (R1, R5, R7; log 33). -/
def Assembler.gapPassed (l : Line) (arriving : Bool) (now : Tick) (a : Assembler) : Bool :=
  !arriving && decide (a.gapFrom + gapLimit l ≤ now)

/-- A truncated frame: the truncated counter, or the one its mark names (R5). -/
def LineCounters.countTruncated (bad : BadMark) (c : LineCounters) : LineCounters :=
  match bad with
  | .none => { c with truncated := satInc c.truncated }
  | .parity => { c with parity := satInc c.parity }
  | .framing => { c with framing := satInc c.framing }

/-- FRAME_TRUNCATED (R5). -/
def frameTruncated (l : Line) (arriving : Bool) (s : State) : State :=
  if (s.ports.asm l).phase = .assemble ∧ (s.ports.asm l).gapPassed l arriving s.tick then
    s.onPorts fun p => (p.onCtr l (·.countTruncated (p.asm l).bad)).setAsm l Assembler.hunting
  else s

/-- SKIP_END (R7). -/
def skipEnd (l : Line) (arriving : Bool) (s : State) : State :=
  if (s.ports.asm l).phase = .skip ∧ (s.ports.asm l).gapPassed l arriving s.tick then
    s.onPorts (·.setAsm l Assembler.hunting)
  else s

/-! ### Field transmission (1.5) -/

/-- A reply frame: POST, NOMAIL or SVCANS (R9). -/
def TxEntry.isReply (e : TxEntry) : Bool := decide (e.origin ≠ .pass)

/-- The frame is on the line. -/
def TxEntry.onLine (e : TxEntry) : Bool := e.sending.isSome

/-- The class the transmitter selects from: the replies if any is queued (R9). -/
def nextClass (q : List TxEntry) (e : TxEntry) : Bool := if q.any TxEntry.isReply then e.isReply else true

/-- The window of an entry is still open at `now`; an entry without a deadline has no window (R9, R12). -/
def TxEntry.windowOpen (now : Tick) (e : TxEntry) : Bool :=
  match e.deadline with
  | none => true
  | some d => decide (now ≤ d)

/-- Three character times of the field line, in ticks (R1, R10). -/
def idleTime : Tick := 132

/-- No character is arriving on the field line, it has been idle for 3 character times, and the EA24 is not sending
(R10). -/
def fieldIdle (arriving : Bool) (s : State) : Bool :=
  !arriving && !s.ports.fde && decide (s.ports.lastSeen + idleTime ≤ s.tick)

/-- FIELD_TRANSMIT_START (R9, R10, R12). -/
def fieldTransmitStart (arriving : Bool) (s : State) : State :=
  match s.ports.fieldTx.find? (nextClass s.ports.fieldTx) with
  | some e =>
    if fieldIdle arriving s && e.windowOpen s.tick then
      s.onPorts fun p =>
        { p with
          fde := true
          fieldTx := mapFirst (nextClass p.fieldTx) (fun e => { e with sending := some 0 }) p.fieldTx }
    else s
  | none => s

/-- The NOTICE of a frame DROPPED (R11, 12.3). -/
def fieldNotice (f : Frame) : Notice where
  bit := .field
  code := 0x10
  subject := f.dest.toNat
  value1 := f.kind.toNat

/-- FDE released with a character read back at `now` (R10, R11). -/
def releaseLine (now : Tick) (s : State) : State := s.onPorts fun p => { p with fde := false, lastSeen := now }

/-- The last character of the frame on the line has been read back correctly: SENT (R10). -/
def frameSent (e : TxEntry) (s : State) : State :=
  reportOutcome e .sent (s.onPorts fun p => { p with fieldTx := removeFirst TxEntry.onLine p.fieldTx })

/-- An echo mismatch of the frame on the line (R11). -/
def echoMismatch (e : TxEntry) (s : State) : State :=
  let skipping := s.onPorts fun p => { p with fieldAsm := Assembler.skipping s.tick }
  if e.tries < 2 then
    skipping.onPorts fun p =>
      { p with fieldTx := mapFirst TxEntry.onLine (fun e => { e with tries := e.tries + 1, sending := none }) p.fieldTx }
  else
    reportOutcome e .dropped
      (raise (fieldNotice e.frame)
        (skipping.onPorts fun p =>
          { p with fieldTx := removeFirst TxEntry.onLine p.fieldTx, echoFail := satInc p.echoFail }))

/-- The character that the field transmitter is sending of the frame on the line (R10, R11). -/
def TxEntry.charOut (e : TxEntry) : Option LineChar := (frameChars e.frame)[e.sending.getD 0]?

/-- A character read back is the one sent: it does not differ in value and has no error (R11). -/
def TxEntry.echoed (c : LineChar) (e : TxEntry) : Bool :=
  decide (e.charOut.map (·.value) = some c.value) && !c.parityError && !c.framingError

/-- ECHO_CHECK (R10, R11): the next character of the frame on the line is read back. -/
def echoCheck (c : LineChar) (s : State) : State :=
  match s.ports.fieldTx.find? TxEntry.onLine with
  | some e =>
    if e.echoed c then
      if e.sending.getD 0 + 1 < (frameChars e.frame).length then
        s.onPorts fun p =>
          { p with
            lastSeen := s.tick
            fieldTx := mapFirst TxEntry.onLine (fun e => { e with sending := e.sending.map (· + 1) }) p.fieldTx }
      else frameSent e (releaseLine s.tick s)
    else echoMismatch e (releaseLine s.tick s)
  | none => s

/-- A character received on a line (R3); on the field line it goes to the echo check while FDE is asserted (R10). -/
def characterReceived (l : Line) (c : LineChar) (s : State) : State :=
  match l with
  | .house => s.onPorts (·.character .house c s.tick)
  | .field =>
    if s.ports.fde then echoCheck c s
    else s.onPorts fun p => { p.character .field c s.tick with lastSeen := s.tick }

/-- A reply that waits past its deadline at `now` (R12). -/
def TxEntry.late (now : Tick) (e : TxEntry) : Bool :=
  !e.onLine && (match e.deadline with
    | none => false
    | some d => decide (d ≤ now))

/-- REPLY_WITHDRAWN (R12). -/
def replyWithdrawn (s : State) : State :=
  match s.ports.fieldTx.find? (TxEntry.late s.tick) with
  | some e =>
    reportOutcome e .withdrawn
      (s.onPorts fun p =>
        { p with
          fieldTx := removeFirst (TxEntry.late s.tick) p.fieldTx
          missedWindow := satInc p.missedWindow })
  | none => s

/-! ### The house transmitter (1.6) -/

/-- The last character of the ANSWER of a RESTART or RELOAD has been sent, and its effect is to come (R17). -/
def restartDue (s : State) : Bool :=
  match s.mgmt.restart with
  | some m => m.answerSent
  | none => false

/-- RDY_CHANGE (R14). -/
def rdyChange (level : Bool) (s : State) : State := s.onPorts fun p => { p with rdy := level }

/-- HOUSE_TRANSMIT_START (R14, R17). -/
def houseTransmitStart (s : State) : State :=
  if s.ports.rdy && !s.ports.houseOnLine && !s.ports.houseTx.isEmpty && !restartDue s then
    s.onPorts fun p => { p with houseOnLine := true }
  else s

/-- The ANSWER of a RESTART or RELOAD has been sent (R177). -/
def answerSent (e : HouseEntry) (s : State) : State :=
  if e.restartAnswer then
    s.onMgmt fun m => { m with restart := m.restart.map fun r => { r with answerSent := true } }
  else s

/-- HOUSE_FRAME_SENT (R13, R14). -/
def houseFrameSent (s : State) : State :=
  match s.ports.houseTx with
  | e :: rest =>
    if s.ports.houseOnLine then
      answerSent e (s.onPorts fun p => { p with houseTx := rest, houseOnLine := false })
    else s
  | [] => s

def execCharacterReceived (line : Line) (value : Byte) (parity stop : Bool) (time : Tick) (s : State) :
    Host.Outcome State Fault Refusal :=
  whenOn (fun s => characterReceived line ⟨value, parity, stop⟩ (s.reach time)) s

def execFrameTruncated (line : Line) (moment : LineMoment) (s : State) : Host.Outcome State Fault Refusal :=
  whenOn (fun s => frameTruncated line moment.arriving (s.reach moment.time)) s

def execSkipEnd (line : Line) (moment : LineMoment) (s : State) : Host.Outcome State Fault Refusal :=
  whenOn (fun s => skipEnd line moment.arriving (s.reach moment.time)) s

def execFieldTransmitStart (moment : LineMoment) (s : State) : Host.Outcome State Fault Refusal :=
  whenOn (fun s => fieldTransmitStart moment.arriving (s.reach moment.time)) s

def execEchoCheck (value : Byte) (parity stop : Bool) (time : Tick) (s : State) :
    Host.Outcome State Fault Refusal :=
  whenOn (fun s => if s.ports.fde then echoCheck ⟨value, parity, stop⟩ (s.reach time) else s.reach time) s

def execReplyWithdrawn (time : Tick) (s : State) : Host.Outcome State Fault Refusal :=
  whenOn (fun s => replyWithdrawn (s.reach time)) s

def execRdyChange (level : Bool) (s : State) : Host.Outcome State Fault Refusal := whenOn (rdyChange level) s

def execHouseTransmitStart (s : State) : Host.Outcome State Fault Refusal := whenOn houseTransmitStart s

def execHouseFrameSent (s : State) : Host.Outcome State Fault Refusal := whenOn houseFrameSent s

end Sys2Proof.Machine
end

