-- ==== Sys2Proof/Machine/TableSpace.lean ====
section
/-! DEFINITION. Table space (12.6): the fields of each area in address order, as the bytes a READ returns (R170, R186). -/

namespace Sys2Proof.Machine

/-- A byte-wide field. -/
def b1 (n : Nat) : List Byte := [BitVec.ofNat 8 n]

/-- A two-byte field. -/
def b2 (n : Nat) : List Byte := leBytes 2 n

/-- A four-byte field. -/
def b4 (n : Nat) : List Byte := leBytes 4 n

/-- `n` bytes that belong to no field, each read as 0 (R170). -/
def gap (n : Nat) : List (List Byte) := List.replicate n [0]

/-- `n` bytes at the address `a`, in a field to which the manual gives no value at that moment (log 15). -/
def unstated (now : Clock) (a n : Nat) : List Byte := (List.range n).map fun i => Config.unstated (a + i) now.toNat

/-- The seconds left of a timer at the address `a` in `n` bytes; of a stopped timer the manual states none (log 15). -/
def secondsField (now : Clock) (a n : Nat) (t : Option Nat) : List Byte := t.elim (unstated now a n) (leBytes n)

/-- A line clock value that may be absent (R186). -/
def clockField (c : Option Clock) : List Byte := b4 (c.elim absentClock BitVec.toNat)

/-- A 16-bit quantity that may be absent (R186). -/
def wordField (n : Option Nat) : List Byte := b2 (n.getD absentWord)

/-- A temperature that may be absent (R186). -/
def tempField (t : Option Int) : List Byte := t.elim (b2 absentTemp) (leInt 2)

/-- An address that may be absent (R186). -/
def addrField (a : Option Byte) : List Byte := [a.getD 0xFF]

/-! ### The areas -/

/-- 0x000: identity. -/
def identityFields : List (List Byte) :=
  [b2 Config.partCode.toNat, [Config.layoutVersion], [Config.revision]] ++ gap 4

/-- 0x008: part settings. -/
def partFields (s : State) : List (List Byte) := [[partFlags s], b1 s.gauge.reportMin] ++ gap 6

/-- The time at which a zone was granted or joined the queue. -/
def Rotation.standing (r : Rotation) (z : Fin 8) : Option Clock :=
  match r.grants.find? (fun g => decide (g.zone = z)) with
  | some g => some g.time
  | none => (r.queue.find? (fun w => decide (w.zone = z))).map (·.time)

/-- 0x010: grant time or join time of each zone; of a zone that is neither granted nor waiting it is an absent line clock
value (DEDUCED from R186; log 15). -/
def standingFields (r : Rotation) : List (List Byte) := eightNumbers.map fun z => clockField (r.standing z)

/-- 0x030: the smoothing and rise part of the gauge. -/
def riseFields (g : Gauge) : List (List Byte) :=
  [b4 g.s10, b2 g.before, b2 g.peak, b1 (g.invalidRun + 16 * g.validRun), b1 (g.candRun + 16 * g.settleRun)] ++ gap 6

/-- An address map entry as one field of four bytes. -/
def mapField (e : MapEntry) : List Byte := [BitVec.ofNat 8 (mapFlags e), e.pattern, e.mask, BitVec.ofNat 8 e.cls.code]

/-- A zone record of 32 bytes. -/
def zoneFields (z : Zone) : List (List Byte) :=
  [b1 z.enabled.toNat, addrField z.slot1.addr, addrField z.slot2.addr, b1 (z.route.elim 0xFF Fin.val), b1 z.priority,
    b1 z.hyst, leInt 2 z.frostSet, b1 z.stale, b1 z.onTime, b1 z.economy, [0], leInt 2 z.ovSet, b2 z.ovDur,
    tempField z.slot1.reading, tempField z.slot2.reading, clockField z.slot1.arrival, clockField z.slot2.arrival,
    leInt 2 z.eff, b1 z.state.code, b1 (zoneFlags z)]

/-- 0x180: rotation settings. -/
def rotationSettings (r : Rotation) : List (List Byte) :=
  [b1 r.limit, b1 r.turnLen, b1 r.travelTime, [0], b2 r.overrunTime] ++ gap 2

/-- The position byte of a zone that is neither granted nor waiting: its bits 2 to 4 hold no rank (log 15). -/
def noPosition (now : Clock) (a : Nat) : Byte := Config.unstated a now.toNat &&& 0x1C

/-- The rotation record of a zone, at 0x188 + 4 × zone: position byte, order, turn timer. Only a granted zone has a turn
timer, and a zone that is neither granted nor waiting has no rank and no order (log 15). -/
def rotationRecord (now : Clock) (r : Rotation) (z : Fin 8) : List (List Byte) :=
  let a := 0x188 + 4 * z.val
  match r.grants.find? (fun g => decide (g.zone = z)) with
  | some g => [b1 (1 + 4 * g.rank), b1 g.order, b2 g.turn]
  | none =>
    match r.queue.find? (fun w => decide (w.zone = z)) with
    | some w => [b1 (2 + 4 * w.rank), b1 w.order, unstated now (a + 2) 2]
    | none => [[noPosition now a], unstated now (a + 1) 1, unstated now (a + 2) 2]

/-- The byte of a zone output. -/
def outputByte (o : Output) : Nat := o.state.code + 4 * o.held.toNat

/-- The travel seconds left of an output, at 0x1B0 + its number: in SHUT and OPEN the timer is stopped, and the manual
states none (R70; log 15). -/
def travelField (now : Clock) (r : Rotation) (i : Fin 8) : List Byte :=
  secondsField now (0x1B0 + i.val) 1 (r.outputs.get i).travelLeft

/-- 0x1A8: outputs and pump. -/
def outputFields (now : Clock) (r : Rotation) : List (List Byte) :=
  r.outputs.toList.map (fun o => b1 (outputByte o)) ++ eightNumbers.map (travelField now r)
    ++ [b1 (flagByte [r.pump, r.overrun.isSome, r.permit, r.lastFiring.isSome]), [0], secondsField now 0x1BA 2 r.overrun,
      clockField r.lastFiring]

/-- 0x1C0: burner and recovery settings. -/
def burnerSettings (b : Burner) (r : Recovery) : List (List Byte) :=
  [b1 b.startLimit, b1 b.runoutLimit, b2 b.backOff, b1 r.auto.toNat, b1 r.budgetMax, b1 r.window, b1 r.pulseLen,
    b2 r.coolOff, b2 r.spacingTime, b1 r.gapLen, b1 r.holdTime, b2 r.provingTime]

/-- The budget entry times, oldest first, in five places. -/
def budgetFields (r : Recovery) : List (List Byte) :=
  [r.budget[0]?, r.budget[1]?, r.budget[2]?, r.budget[3]?, r.budget[4]?].map clockField

/-- 0x1D0: the live part of the burner and recovery area, with the claim view. -/
def burnerFields (now : Clock) (b : Burner) (r : Recovery) : List (List Byte) :=
  [b1 (inputsByte now b), b1 b.state.code, secondsField now 0x1D2 2 b.timer,
    b1 (flagByte [b.demand, b.reset, !b.settled]), secondsField now 0x1D5 1 b.gap, b1 r.state.code, b1 r.budget.length,
    secondsField now 0x1D8 2 r.timer, b2 r.proving, secondsField now 0x1DC 2 r.spacing, b1 (claimByte r), [0], secondsField now 0x1E0 2 r.hold]
    ++ gap 2 ++ budgetFields r ++ gap 8

/-- 0x200: gauge calibration settings. -/
def gaugeSettings (g : Gauge) : List (List Byte) :=
  [b2 g.interval, b2 g.zero, b2 g.scale, b1 g.shift, b1 g.bandHyst, b2 g.delivery, b2 g.dryT, b2 g.lowT] ++ gap 2

/-- 0x210: the live part of the gauge. -/
def gaugeFields (now : Clock) (g : Gauge) : List (List Byte) :=
  [b2 g.sampleCount.toNat, wordField g.lastT, wordField g.lastS, wordField g.lastN, wordField g.lastH, b2 g.sentV,
    b2 g.sentLitres, b1 (gaugeByte g), b1 (bandByte now g)]

/-- The two fields of a strapping table entry. -/
def strapFields (e : StrapEntry) : List (List Byte) := [wordField e.depth, b2 e.volume]

/-- 0x2E0: accounting settings. -/
def oilSettings (o : Oil) : List (List Byte) :=
  [b2 o.nozzle, b1 o.reconcileHours, b1 o.idleLoss, b2 o.runLoss, b2 o.deliveryLoss]

/-- 0x2E8: the accounts. -/
def oilFields (o : Oil) : List (List Byte) :=
  [b1 (accountingFlags o), [0], b2 o.base, clockField o.rebaseTime, leBytes 5 o.used, [0], b2 o.remainder, b4 o.firing,
    wordField o.checkpoint, wordField o.observed]

/-- The eight counters of a line in the order of R16. -/
def lineCounterList (c : LineCounters) : List Nat :=
  [c.noise, c.parity, c.framing, c.truncated, c.length, c.check, c.address, c.overrun]

/-- The fault view counters in the order of 12.6. -/
def counterList (s : State) : List Nat :=
  lineCounterList s.ports.fieldCtr ++ lineCounterList s.ports.houseCtr
    ++ [s.ports.echoFail, s.ports.missedWindow,
      s.cls.misdirected, s.cls.unlisted, s.cls.blocked, s.cls.notForwarded, s.cls.upDropped, s.cls.coalesced,
      s.cls.svcAnswerLost,
      s.zones.invalidReading, s.zones.badMode,
      s.burner.noStart, s.burner.senseFault,
      s.gauge.supplyFault, s.gauge.openInput, s.gauge.shortInput, s.gauge.riseAbandoned, s.gauge.reportDropped,
      s.postbox.strayTaken, s.postbox.replyRefused, s.postbox.noticeLost,
      s.mgmt.houseKind, s.mgmt.houseNoticeLost, s.store.failures]

/-- 0x350: the firing totals. -/
def firingFields (b : Burner) : List (List Byte) :=
  [b4 b.firingTotal, b2 b.cycles, b2 b.shortCycles, b4 b.period, b4 b.lastPeriod]

/-- The completed-day totals, newest first, in seven places; n counts the places that hold one (log 15). -/
def ringFields (now : Clock) (o : Oil) : List (List Byte) :=
  [0, 1, 2, 3, 4, 5, 6].map fun i => (o.ring[i]?).elim (unstated now (0x378 + 4 * i) 4) b4

/-- 0x360: line clock, attention, store, postbox, and the accounts' book and ring. -/
def liveFields (s : State) : List (List Byte) :=
  [b4 s.clock.toNat, b2 s.mgmt.attn.toNat,
    b1 (flagByte [s.store.present, s.store.fault, s.store.save.isSome]), b1 s.postbox.tagCounter,
    b1 s.postbox.posts.length, b1 (s.postbox.posts.countP (fun p => !p.internal)), b1 (s.postbox.posts.countP (·.internal)),
    [0], leInt 4 s.oil.book, wordField s.oil.daysToDry, b1 s.oil.ring.length, [0], b4 s.oil.today]
    ++ ringFields s.clock s.oil

/-- The zone extras of 10 bytes. -/
def zoneExtras (z : Zone) : List (List Byte) :=
  [leInt 2 z.requested, tempField z.measured, b2 (minutesUp (z.ovLeft.getD 0)), clockField z.cycleStart]

/-- The fields of 0x000..0x2FF in address order. -/
def settingsFields (s : State) : List (List Byte) :=
  identityFields ++ partFields s ++ standingFields s.rot ++ riseFields s.gauge ++ s.cls.entries.map mapField
    ++ s.zones.recs.toList.flatMap zoneFields ++ rotationSettings s.rot
    ++ eightNumbers.flatMap (rotationRecord s.clock s.rot) ++ outputFields s.clock s.rot ++ burnerSettings s.burner s.recov
    ++ burnerFields s.clock s.burner s.recov ++ gaugeSettings s.gauge ++ gaugeFields s.clock s.gauge
    ++ s.gauge.live.flatMap strapFields ++ s.gauge.pend.flatMap strapFields ++ oilSettings s.oil ++ oilFields s.oil

/-- The fields of 0x300..0x3FF in address order. -/
def faultViewFields (s : State) : List (List Byte) :=
  (counterList s).map b2 ++ firingFields s.burner ++ liveFields s ++ s.zones.recs.toList.flatMap zoneExtras
    ++ gap 12 ++ [b2 s.mgmt.enable.toNat] ++ gap 14

/-- Every field of table space in address order; a byte of no field stands by itself (12.6). -/
def tableFields (s : State) : List (List Byte) := settingsFields s ++ faultViewFields s

/-- The 1,024 bytes of table space (12.6). -/
def tableSpace (s : State) : List Byte := (tableFields s).flatten

/-- The bytes of table space from `start` on (R170). -/
def tableRead (start count : Nat) (s : State) : List Byte := ((tableSpace s).drop start).take count

/-- The start addresses of a list of fields of which the first stands at `a`. -/
def fieldStarts : Nat → List (List Byte) → List Nat
  | _, [] => []
  | a, f :: fs => a :: fieldStarts (a + f.length) fs

/-- The start addresses of the fields of table space: every field has its size whatever it holds, so they are those of any
state (12.6). -/
def fieldStartList : List Nat := fieldStarts 0 (tableFields State.blank)

/-- An address inside a field of table space, past the field's first byte (R171). -/
def insideField (a : Nat) : Bool := decide (a < 1024) && !fieldStartList.contains a

end Sys2Proof.Machine
end

