-- ==== Sys2Proof/Machine/SettingsWrite.lean ====
section
/-! DEFINITION. The WRITE request (R171, R172): the writable fields of table space, their tests and limits, and the event
each stored field is for the block that owns it. -/

namespace Sys2Proof.Machine

/-! ### The writable fields (12.6) -/

/-- The numeric settings outside the zone records. -/
inductive Num where
  | reportInterval
  | limit
  | turnLen
  | travelTime
  | overrunTime
  | startLimit
  | runoutLimit
  | backOff
  | budgetMax
  | window
  | pulseLen
  | coolOff
  | spacing
  | gapLen
  | holdTime
  | provingTime
  | interval
  | zero
  | scale
  | shift
  | bandHyst
  | delivery
  | nozzle
  | reconcileHours
  | idleLoss
  | runLoss
  | deliveryLoss
  deriving DecidableEq, Repr

/-- The numeric settings of a zone record that an evaluation follows. -/
inductive ZoneNum where
  | priority
  | hyst
  | frost
  | stale
  | onTime
  | economy
  | ovSet
  | ovDur
  deriving DecidableEq, Repr

/-- A writable field of table space. -/
inductive Field where
  | partFlags
  | mapEntry (i : Nat)
  | enabled (z : Fin 8)
  | slot (z : Fin 8) (n : SlotNo)
  | route (z : Fin 8)
  | zoneNum (z : Fin 8) (f : ZoneNum)
  | num (f : Num)
  | auto
  | dryT
  | lowT
  | depth (i : Nat)
  | volume (i : Nat)
  | counter (i : Nat)
  | attnEnable
  deriving DecidableEq, Repr

/-- A field with its start address and its size in bytes. -/
structure Located where
  field : Field
  start : Nat
  size : Nat
  deriving DecidableEq, Repr

/-- The settings fields of a zone record by offset (12.6). -/
def zoneLayout (z : Fin 8) : List Located :=
  [⟨.enabled z, 0, 1⟩, ⟨.slot z .one, 1, 1⟩, ⟨.slot z .two, 2, 1⟩, ⟨.route z, 3, 1⟩, ⟨.zoneNum z .priority, 4, 1⟩,
    ⟨.zoneNum z .hyst, 5, 1⟩, ⟨.zoneNum z .frost, 6, 2⟩, ⟨.zoneNum z .stale, 8, 1⟩, ⟨.zoneNum z .onTime, 9, 1⟩,
    ⟨.zoneNum z .economy, 10, 1⟩, ⟨.zoneNum z .ovSet, 12, 2⟩, ⟨.zoneNum z .ovDur, 14, 2⟩]

/-- The settings fields outside the map, the zone records, the pending table and the counters (12.6). -/
def plainLayout : List Located :=
  [⟨.partFlags, 0x008, 1⟩, ⟨.num .reportInterval, 0x009, 1⟩,
    ⟨.num .limit, 0x180, 1⟩, ⟨.num .turnLen, 0x181, 1⟩, ⟨.num .travelTime, 0x182, 1⟩, ⟨.num .overrunTime, 0x184, 2⟩,
    ⟨.num .startLimit, 0x1C0, 1⟩, ⟨.num .runoutLimit, 0x1C1, 1⟩, ⟨.num .backOff, 0x1C2, 2⟩, ⟨.auto, 0x1C4, 1⟩,
    ⟨.num .budgetMax, 0x1C5, 1⟩, ⟨.num .window, 0x1C6, 1⟩, ⟨.num .pulseLen, 0x1C7, 1⟩, ⟨.num .coolOff, 0x1C8, 2⟩,
    ⟨.num .spacing, 0x1CA, 2⟩, ⟨.num .gapLen, 0x1CC, 1⟩, ⟨.num .holdTime, 0x1CD, 1⟩, ⟨.num .provingTime, 0x1CE, 2⟩,
    ⟨.num .interval, 0x200, 2⟩, ⟨.num .zero, 0x202, 2⟩, ⟨.num .scale, 0x204, 2⟩, ⟨.num .shift, 0x206, 1⟩,
    ⟨.num .bandHyst, 0x207, 1⟩, ⟨.num .delivery, 0x208, 2⟩, ⟨.dryT, 0x20A, 2⟩, ⟨.lowT, 0x20C, 2⟩,
    ⟨.num .nozzle, 0x2E0, 2⟩, ⟨.num .reconcileHours, 0x2E2, 1⟩, ⟨.num .idleLoss, 0x2E3, 1⟩, ⟨.num .runLoss, 0x2E4, 2⟩,
    ⟨.num .deliveryLoss, 0x2E6, 2⟩, ⟨.attnEnable, 0x3F0, 2⟩]

/-- A located field covers an address. -/
def Located.covers (a : Nat) (l : Located) : Bool := decide (l.start ≤ a) && decide (a < l.start + l.size)

/-- The start address of a zone record (12.6). -/
def zoneBase (z : Fin 8) : Nat := 0x080 + 32 * z.val

/-- The writable field of a zone record at an offset, at its place in table space. -/
def zoneFieldAt (z : Fin 8) (offset : Nat) : Option Located :=
  ((zoneLayout z).find? (·.covers offset)).map fun l => { l with start := zoneBase z + l.start }

/-- The writable field that an address falls in; none for read-only fields and bytes of no field (12.6, R172). -/
def fieldAt (a : Nat) : Option Located :=
  if 0x040 ≤ a ∧ a < 0x080 then some ⟨.mapEntry ((a - 0x040) / 4), 0x040 + 4 * ((a - 0x040) / 4), 4⟩
  else if 0x080 ≤ a ∧ a < 0x180 then zoneFieldAt (Fin.ofNat 8 ((a - 0x080) / 32)) ((a - 0x080) % 32)
  else if 0x280 ≤ a ∧ a < 0x2E0 then
    let i := (a - 0x280) / 4
    if (a - 0x280) % 4 < 2 then some ⟨.depth i, 0x280 + 4 * i, 2⟩ else some ⟨.volume i, 0x282 + 4 * i, 2⟩
  else if 0x300 ≤ a ∧ a < 0x350 then some ⟨.counter ((a - 0x300) / 2), 0x300 + 2 * ((a - 0x300) / 2), 2⟩
  else plainLayout.find? (·.covers a)

/-! ### Numeric settings: ranges and storing -/

/-- The range of a numeric setting (R58, R78, R96, R118, R138). -/
def Num.range : Num → Nat × Nat
  | .reportInterval => (0, 60)
  | .limit => (1, 8)
  | .turnLen => (5, 60)
  | .travelTime => (10, 240)
  | .overrunTime => (0, 900)
  | .startLimit => (20, 180)
  | .runoutLimit => (10, 120)
  | .backOff => (60, 1800)
  | .budgetMax => (0, 5)
  | .window => (1, 72)
  | .pulseLen => (1, 10)
  | .coolOff => (60, 1800)
  | .spacing => (300, 7200)
  | .gapLen => (2, 30)
  | .holdTime => (1, 120)
  | .provingTime => (60, 600)
  | .interval => (10, 600)
  | .zero => (0, 1000)
  | .scale => (100, 2000)
  | .shift => (0, 5)
  | .bandHyst => (0, 100)
  | .delivery => (20, 500)
  | .nozzle => (500, 10000)
  | .reconcileHours => (1, 24)
  | .idleLoss => (10, 200)
  | .runLoss => (20, 500)
  | .deliveryLoss => (50, 1000)

/-- A value clamped to the range of its setting. -/
def Num.clamp (f : Num) (v : Nat) : Nat := max f.range.1 (min f.range.2 v)

/-- A numeric setting stored, with no event. -/
def Num.store (f : Num) (v : Nat) (s : State) : State :=
  match f with
  | .reportInterval => s.onGauge fun g => { g with reportMin := v }
  | .limit => s.onRot fun r => { r with limit := v }
  | .turnLen => s.onRot fun r => { r with turnLen := v }
  | .travelTime => s.onRot fun r => { r with travelTime := v }
  | .overrunTime => s.onRot fun r => { r with overrunTime := v }
  | .startLimit => s.onBurner fun b => { b with startLimit := v }
  | .runoutLimit => s.onBurner fun b => { b with runoutLimit := v }
  | .backOff => s.onBurner fun b => { b with backOff := v }
  | .budgetMax => s.onRecov fun r => { r with budgetMax := v }
  | .window => s.onRecov fun r => { r with window := v }
  | .pulseLen => s.onRecov fun r => { r with pulseLen := v }
  | .coolOff => s.onRecov fun r => { r with coolOff := v }
  | .spacing => s.onRecov fun r => { r with spacingTime := v }
  | .gapLen => s.onRecov fun r => { r with gapLen := v }
  | .holdTime => s.onRecov fun r => { r with holdTime := v }
  | .provingTime => s.onRecov fun r => { r with provingTime := v }
  | .interval => s.onGauge fun g => { g with interval := v }
  | .zero => s.onGauge fun g => { g with zero := v }
  | .scale => s.onGauge fun g => { g with scale := v }
  | .shift => s.onGauge fun g => { g with shift := v }
  | .bandHyst => s.onGauge fun g => { g with bandHyst := v }
  | .delivery => s.onGauge fun g => { g with delivery := v }
  | .nozzle => s.onOil fun o => { o with nozzle := v }
  | .reconcileHours => s.onOil fun o => { o with reconcileHours := v }
  | .idleLoss => s.onOil fun o => { o with idleLoss := v }
  | .runLoss => s.onOil fun o => { o with runLoss := v }
  | .deliveryLoss => s.onOil fun o => { o with deliveryLoss := v }

/-- The reconcile timer re-judged at a write of its interval (R143; log 24). -/
def rejudgeReconcile (s : State) : State := if s.oil.based && reconcileReached s then reconcileOrMark s else s

/-- A proving time at or below the count proves the attempt at the write (R106). -/
def rejudgeProving (s : State) : State :=
  if s.recov.state = .proving ∧ s.recov.provingTime ≤ s.recov.proving then proveAttempt s else s

/-- A numeric setting written: stored and handed to its block as one event (R58, R68, R69, R78, R96, R102, R106, R118,
R131, R135, R138, R143). -/
def Num.write (f : Num) (v : Nat) (s : State) : State :=
  match f with
  | .reportInterval => writeReportInterval v s
  | .limit => rotationEvent (fun r => ({ r with limit := v }.applyLimit s.clock).swapCheck s.clock) s
  | .turnLen => rotationEvent (fun r => { r with turnLen := v }.swapCheck s.clock) s
  | .window => s.onRecov fun r => { r with window := v }.ageBudget s.clock
  | .provingTime => rejudgeProving (Num.store .provingTime v s)
  | .bandHyst => rejudgeBand (Num.store .bandHyst v s)
  | .reconcileHours => rejudgeReconcile (Num.store .reconcileHours v s)
  | f => f.store v s

/-- The range of a numeric setting of a zone record, in tenths, minutes or as a rank (R35). -/
def ZoneNum.range : ZoneNum → Int × Int
  | .priority => (0, 3)
  | .hyst => (1, 20)
  | .frost => (30, 120)
  | .stale => (5, 120)
  | .onTime => (0, 30)
  | .economy => (0, 50)
  | .ovSet => (50, 300)
  | .ovDur => (0, 1440)

/-- The value written to a numeric setting of a zone record: the two temperatures are signed (12_formats.md). -/
def ZoneNum.value (f : ZoneNum) (v : Nat) : Int :=
  match f with
  | .frost => signed16 v
  | .ovSet => signed16 v
  | _ => v

/-- The value clamped to the range of its setting. -/
def ZoneNum.clamp (f : ZoneNum) (v : Nat) : Int := clampInt f.range.1 f.range.2 (f.value v)

/-- A numeric setting of a zone record stored, with no event. -/
def ZoneNum.store (f : ZoneNum) (v : Int) (z : Zone) : Zone :=
  match f with
  | .priority => { z with priority := v.toNat }
  | .hyst => { z with hyst := v.toNat }
  | .frost => { z with frostSet := v }
  | .stale => { z with stale := v.toNat }
  | .onTime => { z with onTime := v.toNat }
  | .economy => { z with economy := v.toNat }
  | .ovSet => { z with ovSet := v }
  | .ovDur => { z with ovDur := v.toNat }

/-- The change of the record at a write of a numeric setting, before the zone is evaluated (R35, R40, R43, R49). -/
def ZoneNum.write (f : ZoneNum) (v : Int) (now : Clock) (z : Zone) : Zone :=
  match f with
  | .stale => (f.store v z).rejudgeSlots now
  | .onTime => (f.store v z).rejudgePhase now
  | .ovDur => z.setOverride v.toNat
  | f => f.store v z

/-! ### One field -/

/-- What becomes of one field of a WRITE (R172). -/
inductive FieldResult where
  | stored
  | clamped (value : Nat)
  | refused (r : Reason)
  deriving DecidableEq, Repr

/-- A value stored as written or clamped. -/
def FieldResult.numeric (written stored : Nat) : FieldResult :=
  if written = stored then .stored else .clamped stored

/-- A yes/no byte (R185). -/
def boolOf (v : Nat) : Option Bool := if v = 0 then some false else if v = 1 then some true else none

/-- The four on/off settings of the part flags stored (12.6). -/
def storePartFlags (v : Nat) (s : State) : State :=
  (((s.onCls fun c => { c with forwardUnlisted := v.testBit 0 }).onRot fun r => { r with bypass := v.testBit 1 }).onBurner
    fun b => { b with dryStop := v.testBit 2 }).onRecov fun r => { r with noGauge := v.testBit 3 }

/-- A write of the part flags (R21, R76, R82, R100). -/
def writePartFlags (v : Nat) (s : State) : State := dueTrigger (judgeDemand (setPump (storePartFlags v s)))

/-- The map entry that four bytes spell, its class taken as given (12.6). -/
def entryOf (flags pattern mask : Byte) (cls : AddrClass) : MapEntry where
  valid := flags.toNat.testBit 0
  pattern := pattern
  mask := mask
  cls := cls
  forwardUp := flags.toNat.testBit 1
  guard := flags.toNat.testBit 2

/-- A write of a map entry (R18). -/
def writeEntry (i v : Nat) (s : State) : FieldResult × State :=
  let flags := BitVec.ofNat 8 v
  let pattern := BitVec.ofNat 8 (v / 256)
  let mask := BitVec.ofNat 8 (v / 65536)
  match AddrClass.ofCode (BitVec.ofNat 8 (v / 16777216)) with
  | none => (.refused .value, s)
  | some c =>
    if 63 < pattern ∨ 63 < mask then (.refused .value, s)
    else (.stored, s.onCls fun m => { m with entries := m.entries.set i (entryOf flags pattern mask c) })

/-- The other slot of a zone. -/
def SlotNo.other : SlotNo → SlotNo
  | .one => .two
  | .two => .one

/-- The slot value a byte writes, if it is an address 1..61 or the absent encoding (R36, R185). -/
def slotValue (v : Nat) : Option (Option Byte) :=
  if v = 0xFF then some none else if 1 ≤ v ∧ v ≤ 61 then some (some (BitVec.ofNat 8 v)) else none

/-- A slot write stored: the live part goes with a new value, and the zone is evaluated (R36). -/
def storeSlot (z : Fin 8) (n : SlotNo) (a : Option Byte) (s : State) : State :=
  zoneEvent z (fun r => r.onSlot n (·.store a)) s

/-- A slot write (R36, R37; log 31). -/
def writeSlot (z : Fin 8) (n : SlotNo) (v : Nat) (s : State) : FieldResult × State :=
  match slotValue v with
  | none => (.refused .value, s)
  | some none =>
    if n = .one ∧ ((s.zone z).slot .two).addr.isSome then (.refused .value, s) else (.stored, storeSlot z n none s)
  | some (some a) =>
    if ((s.zone z).slot n).addr = some a then (.stored, storeSlot z n (some a) s)
    else if (findSlot a s).isSome then (.refused .conflict, s)
    else if n = .two ∧ ((s.zone z).slot .one).addr = none then (.refused .value, s)
    else (.stored, storeSlot z n (some a) s)

/-- The route a byte names (R35, 12.6). -/
def routeOf (v : Nat) : Option (Option (Fin 8)) :=
  if v = 0xFF then some none else if h : v < 8 then some (some ⟨v, h⟩) else none

/-- A route write: the zone is evaluated, and the Rotation Unit takes a route change (R35, R65). -/
def storeRoute (z : Fin 8) (r : Option (Fin 8)) (s : State) : State :=
  routeChange z (zoneEvent z (fun rec => { rec with route := r }) s)

/-- A write of a zone's enabled setting (R54). -/
def storeEnabled (z : Fin 8) (b : Bool) (s : State) : State := zoneEvent z (fun r => { r with enabled := b }) s

/-- A write of a numeric setting of a zone (R35). -/
def storeZoneNum (z : Fin 8) (f : ZoneNum) (v : Int) (s : State) : State := zoneEvent z (f.write v s.clock) s

/-- A write of auto recovery (R96, R100). -/
def storeAuto (b : Bool) (s : State) : State := dueTrigger (s.onRecov fun r => { r with auto := b })

/-- The depth a pending entry stores: unused, or at most 3,000 (R132). -/
def depthOf (v : Nat) : Option Nat := if v = 0xFFFF then none else some (min 3000 v)

/-- A pending strapping table entry taken through `f`. -/
def storePend (i : Nat) (f : StrapEntry → StrapEntry) (s : State) : State :=
  s.onGauge fun g => { g with pend := g.pend.modify i f }

/-- The eight counters of a line with the one of this number cleared. -/
def LineCounters.clear (i : Nat) (c : LineCounters) : LineCounters :=
  match i with
  | 0 => { c with noise := 0 }
  | 1 => { c with parity := 0 }
  | 2 => { c with framing := 0 }
  | 3 => { c with truncated := 0 }
  | 4 => { c with length := 0 }
  | 5 => { c with check := 0 }
  | 6 => { c with address := 0 }
  | _ => { c with overrun := 0 }

/-- The fault view counter of this number, in the order of 12.6, set to 0 (R178). -/
def clearCounter (i : Nat) (s : State) : State :=
  match i with
  | 16 => s.onPorts fun p => { p with echoFail := 0 }
  | 17 => s.onPorts fun p => { p with missedWindow := 0 }
  | 18 => s.onCls fun c => { c with misdirected := 0 }
  | 19 => s.onCls fun c => { c with unlisted := 0 }
  | 20 => s.onCls fun c => { c with blocked := 0 }
  | 21 => s.onCls fun c => { c with notForwarded := 0 }
  | 22 => s.onCls fun c => { c with upDropped := 0 }
  | 23 => s.onCls fun c => { c with coalesced := 0 }
  | 24 => s.onCls fun c => { c with svcAnswerLost := 0 }
  | 25 => s.onZones fun u => { u with invalidReading := 0 }
  | 26 => s.onZones fun u => { u with badMode := 0 }
  | 27 => s.onBurner fun b => { b with noStart := 0 }
  | 28 => s.onBurner fun b => { b with senseFault := 0 }
  | 29 => s.onGauge fun g => { g with supplyFault := 0 }
  | 30 => s.onGauge fun g => { g with openInput := 0 }
  | 31 => s.onGauge fun g => { g with shortInput := 0 }
  | 32 => s.onGauge fun g => { g with riseAbandoned := 0 }
  | 33 => s.onGauge fun g => { g with reportDropped := 0 }
  | 34 => s.onPostbox fun b => { b with strayTaken := 0 }
  | 35 => s.onPostbox fun b => { b with replyRefused := 0 }
  | 36 => s.onPostbox fun b => { b with noticeLost := 0 }
  | 37 => s.onMgmt fun m => { m with houseKind := 0 }
  | 38 => s.onMgmt fun m => { m with houseNoticeLost := 0 }
  | 39 => s.onStore fun t => { t with failures := 0 }
  | i =>
    if i < 8 then s.onPorts fun p => { p with fieldCtr := p.fieldCtr.clear i }
    else s.onPorts fun p => { p with houseCtr := p.houseCtr.clear (i - 8) }

/-- One field of a WRITE, tested and stored with its event (R171, R172): a refused field changes nothing. -/
def applyField (f : Field) (v : Nat) (s : State) : FieldResult × State :=
  match f with
  | .partFlags => (.stored, writePartFlags v s)
  | .mapEntry i => writeEntry i v s
  | .enabled z =>
    match boolOf v with
    | some b => (.stored, storeEnabled z b s)
    | none => (.refused .value, s)
  | .slot z n => writeSlot z n v s
  | .route z =>
    match routeOf v with
    | some r => (.stored, storeRoute z r s)
    | none => (.refused .value, s)
  | .zoneNum z f =>
    (if f.value v = f.clamp v then .stored else .clamped (f.clamp v).toNat, storeZoneNum z f (f.clamp v) s)
  | .num f => (.numeric v (f.clamp v), f.write (f.clamp v) s)
  | .auto =>
    match boolOf v with
    | some b => (.stored, storeAuto b s)
    | none => (.refused .value, s)
  | .dryT =>
    if s.gauge.lowT ≤ v then (.refused .value, s) else (.stored, rejudgeBand (s.onGauge fun g => { g with dryT := v }))
  | .lowT =>
    if v ≤ s.gauge.dryT then (.refused .value, s) else (.stored, rejudgeBand (s.onGauge fun g => { g with lowT := v }))
  | .depth i =>
    (if v = 0xFFFF ∨ v ≤ 3000 then .stored else .clamped 3000, storePend i (fun e => { e with depth := depthOf v }) s)
  | .volume i => (.stored, storePend i (fun e => { e with volume := v }) s)
  | .counter i => if v = 0 then (.stored, clearCounter i s) else (.refused .value, s)
  | .attnEnable => (.stored, s.onMgmt fun m => { m with enable := BitVec.ofNat 16 v })

/-! ### The fields of one WRITE -/

/-- The offset of a refused field's first byte (R171). A field whose first byte lies before the start address has no
offset that the manual states: a free byte (log 8). -/
def refusedAt (start offset : Nat) (r : Reason) (s : State) : Answer × State :=
  if insideField (start + offset) then (refuse r [Config.freeByte s.free], s.drawn)
  else (refuse r [BitVec.ofNat 8 offset], s)

/-- The answer once every covered field has been applied (R171): `c` is the first clamped field's values. -/
def writeDone (c : Option (List Byte)) : Answer :=
  match c with
  | none => answer .done
  | some vs => answer .clamped vs

/-- The fields applied one by one in address order (R171): `fuel` bounds their number, `c` is what the first clamped
field is answered with. -/
def writeFields : Nat → Nat → Nat → List Byte → Option (List Byte) → State → Answer × State
  | 0, _, _, _, c, s => (writeDone c, s)
  | fuel + 1, start, offset, data, c, s =>
    if data.isEmpty then (writeDone c, s)
    else
      match fieldAt (start + offset) with
      | none => refusedAt start offset .address s
      | some l =>
        if l.start ≠ start + offset ∨ data.length < l.size then refusedAt start offset .length s
        else
          let r := applyField l.field (ofLE (data.take l.size)) s
          match r.1 with
          | .stored => writeFields fuel start (offset + l.size) (data.drop l.size) c r.2
          | .clamped v =>
            writeFields fuel start (offset + l.size) (data.drop l.size)
              (some (c.getD (BitVec.ofNat 8 offset :: leBytes l.size v))) r.2
          | .refused e => refusedAt start offset e r.2

/-- WRITE (R171). -/
def writeTable (start : Nat) (data : List Byte) (s : State) : Answer × State :=
  writeFields data.length start 0 data none s

end Sys2Proof.Machine
end

