-- ==== Sys2Proof/Machine/SettingsStore.lean ====
section
/-! DEFINITION. The settings image and the settings store (11.3, 11.4, 12.7): the image and its acceptance, its loading
field by field, and the SAVE. -/

namespace Sys2Proof.Machine

/-! ### The image (12.7) -/

/-- The length of the image in bytes (12.7). -/
def imageLength : Nat := 774

/-- The header of an image with its true length (12.7). -/
def imageHeader : List Byte := leBytes 2 imageLength ++ [Config.layoutVersion, 0]

/-- The header and the body of an image, over which its check is taken (12.7). -/
def imageSummed (body : List Byte) : List Byte := imageHeader ++ body

/-- The image of a body: header, body, pair sum (12.7). -/
def imageOf (body : List Byte) : List Byte :=
  imageSummed body ++ [(pairSum (imageSummed body)).1, (pairSum (imageSummed body)).2]

/-- The snapshot of table space that a SAVE takes: 0x000 to 0x2FF (R182). -/
def snapshot (s : State) : List Byte := (settingsFields s).flatten

/-- The bytes of an image read are accepted: length, layout version and pair sum agree (R181). -/
def imageGood (bs : List Byte) : Bool :=
  decide (ofLE (bs.take 2) = imageLength) && decide (bs.getD 2 0 = Config.layoutVersion)
    && decide (pairSum (bs.take 772) = (bs.getD 772 0, bs.getD 773 0))

/-- An image read from the memory is accepted: the read is acknowledged, the image is good, and no readback has left it
with a check that fails (R181, R182; log 9). -/
def imageAccepted (ack : Bool) (t : Store) : Bool := ack && !t.spoilt && imageGood (t.mem.readBytes 0 imageLength)

/-- The body of the image in the memory. -/
def imageBody (t : Store) : List Byte := t.mem.readBytes 4 768

/-! ### Loading (R181) -/

/-- The value of a field in a body. -/
def bodyValue (body : List Byte) (start size : Nat) : Nat := ofLE ((body.drop start).take size)

/-- A setting outside the map, the zone records and the tables loaded (R181); the two thresholds have a rule of their own. -/
def loadPlain (body : List Byte) (s : State) (l : Located) : State :=
  match l.field with
  | .partFlags => storePartFlags (bodyValue body l.start l.size) s
  | .num f => f.store (f.clamp (bodyValue body l.start l.size)) s
  | .auto => s.onRecov fun r => { r with auto := (boolOf (bodyValue body l.start l.size)).getD false }
  | _ => s

/-- DRY_T and LOW_T loaded if in order, otherwise both at their defaults (R181). -/
def loadThresholds (body : List Byte) (s : State) : State :=
  let dry := bodyValue body 0x20A 2
  let low := bodyValue body 0x20C 2
  s.onGauge fun g => if dry < low then { g with dryT := dry, lowT := low } else { g with dryT := 150, lowT := 500 }

/-- A map entry loaded: match and mask at the nearest limit, a class that names none BLOCKED (R181; log 25). -/
def loadEntry (body : List Byte) (i : Nat) : MapEntry :=
  let at4 (k : Nat) : Byte := body.getD (0x040 + 4 * i + k) 0
  let limit (b : Byte) : Byte := if 63 < b then 63 else b
  entryOf (at4 0) (limit (at4 1)) (limit (at4 2)) ((AddrClass.ofCode (at4 3)).getD .blocked)

/-- The sixteen map entries loaded. -/
def loadEntries (body : List Byte) : List MapEntry := (List.range 16).map (loadEntry body)

/-- A slot byte loaded: an address 1..61, or absent (R37). -/
def loadSlotByte (body : List Byte) (a : Nat) : Option Byte := (slotValue (bodyValue body a 1)).getD none

/-- The sixteen slot addresses in the order of R37: zone 0 slot 1, zone 0 slot 2, zone 1 slot 1, and so on. -/
def slotBytes (body : List Byte) : List (Option Byte) :=
  eightNumbers.flatMap fun z => [loadSlotByte body (zoneBase z + 1), loadSlotByte body (zoneBase z + 2)]

/-- Each address that already stands in a lower-numbered slot made absent; `seen` holds the addresses met (R37). -/
def dropRepeats (seen : List Byte) : List (Option Byte) → List (Option Byte)
  | [] => []
  | none :: rest => none :: dropRepeats seen rest
  | some a :: rest => if seen.contains a then none :: dropRepeats seen rest else some a :: dropRepeats (a :: seen) rest

/-- The two slots of a zone with a slot 2 left without slot 1 moved into slot 1 (R37). -/
def slotPair : Option Byte → Option Byte → Slot × Slot
  | none, b => ({ addr := b }, {})
  | a, b => ({ addr := a }, { addr := b })

/-- A numeric setting of a zone record loaded; the override duration is loaded as 0 (R55, R181). -/
def loadZoneField (body : List Byte) (z : Fin 8) (r : Zone) (l : Located) : Zone :=
  let v := bodyValue body (zoneBase z + l.start) l.size
  match l.field with
  | .enabled _ => { r with enabled := (boolOf v).getD (decide (z = 0)) }
  | .route _ => { r with route := (routeOf v).getD none }
  | .zoneNum _ .ovDur => r
  | .zoneNum _ f => f.store (f.clamp v) r
  | _ => r

/-- A zone record loaded, with the slots that the repair of R37 has left it. -/
def loadZone (body : List Byte) (slots : List (Option Byte)) (z : Fin 8) : Zone :=
  let pair := slotPair (slots.getD (2 * z.val) none) (slots.getD (2 * z.val + 1) none)
  (zoneLayout z).foldl (loadZoneField body z) { slot1 := pair.1, slot2 := pair.2 }

/-- The zone records loaded (R37, R55, R181). -/
def loadZones (body : List Byte) : Eight Zone := Eight.ofFn (loadZone body (dropRepeats [] (slotBytes body)))

/-- The live strapping table as the body holds it, a depth above 3,000 at the nearest limit (log 25). -/
def bodyTable (body : List Byte) : List StrapEntry :=
  (List.range 24).map fun i => ⟨depthOf (bodyValue body (0x220 + 4 * i) 2), bodyValue body (0x222 + 4 * i) 2⟩

/-- The live table loaded: the body's if it passes the checks of COMMIT_STRAP, otherwise empty (R181). -/
def loadTable (body : List Byte) : List StrapEntry :=
  match checkStrap (strapPoints (bodyTable body)) with
  | .good => bodyTable body
  | _ => List.replicate 24 {}

/-- A part with every setting as an accepted image loads it, and power-on values otherwise (R181). -/
def loadedPart (body : List Byte) : State :=
  loadThresholds body
    (plainLayout.foldl (loadPlain body)
      (((State.blank.onCls fun c => { c with entries := loadEntries body }).onZones fun u =>
        { u with recs := loadZones body }).onGauge fun g =>
          { g with live := loadTable body, pend := loadTable body }))

/-- The settings in force after a load: those of the image if it is accepted, otherwise the defaults (R180, R184). -/
def loadSource (ack : Bool) (t : Store) : State := if imageAccepted ack t then loadedPart (imageBody t) else State.blank

/-- The settings of a zone record taken from `src` (R35); the override duration is 0 (R55). -/
def Zone.settingsFrom (src z : Zone) : Zone :=
  { z with
    enabled := src.enabled, slot1 := src.slot1, slot2 := src.slot2, route := src.route, priority := src.priority
    hyst := src.hyst, frostSet := src.frostSet, stale := src.stale, onTime := src.onTime, economy := src.economy
    ovSet := src.ovSet, ovDur := 0 }

/-- Every setting, the map and the strapping tables taken from `src` (R184). -/
def copySettings (src s : State) : State :=
  { s with
    cls := { s.cls with entries := src.cls.entries, forwardUnlisted := src.cls.forwardUnlisted }
    zones := { s.zones with recs := Eight.ofFn fun i => (src.zones.recs.get i).settingsFrom (s.zones.recs.get i) }
    rot := { s.rot with
      limit := src.rot.limit, turnLen := src.rot.turnLen, travelTime := src.rot.travelTime
      overrunTime := src.rot.overrunTime, bypass := src.rot.bypass }
    burner := { s.burner with
      startLimit := src.burner.startLimit, runoutLimit := src.burner.runoutLimit, backOff := src.burner.backOff
      dryStop := src.burner.dryStop }
    recov := { s.recov with
      auto := src.recov.auto, budgetMax := src.recov.budgetMax, window := src.recov.window, coolOff := src.recov.coolOff
      spacingTime := src.recov.spacingTime, pulseLen := src.recov.pulseLen, gapLen := src.recov.gapLen
      provingTime := src.recov.provingTime, noGauge := src.recov.noGauge, holdTime := src.recov.holdTime }
    gauge := { s.gauge with
      interval := src.gauge.interval, zero := src.gauge.zero, scale := src.gauge.scale, shift := src.gauge.shift
      delivery := src.gauge.delivery, dryT := src.gauge.dryT, lowT := src.gauge.lowT, bandHyst := src.gauge.bandHyst
      reportMin := src.gauge.reportMin, live := src.gauge.live, pend := src.gauge.pend }
    oil := { s.oil with
      nozzle := src.oil.nozzle, reconcileHours := src.oil.reconcileHours, idleLoss := src.oil.idleLoss
      runLoss := src.oil.runLoss, deliveryLoss := src.oil.deliveryLoss } }

/-! ### SAVE (R182) -/

/-- The bytes of an image differ from the bytes written at these offsets. -/
def realDiffs (image : List Byte) (ds : List (Fin 774 × Byte)) : List (Fin 774 × Byte) :=
  ds.filter fun d => decide (image.getD d.1.val 0 ≠ d.2)

/-- The lowest offset of a list of differing bytes. -/
def firstDiff (ds : List (Fin 774 × Byte)) : Option Nat := (ds.map (·.1.val)).min?

/-- The NOTICE of SAVE_DONE (R182, 12.3). -/
def saveDoneNotice : Notice where
  bit := .store
  code := 0x0E
  value1 := imageLength

/-- The NOTICE of SAVE_FAIL (R182, 12.3). -/
def saveFailNotice (p : SavePhase) (offset : Nat) : Notice where
  bit := .store
  code := 0x0F
  subject := p.code
  value1 := offset

/-- The save goes on with its next phase. -/
def Store.toPhase (p : SavePhase) (t : Store) : Store := { t with save := t.save.map fun v => { v with phase := p } }

/-- The memory with bytes written from an address on. -/
def Store.put (a : Nat) (bs : List Byte) (t : Store) : Store := { t with mem := t.mem.writeBytes a bs }

/-- A save that has failed is no longer in flight; store fault is set and the failure counted (R182). -/
def Store.failed (t : Store) : Store := { t with save := none, fault := true, failures := satInc t.failures }

/-- SAVE_FAIL (R182). -/
def saveFail (p : SavePhase) (offset : Nat) (s : State) : State := raise (saveFailNotice p offset) (s.onStore Store.failed)

/-- SAVE (R182): the snapshot is taken and the mark phase begins, from which the earlier image is lost (R183). -/
def startSave (s : State) : Answer × State :=
  if s.store.present then
    (answer .done,
      s.onStore fun t => { t.put 0 [0, 0] with save := some ⟨.mark, imageOf (snapshot s)⟩, spoilt := false })
  else (refuse .noStore, s)

/-- A phase that writes is not acknowledged: SAVE_FAIL with the phase. The manual gives an offset for READBACK alone, so
value 1 of the NOTICE is a free word (R182, 12.3; log 8). -/
def transferFail (p : SavePhase) (s : State) : State := saveFail p (Config.freeWord s.free).toNat s.drawn

/-- SAVE_TRANSFER_DONE (R182): what a phase writes reaches the memory at its acknowledged completion (log 10). -/
def saveTransferDone (ack : Bool) (s : State) : State :=
  match s.store.save with
  | none => s
  | some v =>
    match v.phase with
    | .readback => s
    | .mark => if ack then s.onStore (·.toPhase .body) else transferFail .mark s
    | .body =>
      if ack then s.onStore fun t => (t.put 4 (v.image.drop 4)).toPhase .header else transferFail .body s
    | .header =>
      if ack then s.onStore fun t => (t.put 0 (v.image.take 4)).toPhase .readback else transferFail .header s

/-- The memory with the bytes that were read back other than built. -/
def Store.putDiffs (ds : List (Fin 774 × Byte)) (t : Store) : Store :=
  { t with mem := ds.foldl (fun m d => m.write d.1.val d.2) t.mem, spoilt := true }

/-- A save that has ended SAVE_DONE (R182). -/
def Store.succeeded (t : Store) : Store := { t with save := none, fault := false }

/-- SAVE_READBACK_DONE (R182): an unacknowledged readback gives no offset that the manual states (log 8). -/
def saveReadbackDone (ack : Bool) (ds : List (Fin 774 × Byte)) (s : State) : State :=
  match s.store.save with
  | none => s
  | some v =>
    if v.phase = .readback then
      if ack then
        match firstDiff (realDiffs v.image ds) with
        | none => raise saveDoneNotice (s.onStore Store.succeeded)
        | some n => saveFail .readback n (s.onStore (·.putDiffs (realDiffs v.image ds)))
      else saveFail .readback (Config.freeWord s.free).toNat ((s.onStore (·.putDiffs [])).drawn)
    else s

def execSaveTransferDone (ack : Bool) (s : State) : Host.Outcome State Fault Refusal := whenOn (saveTransferDone ack) s

def execSaveReadbackDone (ack : Bool) (differing : List (Fin 774 × Byte)) (s : State) :
    Host.Outcome State Fault Refusal :=
  whenOn (saveReadbackDone ack differing) s

end Sys2Proof.Machine
end

