-- ==== Sys2Proof/Machine/AddressMap.lean ====
section
/-! DEFINITION. The address map and the relay down (2.1, 2.4): lookup of an address, and the check of a PASS frame. -/

namespace Sys2Proof.Machine

/-- An address matches a valid entry (R19). -/
def MapEntry.matches (a : Byte) (e : MapEntry) : Bool := e.valid && decide (a &&& e.mask = e.pattern &&& e.mask)

/-- The entry that decides an address; none where the address is UNLISTED (R19). -/
def lookup (a : Byte) (s : State) : Option MapEntry := s.cls.entries.find? (·.matches a)

/-- The claim side is FIELD, which shuts guarded addresses to the house (R18, R111). -/
def fieldClaims (s : State) : Bool := decide (s.recov.side = .field)

/-- The field frame of a PASS (R32). -/
def passedFrame (f : Frame) : Frame where
  dest := f.dest
  source := houseAddr
  kind := f.payload.getD 0 0
  tag := f.payload.getD 1 0
  payload := f.payload.drop 2

/-- A PASS offered to the field transmit queue (R32, R33). -/
def offerPass (f : Frame) (s : State) : Answer × State :=
  if fieldAccepts s then (answer .done, pushField { frame := passedFrame f, origin := .pass } s) else (refuse .full, s)

/-- The check of a PASS against its destination (R32). -/
def checkDestination (f : Frame) (s : State) : Answer × State :=
  if f.dest = 63 then (if fieldClaims s then (refuse .guarded, s) else offerPass f s)
  else
    match lookup f.dest s with
    | none => (refuse .unlisted, s)
    | some e =>
      match e.cls with
      | .blocked => (refuse .blocked, s)
      | .room => (refuse .sleeper, s)
      | .listener => if e.guard && fieldClaims s then (refuse .guarded, s) else offerPass f s
      | .service => if e.guard && fieldClaims s then (refuse .guarded, s) else offerPass f s

/-- The relay-down check of a PASS frame (R31). -/
def relayCheck (f : Frame) (s : State) : Answer × State :=
  if f.payload.length < 2 then (refuse .length, s)
  else if f.dest = 0 ∨ f.dest = houseAddr then (refuse .address, s)
  else if definedKinds.contains (f.payload.getD 0 0) then checkDestination f s
  else (refuse .value, s)

end Sys2Proof.Machine
end

