-- ==== Sys2Proof/Machine/Management.lean ====
section
/-! DEFINITION. House management (09.2, 10): the requests POST and WITHDRAW, READ, STATUS, LOG_READ, ATTN_CLEAR, RESTART and
RELOAD, the form tests, and the dispatcher of house requests. -/

namespace Sys2Proof.Machine

/-! ### POST and WITHDRAW (9.2) -/

/-- The parameters of a POST (12.4). -/
structure PostParams where
  dest : Byte
  kind : Byte
  value : Nat
  minutes : Nat
  wait : Byte
  deriving DecidableEq, Repr

/-- The parameters as they stand in the request (12.4). -/
def PostParams.of (ps : List Byte) : PostParams where
  dest := ps.getD 0 0
  kind := ps.getD 1 0
  value := ofLE ((ps.drop 2).take 2)
  minutes := (ps.getD 4 0).toNat
  wait := ps.getD 5 0

/-- An address 1..61. -/
def deviceAddr (a : Byte) : Bool := decide (1 ≤ a) && decide (a ≤ 61)

/-- The value is one that a post of the kind may carry (R154 row 2). -/
def postValueOk (k : PostKind) (v : Nat) : Bool :=
  match k with
  | .setpoint => decide (v ≤ 300)
  | .mode => decide (v ≤ 1)
  | .notice => decide (0x40 ≤ v) && decide (v ≤ 0x7F)

/-- The kind of a POST that passes row 2 of R154. -/
def PostParams.checked (p : PostParams) : Option PostKind :=
  match PostKind.ofCode p.kind with
  | none => none
  | some k =>
    if postValueOk k p.value && decide (1 ≤ p.minutes) && decide (p.minutes ≤ 240) && decide (p.wait ≤ 1) then some k
    else none

/-- The expiry of a post with this lifetime from `now` (R154, R155). -/
def expiryAt (now : Clock) (minutes : Nat) : Clock := now + BitVec.ofNat 32 (minutes * 60)

/-- The new post of an accepted POST; its tag is given when it is added (R154). -/
def newPost (p : PostParams) (k : PostKind) (now : Clock) : Post where
  dest := p.dest
  tag := 0
  kind := k
  value := p.value
  internal := false
  wait := decide (p.wait = 1)
  posted := now
  expiry := expiryAt now p.minutes

/-- The post of a device that a SETPOINT or MODE supersedes (R155). -/
def Post.supersededBy (d : Byte) (k : PostKind) (q : Post) : Bool :=
  decide (q.dest = d) && decide (q.kind = k) && decide (k ≠ .notice)

/-- The house NOTICE of a device that a NOTICE with the same code refreshes (R155). -/
def Post.refreshedBy (d : Byte) (k : PostKind) (v : Nat) (q : Post) : Bool :=
  decide (q.dest = d) && decide (k = .notice) && decide (q.kind = .notice) && !q.internal && decide (q.value = v)

/-- The tag a superseding post takes: it need only differ from the device's other posts (R153, R155). -/
def supersedeTag (p : PostParams) (k : PostKind) (b : Postbox) : Nat :=
  { b with posts := removeFirst (Post.supersededBy p.dest k) b.posts }.nextTag p.dest

/-- The post as the superseding request leaves it (R155). -/
def Post.superseded (p : PostParams) (tag : Nat) (now : Clock) (q : Post) : Post :=
  { q with
    value := p.value, tag := tag, expiry := expiryAt now p.minutes, wait := decide (p.wait = 1), internal := false
    attempts := 0, outstanding := false }

/-- Row 7 of R154: the post `old` is superseded in place (R155). -/
def supersede (p : PostParams) (k : PostKind) (old : Post) (s : State) : Answer × State :=
  let tag := supersedeTag p k s.postbox
  (answer .accept [BitVec.ofNat 8 tag],
    (resolve old .superseded s).onPostbox fun b =>
      { b with
        posts := mapFirst (Post.supersededBy p.dest k) (·.superseded p tag s.clock) b.posts
        tagCounter := (tag + 1) % 16 })

/-- Row 8 of R154: the house NOTICE `old` is refreshed (R155). -/
def refreshPost (p : PostParams) (k : PostKind) (old : Post) (s : State) : Answer × State :=
  (answer .accept [BitVec.ofNat 8 old.tag],
    changePost (Post.refreshedBy p.dest k p.value)
      (fun q => { q with expiry := expiryAt s.clock p.minutes, wait := q.wait || decide (p.wait = 1) }) s)

/-- Rows 7 to 11 of R154. -/
def placePost (p : PostParams) (k : PostKind) (s : State) : Answer × State :=
  match s.postbox.posts.find? (Post.supersededBy p.dest k) with
  | some old => supersede p k old s
  | none =>
    match s.postbox.posts.find? (Post.refreshedBy p.dest k p.value) with
    | some old => refreshPost p k old s
    | none =>
      if 4 ≤ (s.postbox.of p.dest).length then (refuse .deviceFull, s)
      else if 24 ≤ s.postbox.posts.length then (refuse .full, s)
      else
        (answer .accept [BitVec.ofNat 8 (s.postbox.nextTag p.dest)],
          s.onPostbox (·.add (newPost p k s.clock)))

/-- POST (R154). -/
def postRequest (ps : List Byte) (s : State) : Answer × State :=
  let p := PostParams.of ps
  if !deviceAddr p.dest then (refuse .address, s)
  else
    match p.checked with
    | none => (refuse .value, s)
    | some k =>
      match lookup p.dest s with
      | none => (refuse .unlisted, s)
      | some e =>
        match e.cls with
        | .blocked => (refuse .blocked, s)
        | .listener => (refuse .sleeper, s)
        | .service => (refuse .sleeper, s)
        | .room => if e.guard && fieldClaims s then (refuse .guarded, s) else placePost p k s

/-- The house post of a device with a tag (R156). -/
def Post.houseNamed (d : Byte) (tag : Nat) (p : Post) : Bool := p.named d tag && !p.internal

/-- WITHDRAW (R156). -/
def withdrawRequest (ps : List Byte) (s : State) : Answer × State :=
  let d := ps.getD 0 0
  let tag := (ps.getD 1 0).toNat
  match s.postbox.posts.find? (Post.houseNamed d tag) with
  | some p => (answer .done, resolve p .withdrawn (dropPost (Post.houseNamed d tag) s))
  | none => (answer .abort, s)

/-! ### Reading state (10.2, 10.5) -/

/-- The bytes a READ returns; none where it is refused (R170). -/
def readRequest (ps : List Byte) (s : State) : List Byte :=
  let start := ofLE (ps.take 2)
  let count := (ps.getD 2 0).toNat
  if count = 0 ∨ 16 < count ∨ 0x3FF < start + count - 1 then [] else tableRead start count s

/-- The zones for which `f` holds, one bit per zone. -/
def zoneBits (f : Fin 8 → Bool) : Nat := flagByte (eightNumbers.map f)

/-- The claim byte of STATUS, with the SAVE in flight (12.5). -/
def statusClaim (s : State) : Nat := claimByte s.recov + 128 * s.store.save.isSome.toNat

/-- The 14 bytes of STATUS (R175, 12.4). -/
def statusBytes (s : State) : List Byte :=
  b2 s.mgmt.attn.toNat ++ b1 s.burner.state.code ++ b1 s.recov.state.code ++ b1 s.gauge.band.code
    ++ b1 (gaugeByte s.gauge) ++ b2 s.gauge.sentLitres ++ wordField s.oil.daysToDry
    ++ b1 (zoneBits fun i => s.rot.grants.any fun g => decide (g.zone = i))
    ++ b1 (zoneBits fun i => (s.zone i).rank.isSome) ++ b1 (statusClaim s) ++ b1 s.postbox.posts.length

/-- A recovery record as LOG_READ gives it (12.4). -/
def recoveryBytes (r : RecRecord) : List Byte :=
  b4 r.begin.toNat ++ b1 (r.cause.code + 16 * r.outcome.code) ++ b1 r.band.code ++ wordField r.litres

/-- An oil event as LOG_READ gives it (12.4); the source bit of a record without a source is free (log 15). -/
def oilEventBytes (e : OilEvent) : List Byte :=
  b1 (e.kind.code + 8 * (e.source.elim (Config.sourceBit e.time.toNat).toNat OilSource.code)
      + 16 * flagByte [e.source.isSome, e.before.isSome, e.after.isSome])
    ++ b4 e.time.toNat ++ wordField e.before ++ wordField e.after ++ b2 e.amount

/-- A post as LOG_READ gives it (12.4). -/
def postBytes (p : Post) : List Byte :=
  [p.dest] ++ b1 (p.tag % 16 + 16 * p.kind.code + 64 * flagByte [p.internal, p.wait]) ++ b2 p.value
    ++ b1 (p.attempts + 4 * p.outstanding.toNat) ++ b4 p.posted.toNat ++ b4 p.expiry.toNat

/-- The count of a log and the record at an index, if it is held (R176). -/
def logAnswer {α : Type} (enc : α → List Byte) (log : List α) (index : Nat) : Answer :=
  answer .done (b1 log.length ++ (match log[index]? with
    | some r => enc r
    | none => []))

/-- LOG_READ (R176). -/
def logReadRequest (ps : List Byte) (s : State) : Answer :=
  let index := (ps.getD 1 0).toNat
  match (ps.getD 0 0).toNat with
  | 0 => logAnswer recoveryBytes s.recov.log index
  | 1 => logAnswer oilEventBytes s.oil.events index
  | 2 => logAnswer postBytes s.postbox.posts index
  | _ => refuse .value

/-! ### Attention, restart (10.4, 10.6) -/

/-- ATTN_CLEAR (R173). -/
def attnClearRequest (mask : BitVec 16) (s : State) : Answer × State :=
  (answer .done, s.onMgmt fun m => { m with attn := m.attn &&& ~~~mask })

/-- RESTART and RELOAD set the restart pending mark (R177). -/
def markRestart (k : RestartKind) (s : State) : State := s.onMgmt fun m => { m with restart := some { kind := k } }

/-- RESTART (R177). -/
def restartRequest (s : State) : Answer × State := (answer .done, markRestart .restart s)

/-- RELOAD (R177). -/
def reloadRequest (s : State) : Answer × State :=
  if s.store.present then (answer .done, markRestart .reload s) else (refuse .noStore, s)

/-! ### Operations (12.4) -/

def opRead : Byte := 0x01
def opWrite : Byte := 0x02
def opCommit : Byte := 0x03
def opDiscard : Byte := 0x04
def opSave : Byte := 0x05
def opReload : Byte := 0x06
def opRestart : Byte := 0x07
def opPost : Byte := 0x08
def opWithdraw : Byte := 0x09
def opClaimSelect : Byte := 0x0A
def opClaimTest : Byte := 0x0B
def opClaimRelease : Byte := 0x0C
def opRemoteReset : Byte := 0x0D
def opAttnClear : Byte := 0x0E
def opLogRead : Byte := 0x0F
def opStatus : Byte := 0x10
def opServiceReset : Byte := 0x11
def opClearHard : Byte := 0x12

/-- The operations that a MGMT frame may carry (R169). -/
inductive MgmtOp where
  | read
  | write
  | commit
  | discard
  | save
  | reload
  | restart
  | post
  | withdraw
  | claimSelect
  | claimTest
  | claimRelease
  | remoteReset
  | attnClear
  | logRead
  | status
  deriving DecidableEq, Repr

/-- The operation that an operation byte names in a MGMT frame (R169 row 3, 12.4). -/
def MgmtOp.ofCode (op : Byte) : Option MgmtOp :=
  match op.toNat with
  | 0x01 => some .read
  | 0x02 => some .write
  | 0x03 => some .commit
  | 0x04 => some .discard
  | 0x05 => some .save
  | 0x06 => some .reload
  | 0x07 => some .restart
  | 0x08 => some .post
  | 0x09 => some .withdraw
  | 0x0A => some .claimSelect
  | 0x0B => some .claimTest
  | 0x0C => some .claimRelease
  | 0x0D => some .remoteReset
  | 0x0E => some .attnClear
  | 0x0F => some .logRead
  | 0x10 => some .status
  | _ => none

/-- The least and the greatest payload length of an operation (12.4). -/
def MgmtOp.lengths : MgmtOp → Nat × Nat
  | .read => (4, 4)
  | .write => (4, 16)
  | .commit => (1, 1)
  | .discard => (1, 1)
  | .save => (1, 1)
  | .reload => (1, 1)
  | .restart => (1, 1)
  | .post => (7, 7)
  | .withdraw => (3, 3)
  | .claimSelect => (3, 3)
  | .claimTest => (3, 3)
  | .claimRelease => (3, 3)
  | .remoteReset => (1, 1)
  | .attnClear => (3, 3)
  | .logRead => (3, 3)
  | .status => (1, 1)

/-- The payload length is one that the operation requires (R169 row 4). -/
def MgmtOp.formed (n : Nat) (o : MgmtOp) : Bool := decide (o.lengths.1 ≤ n) && decide (n ≤ o.lengths.2)

/-- The operations answered BUSY while a SAVE is in flight (R169 row 5). -/
def MgmtOp.barred : MgmtOp → Bool
  | .write => true
  | .commit => true
  | .discard => true
  | .save => true
  | .reload => true
  | .restart => true
  | _ => false

/-- The 16-bit word that two bytes spell. -/
def wordOf (bs : List Byte) : BitVec 16 := BitVec.ofNat 16 (ofLE (bs.take 2))

/-- An operation of a MGMT frame that has passed the form tests (R169 row 6). -/
def runOperation (o : MgmtOp) (ps : List Byte) (s : State) : Answer × State :=
  match o with
  | .read => (readRequest ps s, s)
  | .write => writeTable (ofLE (ps.take 2)) (ps.drop 2) s
  | .commit => commitStrap s
  | .discard => discardStrap s
  | .save => startSave s
  | .reload => reloadRequest s
  | .restart => restartRequest s
  | .post => postRequest ps s
  | .withdraw => withdrawRequest ps s
  | .claimSelect => Sys2Proof.Machine.claimSelect .house (wordOf ps) s
  | .claimTest => Sys2Proof.Machine.claimTest (wordOf ps) s
  | .claimRelease => Sys2Proof.Machine.claimRelease (wordOf ps) s
  | .remoteReset => Sys2Proof.Machine.remoteReset s
  | .attnClear => attnClearRequest (wordOf ps) s
  | .logRead => (logReadRequest ps s, s)
  | .status => (answer .done (statusBytes s), s)

/-- A refusal of a formed operation: a refused READ is answered with an empty payload (R170; log 35). -/
def MgmtOp.refuse (r : Reason) (o : MgmtOp) : Answer := if o = .read then [] else Sys2Proof.Machine.refuse r

/-- The rows of R169 after the operation is known. -/
def manageOp (o : MgmtOp) (ps : List Byte) (s : State) : Answer × State :=
  if !o.formed (ps.length + 1) then (o.refuse .length, s)
  else if s.store.save.isSome && o.barred then (answer .busy, s)
  else runOperation o ps s

/-- The Management Unit takes a MGMT frame (R169). -/
def manage (f : Frame) (s : State) : Answer × State :=
  if f.dest ≠ 0 then (refuse .address, s)
  else
    match f.payload with
    | [] => (refuse .length, s)
    | op :: ps =>
      match MgmtOp.ofCode op with
      | none => (refuse .unknownOp, s)
      | some o => manageOp o ps s

/-! ### The dispatcher of house requests (R168) -/

/-- The ANSWER frame of a request with tag `tag` (R169). -/
def answerFrame (tag : Byte) (a : Answer) : Frame where
  dest := houseAddr
  source := 0
  kind := kindAnswer
  tag := tag
  payload := a

/-- The ANSWER offered to the house transmit queue, which has a place for it (R13, R168); the ANSWER of an accepted
RESTART or RELOAD is marked (R177). A NOTICE that the request itself raises is queued before it (log 42). -/
def offerAnswer (tag : Byte) (r : Answer × State) : State :=
  pushHouse { frame := answerFrame tag r.1, restartAnswer := r.2.mgmt.restart.isSome } r.2

/-- A house frame taken and carried to its end (R168). -/
def handleHouse (f : Frame) (s : State) : State :=
  if f.kind = kindMgmt then offerAnswer f.tag (manage f s)
  else if f.kind = kindPass then offerAnswer f.tag (relayCheck f s)
  else s.onMgmt fun m => { m with houseKind := satInc m.houseKind }

/-- The dispatcher may take a request: an ANSWER place is free and no restart is pending (R8, R168). -/
def dispatcherReady (s : State) : Bool := decide (s.ports.houseTx.length < 16) && s.mgmt.restart.isNone

/-- The house frame `f` is taken: it is the head of the house receive queue, or arrives whole at an empty one (log 3). -/
def takeHouse (f : Frame) (s : State) : State :=
  if frameFits f && dispatcherReady s then
    match s.ports.houseRx with
    | [] => handleHouse f s
    | g :: rest => if g = f then handleHouse f (s.onPorts fun p => { p with houseRx := rest }) else s
  else s

end Sys2Proof.Machine
end

