-- ==== Sys2Proof/Machine/Classifier.lean ====
section
/-! DEFINITION. The classifier (2.2, 2.3): dispatch of field frames, the service handler, and the relay up. -/

namespace Sys2Proof.Machine

/-! ### The service handler (R26) -/

/-- An operation of an SVC frame (R26, 12.4). -/
def serviceOperation (op : Byte) (ps : List Byte) (s : State) : Answer × State :=
  if op = opRead then (readRequest ps s, s)
  else if op = opClaimSelect then claimSelect .field (wordOf ps) s
  else if op = opClaimTest then claimTest (wordOf ps) s
  else if op = opClaimRelease then claimRelease (wordOf ps) s
  else if op = opServiceReset then serviceReset (wordOf ps) s
  else if op = opClearHard then clearHard (wordOf ps) s
  else (refuse .unknownOp, s)

/-- The SVCANS frame of an SVC frame (R26). -/
def svcansFrame (f : Frame) (a : Answer) : Frame where
  dest := f.source
  source := 0
  kind := kindSvcans
  tag := f.tag
  payload := a

/-- The SVCANS offered to the field transmit queue; a refused one is lost and counted (R26). -/
def offerSvcans (f : Frame) (r : Answer × State) : State :=
  if fieldAccepts r.2 then pushField { frame := svcansFrame f r.1, origin := .svcans } r.2
  else r.2.onCls fun c => { c with svcAnswerLost := satInc c.svcAnswerLost }

/-- An SVC frame at the service handler (R26). -/
def serviceHandler (f : Frame) (s : State) : State :=
  offerSvcans f (serviceOperation (f.payload.getD 0 0) (f.payload.drop 1) s)

/-! ### The relay up (R28 to R30) -/

/-- The PASS_UP of a field frame (R28). -/
def passUpFrame (f : Frame) : Frame where
  dest := f.dest
  source := f.source
  kind := kindPassUp
  tag := 0
  payload := f.kind :: f.tag :: f.payload

/-- A PASS_UP offered to the house (R28). -/
def offerPassUp (f : Frame) (s : State) : State :=
  if houseAccepts (passUpFrame f) s then pushHouse { frame := passUpFrame f } s
  else s.onCls fun c => { c with upDropped := satInc c.upDropped }

/-- A frame relayed up unless its payload does not fit in a PASS_UP (R23, R27). -/
def relayUp (f : Frame) (s : State) : State :=
  if f.payload.length ≤ 14 then offerPassUp f s else s.onCls fun c => { c with notForwarded := satInc c.notForwarded }

/-- The annotation of a ROOM_UP (R29, 12.2). -/
def annotation (a : Option (Fin 8 × ZoneState × Int)) : List Byte :=
  match a with
  | some (z, st, e) => b1 z.val ++ b1 st.code ++ leInt 2 e
  | none => [0xFF, 0xFF] ++ b2 absentTemp

/-- The ROOM_UP of a report (R29). -/
def roomUpFrame (f : Frame) (a : Option (Fin 8 × ZoneState × Int)) : Frame where
  dest := houseAddr
  source := f.source
  kind := kindRoomUp
  tag := 0
  payload := f.payload ++ annotation a

/-- A queued ROOM_UP from this source (R30). -/
def HouseEntry.roomUpFrom (a : Byte) (e : HouseEntry) : Bool :=
  decide (e.frame.kind = kindRoomUp) && decide (e.frame.source = a)

/-- The part of the house transmit queue that is on the line, and the part that is not (R30). -/
def Ports.onLinePart (p : Ports) : List HouseEntry := if p.houseOnLine then p.houseTx.take 1 else []

def Ports.waitingPart (p : Ports) : List HouseEntry := if p.houseOnLine then p.houseTx.drop 1 else p.houseTx

/-- The payload of the candidate that joined last replaced (R30). -/
def replaceLatest (f : Frame) (q : List HouseEntry) : List HouseEntry :=
  (mapFirst (HouseEntry.roomUpFrom f.source) (fun e => { e with frame := { e.frame with payload := f.payload } })
    q.reverse).reverse

/-- A refused ROOM_UP is coalesced or dropped (R30). -/
def coalesce (f : Frame) (s : State) : State :=
  if s.ports.waitingPart.any (HouseEntry.roomUpFrom f.source) then
    (s.onPorts fun p => { p with houseTx := p.onLinePart ++ replaceLatest f p.waitingPart }).onCls fun c =>
      { c with coalesced := satInc c.coalesced }
  else s.onCls fun c => { c with upDropped := satInc c.upDropped }

/-- A ROOM_UP offered to the house (R29, R30). -/
def offerRoomUp (f : Frame) (s : State) : State :=
  if houseAccepts f s then pushHouse { frame := f } s else coalesce f s

/-! ### Dispatch (R23 to R27) -/

/-- A field frame dropped as misdirected (R34). -/
def misdirect (s : State) : State := s.onCls fun c => { c with misdirected := satInc c.misdirected }

/-- The report fields of a ROOM frame (12.2). -/
def reportOf (f : Frame) : Report where
  reading := signed16 (ofLE (f.payload.take 2))
  setpoint := signed16 (ofLE ((f.payload.drop 2).take 2))
  mode := f.payload.getD 4 0

/-- A ROOM report through its three steps (R25). -/
def handleRoom (e : MapEntry) (r : RxFrame) (s : State) : State :=
  let taken := takeReport r.frame.source (reportOf r.frame) s
  let woken := wake r.frame.source none r.endTime taken
  if e.forwardUp then offerRoomUp (roomUpFrame r.frame (reportAnswer r.frame.source taken)) woken else woken

/-- A frame addressed to 0 from a ROOM, LISTENER or SERVICE source (R24). -/
def handleOwn (e : MapEntry) (r : RxFrame) (s : State) : State :=
  match e.cls with
  | .room =>
    if r.frame.kind = kindRoom ∧ r.frame.payload.length = 5 then handleRoom e r s
    else if r.frame.kind = kindWake ∧ r.frame.payload.length = 0 then wake r.frame.source none r.endTime s
    else if r.frame.kind = kindTaken ∧ r.frame.payload.length = 0 then
      wake r.frame.source (some r.frame.tag.toNat) r.endTime s
    else misdirect s
  | .service =>
    if r.frame.kind = kindSvc ∧ r.frame.payload.length = 4 then serviceHandler r.frame s else misdirect s
  | _ => misdirect s

/-- A frame for another address from a ROOM, LISTENER or SERVICE source (R27). -/
def handleOther (e : MapEntry) (f : Frame) (s : State) : State :=
  if f.dest = 63 then misdirect s
  else if e.forwardUp then relayUp f s
  else s.onCls fun c => { c with notForwarded := satInc c.notForwarded }

/-- The source check of a frame in hand and its dispatch (R23). -/
def dispatchField (r : RxFrame) (s : State) : State :=
  if deviceAddr r.frame.source then
    match lookup r.frame.source s with
    | none =>
      if s.cls.forwardUnlisted then relayUp r.frame s
      else s.onCls fun c => { c with unlisted := satInc c.unlisted }
    | some e =>
      if e.cls = .blocked then s.onCls fun c => { c with blocked := satInc c.blocked }
      else if r.frame.dest = 0 then handleOwn e r s
      else handleOther e r.frame s
  else misdirect s

/-- The classifier takes a frame in hand and carries it to its end (R22). -/
def classify (r : RxFrame) (s : State) : State :=
  (dispatchField r (s.onCls fun c => { c with inHand := some r })).onCls fun c => { c with inHand := none }

/-- CLASSIFIER_TAKE (R22). -/
def classifierTake (s : State) : State :=
  match s.cls.inHand, s.ports.fieldRx with
  | none, r :: rest => classify r (s.onPorts fun p => { p with fieldRx := rest })
  | _, _ => s

/-- The field line was last busy now (R10). -/
def fieldHeard (s : State) : State := s.onPorts fun p => { p with lastSeen := s.tick }

/-- The field frame `f` that ended at `time` is taken: it is the head of the field receive queue, or it arrives whole at
an empty one, with the end of its last character at the moment reached (R10). While FDE is asserted no frame arrives
(R10), and while the classifier holds a frame none is taken (log 3). -/
def takeField (f : Frame) (time : Tick) (s : State) : State :=
  if frameFits f then
    match s.cls.inHand, s.ports.fieldRx with
    | none, [] => if s.ports.fde then s else classify ⟨f, time⟩ (fieldHeard s)
    | none, r :: _ => if r.frame = f then classifierTake s else s
    | some _, _ => s
  else s

def execClassifierTake (time : Tick) (s : State) : Host.Outcome State Fault Refusal :=
  whenOn (fun s => classifierTake (s.reach time)) s

end Sys2Proof.Machine
end

