-- ==== Sys2Proof/Machine/Operands.lean ====
section
/-! DEFINITION. The operand forms of the requests: the frame that each request command carries, and the meaning of the
command as the taking of that frame (12.1, 12.4; log 3). -/

namespace Sys2Proof.Machine

/-! ### Frames -/

/-- The MGMT frame of an operation (12.4). -/
def houseFrame (op : Byte) (r : HouseReq) : Frame where
  dest := r.dest
  source := r.source
  kind := kindMgmt
  tag := r.tag
  payload := op :: r.params

/-- The SVC frame of an operation (12.2). -/
def svcFrame (op : Byte) (r : SvcReq) : Frame where
  dest := r.dest
  source := r.source
  kind := kindSvc
  tag := r.tag
  payload := op :: r.params

/-- The PASS frame of a relay down: its payload is the parameters (R31). -/
def passFrame (r : HouseReq) : Frame where
  dest := r.dest
  source := r.source
  kind := kindPass
  tag := r.tag
  payload := r.params

/-- The MGMT frame whose whole payload, operation byte first, is the parameters (R169). -/
def houseBare (r : HouseReq) : Frame where
  dest := r.dest
  source := r.source
  kind := kindMgmt
  tag := r.tag
  payload := r.params

/-- The SVC frame whose whole payload, operation code first, is the parameters (R26). -/
def svcBare (r : SvcReq) : Frame where
  dest := r.dest
  source := r.source
  kind := kindSvc
  tag := r.tag
  payload := r.params

/-- The WRITE frame of a field (12.4). -/
def writeFrame (tag : Byte) (start : Nat) (data : List Byte) : Frame :=
  houseFrame opWrite { tag := tag, params := b2 start ++ data }

/-! ### Taking a request -/

/-- A house request taken. -/
def houseRequest (f : Frame) (s : State) : Host.Outcome State Fault Refusal := whenOn (takeHouse f) s

/-- A service request whose frame ended at `time` taken. -/
def fieldRequest (f : Frame) (time : Tick) (s : State) : Host.Outcome State Fault Refusal :=
  whenOn (fun s => takeField f time (s.reach time)) s

/-- A request that either side may send, taken. -/
def eitherRequest (op : Byte) (r : Request) (s : State) : Host.Outcome State Fault Refusal :=
  match r with
  | .house h => houseRequest (houseFrame op h) s
  | .field v => fieldRequest (svcFrame op v) v.time s

/-- The frame that writes the part flags with one flag changed and the others as they stand (12.6; log 12). -/
def flagFrame (tag : Byte) (bit : Nat) (on : Bool) (s : State) : Frame :=
  writeFrame tag 0x008
    [if on then partFlags s ||| BitVec.ofNat 8 (2 ^ bit) else partFlags s &&& ~~~BitVec.ofNat 8 (2 ^ bit)]

/-- The address and the bytes of a zone setting's field (12.6). -/
def zoneSettingData (zone : Fin 8) (setting : ZoneSetting) (value : BitVec 16) : Nat × List Byte :=
  match setting with
  | .priority => (zoneBase zone + 4, b1 value.toNat)
  | .hysteresis => (zoneBase zone + 5, b1 value.toNat)
  | .frost => (zoneBase zone + 6, b2 value.toNat)
  | .economy => (zoneBase zone + 10, b1 value.toNat)
  | .overrideSetpoint => (zoneBase zone + 12, b2 value.toNat)

/-- The address of a slot's field (12.6). -/
def slotAddress (zone : Fin 8) (slot : SlotNo) : Nat :=
  match slot with
  | .one => zoneBase zone + 1
  | .two => zoneBase zone + 2

/-- The address and the bytes of a threshold's field (12.6). -/
def thresholdData (which : Threshold) (value : BitVec 16) : Nat × List Byte :=
  match which with
  | .dry => (0x20A, b2 value.toNat)
  | .low => (0x20C, b2 value.toNat)
  | .hysteresis => (0x207, b1 value.toNat)

/-! ### The requests -/

def execHouseKindDrop (frame : Frame) (s : State) : Host.Outcome State Fault Refusal :=
  if frame.kind = kindMgmt ∨ frame.kind = kindPass then .next s else houseRequest frame s

def execUnknownOp (req : Request) (s : State) : Host.Outcome State Fault Refusal :=
  match req with
  | .house h => houseRequest (houseBare h) s
  | .field v => fieldRequest (svcBare v) v.time s

def execRelayDown (req : HouseReq) (s : State) : Host.Outcome State Fault Refusal := houseRequest (passFrame req) s

def execRead (req : Request) (s : State) : Host.Outcome State Fault Refusal := eitherRequest opRead req s

def execWrite (req : HouseReq) (s : State) : Host.Outcome State Fault Refusal := houseRequest (houseFrame opWrite req) s

def execCounterClear (tag : Byte) (counter : Fin 40) (value : BitVec 16) (s : State) :
    Host.Outcome State Fault Refusal :=
  houseRequest (writeFrame tag (0x300 + 2 * counter.val) (b2 value.toNat)) s

def execAttentionEnableWrite (tag : Byte) (value : BitVec 16) (s : State) : Host.Outcome State Fault Refusal :=
  houseRequest (writeFrame tag 0x3F0 (b2 value.toNat)) s

def execZoneSettingWrite (tag : Byte) (zone : Fin 8) (setting : ZoneSetting) (value : BitVec 16) (s : State) :
    Host.Outcome State Fault Refusal :=
  houseRequest (writeFrame tag (zoneSettingData zone setting value).1 (zoneSettingData zone setting value).2) s

def execSlotWrite (tag : Byte) (zone : Fin 8) (slot : SlotNo) (value : Byte) (s : State) :
    Host.Outcome State Fault Refusal :=
  houseRequest (writeFrame tag (slotAddress zone slot) [value]) s

def execZoneEnableWrite (tag : Byte) (zone : Fin 8) (value : Byte) (s : State) : Host.Outcome State Fault Refusal :=
  houseRequest (writeFrame tag (zoneBase zone) [value]) s

def execOverrideDurationWrite (tag : Byte) (zone : Fin 8) (value : BitVec 16) (s : State) :
    Host.Outcome State Fault Refusal :=
  houseRequest (writeFrame tag (zoneBase zone + 14) (b2 value.toNat)) s

def execStalenessLimitWrite (tag : Byte) (zone : Fin 8) (value : Byte) (s : State) :
    Host.Outcome State Fault Refusal :=
  houseRequest (writeFrame tag (zoneBase zone + 8) [value]) s

def execFallbackOnTimeWrite (tag : Byte) (zone : Fin 8) (value : Byte) (s : State) :
    Host.Outcome State Fault Refusal :=
  houseRequest (writeFrame tag (zoneBase zone + 9) [value]) s

def execRouteWrite (tag : Byte) (zone : Fin 8) (value : Byte) (s : State) : Host.Outcome State Fault Refusal :=
  houseRequest (writeFrame tag (zoneBase zone + 3) [value]) s

def execConcurrentLimitWrite (tag value : Byte) (s : State) : Host.Outcome State Fault Refusal :=
  houseRequest (writeFrame tag 0x180 [value]) s

def execTurnLengthWrite (tag value : Byte) (s : State) : Host.Outcome State Fault Refusal :=
  houseRequest (writeFrame tag 0x181 [value]) s

def execBypassFittedWrite (tag : Byte) (on : Bool) (s : State) : Host.Outcome State Fault Refusal :=
  houseRequest (flagFrame tag 1 on s) s

def execDryStopWrite (tag : Byte) (on : Bool) (s : State) : Host.Outcome State Fault Refusal :=
  houseRequest (flagFrame tag 2 on s) s

def execAutoRecoveryWrite (tag value : Byte) (s : State) : Host.Outcome State Fault Refusal :=
  houseRequest (writeFrame tag 0x1C4 [value]) s

def execResetWithoutGaugeWrite (tag : Byte) (on : Bool) (s : State) : Host.Outcome State Fault Refusal :=
  houseRequest (flagFrame tag 3 on s) s

def execBudgetWindowWrite (tag value : Byte) (s : State) : Host.Outcome State Fault Refusal :=
  houseRequest (writeFrame tag 0x1C6 [value]) s

def execProvingTimeWrite (tag : Byte) (value : BitVec 16) (s : State) : Host.Outcome State Fault Refusal :=
  houseRequest (writeFrame tag 0x1CE (b2 value.toNat)) s

def execBandThresholdWrite (tag : Byte) (which : Threshold) (value : BitVec 16) (s : State) :
    Host.Outcome State Fault Refusal :=
  houseRequest (writeFrame tag (thresholdData which value).1 (thresholdData which value).2) s

def execGaugeReportIntervalWrite (tag value : Byte) (s : State) : Host.Outcome State Fault Refusal :=
  houseRequest (writeFrame tag 0x009 [value]) s

def execReconcileIntervalWrite (tag value : Byte) (s : State) : Host.Outcome State Fault Refusal :=
  houseRequest (writeFrame tag 0x2E2 [value]) s

def execCommitStrap (req : HouseReq) (s : State) : Host.Outcome State Fault Refusal :=
  houseRequest (houseFrame opCommit req) s

def execDiscardStrap (req : HouseReq) (s : State) : Host.Outcome State Fault Refusal :=
  houseRequest (houseFrame opDiscard req) s

def execSave (req : HouseReq) (s : State) : Host.Outcome State Fault Refusal := houseRequest (houseFrame opSave req) s

def execRestart (req : HouseReq) (s : State) : Host.Outcome State Fault Refusal := houseRequest (houseFrame opRestart req) s

def execReload (req : HouseReq) (s : State) : Host.Outcome State Fault Refusal := houseRequest (houseFrame opReload req) s

def execPost (req : HouseReq) (s : State) : Host.Outcome State Fault Refusal := houseRequest (houseFrame opPost req) s

def execWithdraw (req : HouseReq) (s : State) : Host.Outcome State Fault Refusal :=
  houseRequest (houseFrame opWithdraw req) s

def execClaimSelect (req : Request) (s : State) : Host.Outcome State Fault Refusal := eitherRequest opClaimSelect req s

def execClaimTest (req : Request) (s : State) : Host.Outcome State Fault Refusal := eitherRequest opClaimTest req s

def execClaimRelease (req : Request) (s : State) : Host.Outcome State Fault Refusal :=
  eitherRequest opClaimRelease req s

def execRemoteReset (req : HouseReq) (s : State) : Host.Outcome State Fault Refusal :=
  houseRequest (houseFrame opRemoteReset req) s

def execServiceReset (req : SvcReq) (s : State) : Host.Outcome State Fault Refusal :=
  fieldRequest (svcFrame opServiceReset req) req.time s

def execClearHard (req : SvcReq) (s : State) : Host.Outcome State Fault Refusal :=
  fieldRequest (svcFrame opClearHard req) req.time s

def execAttnClear (req : HouseReq) (s : State) : Host.Outcome State Fault Refusal :=
  houseRequest (houseFrame opAttnClear req) s

def execLogRead (req : HouseReq) (s : State) : Host.Outcome State Fault Refusal := houseRequest (houseFrame opLogRead req) s

def execStatus (req : HouseReq) (s : State) : Host.Outcome State Fault Refusal := houseRequest (houseFrame opStatus req) s

end Sys2Proof.Machine
end

