-- ==== Sys2Proof/Machine/Startup.lean ====
section
/-! DEFINITION. Start-up, line clock and restart (11, and the reset rules of every chapter): POWER_ON, POWER_LOSS,
LINE_CLOCK_ADVANCE and RESTART_EFFECT. -/

namespace Sys2Proof.Machine

/-! ### The zones' reset values and their first handoffs (R55, R56) -/

/-- The live part of a zone record reset, the requested setpoint and the mode kept (R55, R56). -/
def Zone.clearLive (z : Zone) : Zone :=
  { z with
    slot1 := { addr := z.slot1.addr }, slot2 := { addr := z.slot2.addr }, ovDur := 0, ovLeft := none
    normalCall := false, frostFlag := false, cycleStart := none, state := .off, handed := none }

/-- A zone record at its reset values: E worked out, an enabled zone in fallback from `now` (R55, R56). -/
def Zone.restarted (band : Band) (now : Clock) (z : Zone) : Zone :=
  if z.enabled then (z.clearLive.refresh band).enterFallback now else z.clearLive.refresh band

/-- The first handoff of a zone after a reset: a start of call if it calls (R55, R56). -/
def handStart (i : Fin 8) (s : State) : State :=
  handOver i none (s.zone i).rank (s.onZone i fun z => { z with handed := z.rank })

/-- Every zone at its reset values, then the starts of call in zone number order (R55, R56, R77). -/
def restartZones (s : State) : State :=
  eightNumbers.foldl (fun s i => handStart i s)
    (s.onZones fun u => { u with recs := u.recs.map (Zone.restarted s.gauge.band s.clock) })

/-! ### POWER_ON and POWER_LOSS -/

/-- The settings store after the load of a power-on (R180). -/
def Store.poweredOn (strap ack : Bool) (t : Store) : Store :=
  { present := strap
    fault := strap && !imageAccepted ack t
    failures := if strap && !imageAccepted ack t then 1 else 0
    save := none
    mem := t.mem
    spoilt := t.spoilt }

/-- The sample timer and the report timer started with their intervals (R119, R137). -/
def Gauge.startTimers (g : Gauge) : Gauge := { g with sampleTimer := g.interval }.startReportTimer

/-- The blocks' power-on values but for the zones' entry into fallback (R17, R80, R173, R180): with the strap low the
memory is not touched. -/
def powerOnValues (strap ack rdy run lock : Bool) (s : State) : State :=
  let src := loadSource (strap && ack) s.store
  { src with
    free := s.free
    pending := s.pending
    ports := { rdy := rdy }
    burner := { src.burner with run := Debounced.atPowerOn run, lock := Debounced.atPowerOn lock }
    gauge := src.gauge.startTimers
    mgmt := { attn := if strap && !imageAccepted ack s.store then AttnBit.store.word else 0 }
    store := s.store.poweredOn strap ack }

/-- POWER_ON (R180). -/
def powerOn (strap ack rdy run lock : Bool) (s : State) : State := restartZones (powerOnValues strap ack rdy run lock s)

/-- POWER_LOSS (R183): a save in flight ends without a result, and only the settings memory keeps its contents (log 19). -/
def powerLoss (s : State) : State :=
  { State.blank with
    powered := false, free := s.free, pending := s.pending
    store := { mem := s.store.mem, spoilt := s.store.spoilt } }

/-! ### LINE_CLOCK_ADVANCE (R179; log 11) -/

/-- The line clock advances by one second. -/
def advanceClock (s : State) : State :=
  { s with
    clock := s.clock + 1
    secTick := s.secTick + 19200
    tick := max s.tick (s.secTick + 19200) }

/-- The timers of the Rotation Unit one second on. -/
def Rotation.countDown (r : Rotation) : Rotation :=
  { r with
    outputs := r.outputs.map fun o => { o with travel := o.travel - 1 }
    overrun := tickDown r.overrun }

/-- The timers of the Burner Supervisor one second on, with the samples of its inputs (R79). -/
def Burner.countDown (run lock : Bool) (b : Burner) : Burner :=
  { b with
    run := b.run.sample run
    lock := b.lock.sample lock
    timer := tickDown b.timer
    gap := tickDown b.gap }

/-- The timers of the Recovery Controller one second on. -/
def Recovery.countDown (r : Recovery) : Recovery :=
  { r with timer := tickDown r.timer, spacing := tickDown r.spacing, hold := tickDown r.hold }

/-- The timers of the Tank Gauge one second on. -/
def Gauge.countDown (g : Gauge) : Gauge :=
  { g with sampleTimer := g.sampleTimer - 1, reportTimer := tickDown g.reportTimer }

/-- Every running timer one second on, and RUN and LOCK sampled. -/
def countDown (run lock : Bool) (s : State) : State :=
  { s with
    zones := { s.zones with recs := s.zones.recs.map fun z => { z with ovLeft := tickDown z.ovLeft } }
    rot := s.rot.countDown
    burner := s.burner.countDown run lock
    recov := s.recov.countDown
    gauge := s.gauge.countDown }

/-- The line clock has reached a multiple of 86,400: the daily roll is to be taken (R148). -/
def markRoll (s : State) : State :=
  if s.clock.toNat % 86400 = 0 then s.onOil fun o => { o with rollDue := true } else s

/-- A firing second in the Supervisor's totals (R93); the period holds at the top of its 32 bits, as the total does
(log 37). -/
def Burner.firingSecond (b : Burner) : Burner :=
  { b with period := min secondsTop (b.period + 1), firingTotal := min secondsTop (b.firingTotal + 1) }

/-- A firing second counted by the Recovery Controller while it is in PROVING (R106). -/
def Recovery.firingSecond (r : Recovery) : Recovery :=
  if r.state = .proving then { r with proving := r.proving + 1 } else r

/-- A firing second delivered to the three blocks (R92, R93). -/
def firingSecond (s : State) : State :=
  { s with
    burner := s.burner.firingSecond
    rot := s.rot.firingSecond s.clock
    oil := s.oil.burn
    recov := s.recov.firingSecond }

/-- What an event of the line clock does, taken before the firing second: what its own row does (R92; log 11). -/
def runClockEvent (e : ClockEvent) (s : State) : State :=
  match e with
  | .readingAgesOut z n => readingAgesOut z n s
  | .overrideExpires z => overrideExpires z s
  | .fallbackPhaseChange z => fallbackPhaseChange z s
  | .valveTravelEnd i => valveTravelEnd i s
  | .overrunEnds => overrunEnds s
  | .inputAccepted i => inputAccepted i s
  | .startLimitExpires => startLimitExpires s
  | .runoutLimitExpires => runoutLimitExpires s
  | .backOffExpires => backOffExpires s
  | .clearTimerExpires => clearTimerExpires s
  | .resetGapEnds => resetGapEnds s
  | .coolOffExpires => coolOffExpires s
  | .spacingExpires => spacingExpires s
  | .budgetEntryAgesOut => budgetEntryAgesOut s
  | .pregapEnds => pregapEnds s
  | .pulseEnds => pulseEnds s
  | .postgapEnds => postgapEnds s
  | .checkingExpires => checkingExpires s
  | .claimHoldExpires => claimHoldExpires s
  | .reconcileTimerExpires => reconcileTimerExpires s
  | .sampleTimerExpires => sampleTimerExpires s
  | .gaugeReportDue => gaugeReportDue s
  | .postExpires d tag => postExpires d tag s

/-- The advance up to its firing second: the clock, the timers and samples, the roll that falls due, and the events that
are taken first, in order (R179, R92; log 11). -/
def advanceTaken (run lock : Bool) (first : List ClockEvent) (s : State) : State :=
  first.foldl (fun s e => runClockEvent e s) (markRoll (countDown run lock (advanceClock s)))

/-- The firing second of an advance is delivered while the burner state is FIRING (R92). -/
def deliverSecond (s : State) : State := if s.burner.state = .firing then firingSecond s else s

/-- LINE_CLOCK_ADVANCE (R179). -/
def lineClockAdvance (run lock : Bool) (first : List ClockEvent) (s : State) : State :=
  deliverSecond (advanceTaken run lock first s)

/-! ### RESTART_EFFECT (R17, R177, R184) -/

/-- The ports at a restart (R17). FDE falls at the restart's own tick, though the character in progress goes on to its end
(log 43). -/
def Ports.restarted (now : Tick) (p : Ports) : Ports :=
  { p with
    fieldAsm := Assembler.skipping now, houseAsm := Assembler.skipping now
    fieldRx := [], houseRx := [], fieldTx := [], houseTx := []
    fde := false, houseOnLine := false }

/-- The Management Unit at a restart (R173, R177). -/
def Management.restarted (m : Management) : Management :=
  { m with attn := AttnBit.store.word, enable := 0xFFFF, restart := none }

/-- The Postbox at a restart (R167). -/
def Postbox.restarted (b : Postbox) : Postbox := { b with posts := [], tagCounter := 0 }

/-- The Tank Gauge at a restart; at a RELOAD the S flag is unset and the band becomes UNKNOWN (R137). -/
def Gauge.restarted (reload : Bool) (g : Gauge) : Gauge :=
  { (if reload then g.unreport else g.abandonRise) with
    conv := .idle, invalidRun := 0, validRun := 0, reportDue := false }.startTimers

/-- Oil Accounting at a restart; a RELOAD makes the accounts UNBASED (R142, R152). -/
def Oil.restarted (reload : Bool) (o : Oil) : Oil :=
  { (if reload then o.unbase else o) with armed := true, checkpoint := none }

/-- An output at a restart (R77). -/
def Output.restarted (travel : Nat) (o : Output) : Output :=
  match o.state with
  | .shut => { o with held := false }
  | _ => { state := .closing, travel := travel, held := false }

/-- The Rotation Unit at a restart (R77). -/
def Rotation.restarted (r : Rotation) : Rotation :=
  { r with
    grants := [], queue := [], grantCount := 0, joinCount := 0
    outputs := r.outputs.map (Output.restarted r.travelTime)
    overrun := none, pump := false, permit := false }

/-- The Recovery Controller at a restart (R117): `locked` is LOCK accepted on with the Supervisor settled. -/
def Recovery.restarted (locked : Bool) (r : Recovery) : Recovery :=
  { r.clearClaim with
    log := r.log.map fun x => if x.outcome = .pending then { x with outcome := .aborted } else x
    state := if locked then .cooling else .none
    timer := if locked then some r.coolOff else none
    proving := 0 }

/-- The Supervisor's relays, period and inputs at a restart, before its state is derived (R93, R95). -/
def Burner.restarted (run lock : Bool) (gapLen : Nat) (b : Burner) : Burner :=
  let ended := if b.state = .firing then b.endPeriod else b
  { ended with
    run := b.run.resample run, lock := b.lock.resample lock
    demand := false, reset := false, gap := if b.reset then some gapLen else b.gap
    state := .idle, timer := none }

/-- The burner state derived at a restart from the accepted levels and the state `left` (R80, R95). -/
def deriveBurner (left : BurnerState) (s : State) : State :=
  if s.burner.settled then
    if s.burner.runOn then
      if !s.burner.lockOn && (decide (left = .starting) || decide (left = .firing) || decide (left = .runout)) then
        s.onBurner Burner.toRunout
      else enterSenseFault left s
    else if s.burner.lockOn then s.onBurner Burner.toLocked
    else s
  else s

/-- A RELOAD's load: the image's settings, or the defaults with store fault set and counted (R184). A budget entry that is
older than a smaller W so loaded is removed by its own event, due at once (R102; log 39). -/
def reloadSettings (ack : Bool) (s : State) : State :=
  (copySettings (loadSource ack s.store) s).onStore fun t =>
    if imageAccepted ack t then { t with fault := false } else { t with fault := true, failures := satInc t.failures }

/-- The blocks at their restart values, before the burner state is derived and the zones hand over. The band UNKNOWN of a
RELOAD is no handoff of its own: the blocks take their restart values under it (R137; log 46). -/
def restartValues (reload run lock : Bool) (s : State) : State :=
  { s with
    ports := s.ports.restarted s.tick
    cls := { s.cls with inHand := none }
    mgmt := s.mgmt.restarted
    postbox := s.postbox.restarted
    gauge := s.gauge.restarted reload
    oil := s.oil.restarted reload
    rot := s.rot.restarted
    recov := s.recov.restarted (s.burner.settled && s.burner.lockOn)
    burner := s.burner.restarted run lock s.recov.gapLen }

/-- Every block takes its restart values (R177): the burner state is derived, the zones hand over, and a derived IDLE is
judged (R95). -/
def restartPart (reload run lock : Bool) (s : State) : State :=
  judgeDemand (restartZones (deriveBurner s.burner.state (restartValues reload run lock s)))

/-- The last character of the ANSWER of the RESTART or RELOAD has been sent, or ends now (R17). -/
def answerGone (m : RestartMark) (s : State) : Bool :=
  m.answerSent || (s.ports.houseOnLine && (s.ports.houseTx.head?.elim false (·.restartAnswer)))

/-- RESTART_EFFECT (R17, R177, R184). -/
def restartEffect (ack run lock : Bool) (s : State) : State :=
  match s.mgmt.restart with
  | some m =>
    if answerGone m s then
      match m.kind with
      | .restart => restartPart false run lock s
      | .reload => restartPart true run lock (reloadSettings ack s)
    else s
  | none => s

def execPowerOn (strap readAck rdy run lock : Bool) (s : State) : Host.Outcome State Fault Refusal :=
  .next (powerOn strap readAck rdy run lock s)

def execPowerLoss (s : State) : Host.Outcome State Fault Refusal := .next (powerLoss s)

def execLineClockAdvance (levels : InputLevels) (first : List ClockEvent) (s : State) :
    Host.Outcome State Fault Refusal :=
  whenOn (lineClockAdvance levels.run levels.lock first) s

def execRestartEffect (readAck run lock : Bool) (time : Tick) (s : State) : Host.Outcome State Fault Refusal :=
  whenOn (fun s => restartEffect readAck run lock (s.reach time)) s

end Sys2Proof.Machine
end

