-- ==== Sys2Proof/Machine/Dispatch.lean ====
section
/-! DEFINITION. One arm per command. -/

namespace Sys2Proof.Machine

def exec (i : Instr) (s : State) : Host.Outcome State Fault Refusal :=
  match i with
  | .powerOn strap readAck rdy run lock => Sys2Proof.Machine.execPowerOn strap readAck rdy run lock s
  | .powerLoss => Sys2Proof.Machine.execPowerLoss s
  | .lineClockAdvance levels first => Sys2Proof.Machine.execLineClockAdvance levels first s
  | .characterReceived line value parity stop time => Sys2Proof.Machine.execCharacterReceived line value parity stop time s
  | .frameTruncated line moment => Sys2Proof.Machine.execFrameTruncated line moment s
  | .skipEnd line moment => Sys2Proof.Machine.execSkipEnd line moment s
  | .fieldTransmitStart moment => Sys2Proof.Machine.execFieldTransmitStart moment s
  | .echoCheck value parity stop time => Sys2Proof.Machine.execEchoCheck value parity stop time s
  | .replyWithdrawn time => Sys2Proof.Machine.execReplyWithdrawn time s
  | .rdyChange level => Sys2Proof.Machine.execRdyChange level s
  | .houseTransmitStart => Sys2Proof.Machine.execHouseTransmitStart s
  | .houseFrameSent => Sys2Proof.Machine.execHouseFrameSent s
  | .classifierTake time => Sys2Proof.Machine.execClassifierTake time s
  | .readingAgesOut zone slot => Sys2Proof.Machine.execReadingAgesOut zone slot s
  | .overrideExpires zone => Sys2Proof.Machine.execOverrideExpires zone s
  | .fallbackPhaseChange zone => Sys2Proof.Machine.execFallbackPhaseChange zone s
  | .turnExpires zone => Sys2Proof.Machine.execTurnExpires zone s
  | .valveTravelEnd output => Sys2Proof.Machine.execValveTravelEnd output s
  | .overrunEnds => Sys2Proof.Machine.execOverrunEnds s
  | .inputAccepted input => Sys2Proof.Machine.execInputAccepted input s
  | .startLimitExpires => Sys2Proof.Machine.execStartLimitExpires s
  | .runoutLimitExpires => Sys2Proof.Machine.execRunoutLimitExpires s
  | .backOffExpires => Sys2Proof.Machine.execBackOffExpires s
  | .clearTimerExpires => Sys2Proof.Machine.execClearTimerExpires s
  | .resetGapEnds => Sys2Proof.Machine.execResetGapEnds s
  | .coolOffExpires => Sys2Proof.Machine.execCoolOffExpires s
  | .spacingExpires => Sys2Proof.Machine.execSpacingExpires s
  | .budgetEntryAgesOut => Sys2Proof.Machine.execBudgetEntryAgesOut s
  | .pregapEnds => Sys2Proof.Machine.execPregapEnds s
  | .pulseEnds => Sys2Proof.Machine.execPulseEnds s
  | .postgapEnds => Sys2Proof.Machine.execPostgapEnds s
  | .checkingExpires => Sys2Proof.Machine.execCheckingExpires s
  | .proved => Sys2Proof.Machine.execProved s
  | .claimHoldExpires => Sys2Proof.Machine.execClaimHoldExpires s
  | .sampleTimerExpires => Sys2Proof.Machine.execSampleTimerExpires s
  | .supplyConversionDone count => Sys2Proof.Machine.execSupplyConversionDone count s
  | .sampleTaken count => Sys2Proof.Machine.execSampleTaken count s
  | .gaugeReportDue => Sys2Proof.Machine.execGaugeReportDue s
  | .reconcileTimerExpires => Sys2Proof.Machine.execReconcileTimerExpires s
  | .dailyRingRoll beforeSecond => Sys2Proof.Machine.execDailyRingRoll beforeSecond s
  | .postExpires dest tag => Sys2Proof.Machine.execPostExpires dest tag s
  | .houseKindDrop frame => Sys2Proof.Machine.execHouseKindDrop frame s
  | .unknownOp req => Sys2Proof.Machine.execUnknownOp req s
  | .relayDown req => Sys2Proof.Machine.execRelayDown req s
  | .read req => Sys2Proof.Machine.execRead req s
  | .write req => Sys2Proof.Machine.execWrite req s
  | .counterClear tag counter value => Sys2Proof.Machine.execCounterClear tag counter value s
  | .attentionEnableWrite tag value => Sys2Proof.Machine.execAttentionEnableWrite tag value s
  | .zoneSettingWrite tag zone setting value => Sys2Proof.Machine.execZoneSettingWrite tag zone setting value s
  | .slotWrite tag zone slot value => Sys2Proof.Machine.execSlotWrite tag zone slot value s
  | .zoneEnableWrite tag zone value => Sys2Proof.Machine.execZoneEnableWrite tag zone value s
  | .overrideDurationWrite tag zone value => Sys2Proof.Machine.execOverrideDurationWrite tag zone value s
  | .stalenessLimitWrite tag zone value => Sys2Proof.Machine.execStalenessLimitWrite tag zone value s
  | .fallbackOnTimeWrite tag zone value => Sys2Proof.Machine.execFallbackOnTimeWrite tag zone value s
  | .routeWrite tag zone value => Sys2Proof.Machine.execRouteWrite tag zone value s
  | .concurrentLimitWrite tag value => Sys2Proof.Machine.execConcurrentLimitWrite tag value s
  | .turnLengthWrite tag value => Sys2Proof.Machine.execTurnLengthWrite tag value s
  | .bypassFittedWrite tag on => Sys2Proof.Machine.execBypassFittedWrite tag on s
  | .dryStopWrite tag on => Sys2Proof.Machine.execDryStopWrite tag on s
  | .autoRecoveryWrite tag value => Sys2Proof.Machine.execAutoRecoveryWrite tag value s
  | .resetWithoutGaugeWrite tag on => Sys2Proof.Machine.execResetWithoutGaugeWrite tag on s
  | .budgetWindowWrite tag value => Sys2Proof.Machine.execBudgetWindowWrite tag value s
  | .provingTimeWrite tag value => Sys2Proof.Machine.execProvingTimeWrite tag value s
  | .bandThresholdWrite tag which value => Sys2Proof.Machine.execBandThresholdWrite tag which value s
  | .gaugeReportIntervalWrite tag value => Sys2Proof.Machine.execGaugeReportIntervalWrite tag value s
  | .reconcileIntervalWrite tag value => Sys2Proof.Machine.execReconcileIntervalWrite tag value s
  | .commitStrap req => Sys2Proof.Machine.execCommitStrap req s
  | .discardStrap req => Sys2Proof.Machine.execDiscardStrap req s
  | .save req => Sys2Proof.Machine.execSave req s
  | .saveTransferDone ack => Sys2Proof.Machine.execSaveTransferDone ack s
  | .saveReadbackDone ack differing => Sys2Proof.Machine.execSaveReadbackDone ack differing s
  | .restart req => Sys2Proof.Machine.execRestart req s
  | .reload req => Sys2Proof.Machine.execReload req s
  | .restartEffect readAck run lock time => Sys2Proof.Machine.execRestartEffect readAck run lock time s
  | .post req => Sys2Proof.Machine.execPost req s
  | .withdraw req => Sys2Proof.Machine.execWithdraw req s
  | .claimSelect req => Sys2Proof.Machine.execClaimSelect req s
  | .claimTest req => Sys2Proof.Machine.execClaimTest req s
  | .claimRelease req => Sys2Proof.Machine.execClaimRelease req s
  | .remoteReset req => Sys2Proof.Machine.execRemoteReset req s
  | .serviceReset req => Sys2Proof.Machine.execServiceReset req s
  | .clearHard req => Sys2Proof.Machine.execClearHard req s
  | .attnClear req => Sys2Proof.Machine.execAttnClear req s
  | .logRead req => Sys2Proof.Machine.execLogRead req s
  | .status req => Sys2Proof.Machine.execStatus req s

end Sys2Proof.Machine
end

