-- ==== Sys2Proof/Safety.lean ====
section
/-! DEFINITION. What a run of the part keeps: the laws that the manual states of the whole part, as properties of one
state. -/

namespace Sys2Proof.Machine

/-- The settings memory is in its canonical form (log 6). -/
def StoreCanonical (s : State) : Prop := Memory.wf s.store.mem

/-- The claim word is zero exactly when the claim side is NONE (R111). -/
def ClaimCoherent (s : State) : Prop := s.recov.word = 0 ↔ s.recov.side = .none

/-- DEMAND and RESET are never energized together (R90). -/
def RelaysApart (s : State) : Prop := ¬(s.burner.demand = true ∧ s.burner.reset = true)

/-- DEMAND is energized exactly in STARTING and FIRING, and only while the demand conditions hold (R82); RESET is
energized exactly in PULSE (R90). -/
structure DemandLawful (s : State) : Prop where
  states : s.burner.demand = true ↔ s.burner.state = .starting ∨ s.burner.state = .firing
  permitted : s.burner.demand = true → demandConditions s = true
  pulse : s.burner.reset = true ↔ s.recov.state = .pulse

/-- The queues of the two lines within their places (R8, R9, R13), the logs within theirs (R114, R150), the budget list
within five entries (R102) and the grant set within the concurrent limit (R62, R69). -/
structure WithinPlaces (s : State) : Prop where
  fieldRx : s.ports.fieldRx.length ≤ 4
  houseRx : s.ports.houseRx.length ≤ 4
  fieldTx : s.ports.fieldTx.length ≤ 8
  houseTx : s.ports.houseTx.length ≤ 16
  recoveryLog : s.recov.log.length ≤ 16
  oilEvents : s.oil.events.length ≤ 16
  budget : s.recov.budget.length ≤ 5
  grants : s.rot.grants.length ≤ s.rot.limit

/-- The pool holds at most 24 posts, and of each device at most 4, one SETPOINT and one MODE. The tags of a device's posts
all differ, and only its oldest post may be outstanding, so at most one is (R153). -/
structure PoolLawful (s : State) : Prop where
  total : s.postbox.posts.length ≤ 24
  each : ∀ d, (s.postbox.posts.filter fun p => decide (p.dest = d)).length ≤ 4
  tags : s.postbox.posts.Pairwise fun p q => p.dest = q.dest → p.tag ≠ q.tag
  single : s.postbox.posts.Pairwise fun p q => p.dest = q.dest → p.kind = q.kind → p.kind = .notice
  oldest : s.postbox.posts.Pairwise fun p q => p.dest = q.dest → q.outstanding = false
  ranges : s.postbox.tagCounter < 16 ∧ ∀ p ∈ s.postbox.posts, p.tag < 16 ∧ p.attempts ≤ 3

/-- An address 1..61 stands in at most one slot of the whole zone table, and slot 2 is present only when slot 1 is (R36,
R37). -/
structure SlotsLawful (s : State) : Prop where
  device : ∀ i n a, ((s.zone i).slot n).addr = some a → 1 ≤ a ∧ a ≤ 61
  once : ∀ i m j n a, ((s.zone i).slot m).addr = some a → ((s.zone j).slot n).addr = some a → i = j ∧ m = n
  behind : ∀ i, (s.zone i).slot2.addr ≠ none → (s.zone i).slot1.addr ≠ none

/-- The address map holds 16 entries, and each strapping table 24 (R18, R132). -/
structure TablesWhole (s : State) : Prop where
  entries : s.cls.entries.length = 16
  live : s.gauge.live.length = 24
  pend : s.gauge.pend.length = 24

/-- The counts of seconds and of oil stay in the ranges their 32 and 40 bits hold (R93, R139; log 37), and the burn
remainder below the 3,600 that make a millilitre (R140). -/
structure WithinWidths (s : State) : Prop where
  firingTotal : s.burner.firingTotal ≤ 4294967295
  period : s.burner.period ≤ 4294967295
  lastPeriod : s.burner.lastPeriod ≤ 4294967295
  used : s.oil.used ≤ 1099511627775
  firing : s.oil.firing ≤ 4294967295
  remainder : s.oil.remainder < 3600

/-! ### The advance of the line clock (R179) -/

/-- The part with the line clock one second on: one second taken from every running timer, RUN and LOCK sampled, and the
daily roll due at a multiple of 86,400 (R148, R179). No event of the new value has been taken yet. -/
def secondOn (run lock : Bool) (s : State) : State :=
  { s with
    clock := s.clock + 1
    secTick := s.secTick + 19200, tick := max s.tick (s.secTick + 19200)
    zones := { s.zones with recs := s.zones.recs.map fun z => { z with ovLeft := z.ovLeft.map (· - 1) } }
    rot := { s.rot with
      outputs := s.rot.outputs.map fun o => { o with travel := o.travel - 1 }
      overrun := s.rot.overrun.map (· - 1) }
    burner := { s.burner with
      run := s.burner.run.sample run, lock := s.burner.lock.sample lock
      timer := s.burner.timer.map (· - 1), gap := s.burner.gap.map (· - 1) }
    recov := { s.recov with
      timer := s.recov.timer.map (· - 1), spacing := s.recov.spacing.map (· - 1), hold := s.recov.hold.map (· - 1) }
    gauge := { s.gauge with
      sampleTimer := s.gauge.sampleTimer - 1, reportTimer := s.gauge.reportTimer.map (· - 1) }
    oil := { s.oil with
      rollDue := s.oil.rollDue || decide ((s.clock + 1).toNat % 86400 = 0) } }

/-- The part after these events, taken in order (R92; log 11). -/
def eventsTaken (es : List ClockEvent) (s : State) : State := es.foldl (fun u e => runClockEvent e u) s

/-- The command that an event of the line clock is (log 11). -/
def clockCommand : ClockEvent → Instr
  | .readingAgesOut z n => .readingAgesOut z n
  | .overrideExpires z => .overrideExpires z
  | .fallbackPhaseChange z => .fallbackPhaseChange z
  | .valveTravelEnd i => .valveTravelEnd i
  | .overrunEnds => .overrunEnds
  | .inputAccepted i => .inputAccepted i
  | .startLimitExpires => .startLimitExpires
  | .runoutLimitExpires => .runoutLimitExpires
  | .backOffExpires => .backOffExpires
  | .clearTimerExpires => .clearTimerExpires
  | .resetGapEnds => .resetGapEnds
  | .coolOffExpires => .coolOffExpires
  | .spacingExpires => .spacingExpires
  | .budgetEntryAgesOut => .budgetEntryAgesOut
  | .pregapEnds => .pregapEnds
  | .pulseEnds => .pulseEnds
  | .postgapEnds => .postgapEnds
  | .checkingExpires => .checkingExpires
  | .claimHoldExpires => .claimHoldExpires
  | .reconcileTimerExpires => .reconcileTimerExpires
  | .sampleTimerExpires => .sampleTimerExpires
  | .gaugeReportDue => .gaugeReportDue
  | .postExpires d tag => .postExpires d tag

/-! ### When a request is taken, and the answer it leaves -/

/-- The supply is up and the dispatcher takes the house frame `f` next (R8, R168; log 3): a receiver can hand it on, an
ANSWER place is free, no restart is pending, and `f` heads the receive queue or arrives whole at an empty one. -/
abbrev HouseTakes (f : Frame) (s : State) : Prop :=
  s.powered = true ∧ frameFits f = true ∧ s.ports.houseTx.length < 16 ∧ s.mgmt.restart = none ∧
    (s.ports.houseRx = [] ∨ s.ports.houseRx.head? = some f)

/-- The part with the head of the house receive queue taken (R8). -/
def houseTaken (s : State) : State := s.onPorts fun p => { p with houseRx := p.houseRx.drop 1 }

/-- The part with an ANSWER of this tag and payload at the tail of the house transmit queue (R168, R169). -/
def answered (tag : Byte) (payload : List Byte) (s : State) : State :=
  pushHouse { frame := answerFrame tag payload } s

/-- The answer to a numeric field written alone: DONE, or CLAMPED with offset 0 and the value stored (R171). -/
def numericAnswer (size written stored : Nat) : List Byte :=
  if written = stored then [0] else 1 :: 0 :: leBytes size stored

/-- The Recovery Controller in another state than PULSE, its timer as given: a RESET that was energized is released and its gap
starts, and the change is handed to the Burner Supervisor (R82, R90, R97). -/
def recoveryEnters (st : RecState) (timer : Option Nat) (s : State) : State :=
  judgeDemand { s with
    recov := { s.recov with state := st, timer := timer }
    burner := { s.burner with reset := false, gap := if s.burner.reset = true then some s.recov.gapLen else s.burner.gap } }

/-- A value brought to the nearest limit of a range (Introduction, Arithmetic). -/
def nearest (lo hi v : Nat) : Nat := if v < lo then lo else if hi < v then hi else v

/-! ### Posts (R153, R157, R158) -/

/-- The tag that a post of device `d` takes beside these other posts: the first value from the tag counter on, modulo 16, that
none of the device's posts has; with at most 4 posts of a device, at most 4 of them are passed over (R153). -/
def TagTaken (posts : List Post) (d : Byte) (counter tag : Nat) : Prop :=
  ∃ k ≤ 4, tag = (counter + k) % 16 ∧ (∀ p ∈ posts, p.dest = d → p.tag ≠ tag) ∧
    ∀ j < k, ∃ p ∈ posts, p.dest = d ∧ p.tag = (counter + j) % 16

/-- An internal notice of device `d` with one of these codes, not sent yet (R153, R158). -/
abbrev UnsentNotice (d : Byte) (codes : List Nat) (p : Post) : Prop :=
  p.dest = d ∧ p.internal = true ∧ p.attempts = 0 ∧ p.outstanding = false ∧ p.value ∈ codes

/-! ### The settings that an accepted image loads (R37, R55, R181) -/

/-- The byte of a body at an address of table space (12.7). -/
def byteAt (body : List Byte) (a : Nat) : Nat := (body.getD a 0).toNat

/-- The two bytes of a body at an address of table space, least significant first (12_formats.md). -/
def wordAt (body : List Byte) (a : Nat) : Nat := byteAt body a + 256 * byteAt body (a + 1)

/-- The two bytes of a body at an address of table space as a signed value (12_formats.md). -/
def signedAt (body : List Byte) (a : Nat) : Int :=
  if wordAt body a < 32768 then wordAt body a else (wordAt body a : Int) - 65536

/-- A signed value brought to the nearest limit of a range (Introduction, Arithmetic). -/
def nearestInt (lo hi v : Int) : Int := if v < lo then lo else if hi < v then hi else v

/-- The byte of the `k`-th slot of the zone table, two to a zone (12.6). -/
def slotByte (body : List Byte) (k : Nat) : Byte := body.getD (0x081 + 32 * (k / 2) + k % 2) 0

/-- The address that the `k`-th slot byte keeps: one of 1..61 that no lower-numbered slot has (R37). -/
def slotKept (body : List Byte) (k : Nat) : Option Byte :=
  if 1 ≤ slotByte body k ∧ slotByte body k ≤ 61 ∧ ∀ j < k, slotByte body j ≠ slotByte body k then some (slotByte body k)
  else none

/-- The settings of zone `z` as the body gives them. A slot 2 left without slot 1 is moved into slot 1, and the override
duration is loaded as 0 (R35, R37, R55, R181). -/
structure ZoneLoaded (body : List Byte) (z : Fin 8) (t : Zone) : Prop where
  enabled : t.enabled = (if byteAt body (0x080 + 32 * z.val) ≤ 1 then decide (byteAt body (0x080 + 32 * z.val) = 1)
    else decide (z = 0))
  slots : if slotKept body (2 * z.val) = none then
      t.slot1.addr = slotKept body (2 * z.val + 1) ∧ t.slot2.addr = none
    else t.slot1.addr = slotKept body (2 * z.val) ∧ t.slot2.addr = slotKept body (2 * z.val + 1)
  route : t.route.map (·.val) = if byteAt body (0x083 + 32 * z.val) < 8 then some (byteAt body (0x083 + 32 * z.val)) else none
  priority : t.priority = nearest 0 3 (byteAt body (0x084 + 32 * z.val))
  hyst : t.hyst = nearest 1 20 (byteAt body (0x085 + 32 * z.val))
  frostSet : t.frostSet = nearestInt 30 120 (signedAt body (0x086 + 32 * z.val))
  stale : t.stale = nearest 5 120 (byteAt body (0x088 + 32 * z.val))
  onTime : t.onTime = nearest 0 30 (byteAt body (0x089 + 32 * z.val))
  economy : t.economy = nearest 0 50 (byteAt body (0x08A + 32 * z.val))
  ovSet : t.ovSet = nearestInt 50 300 (signedAt body (0x08C + 32 * z.val))
  ovDur : t.ovDur = 0

/-- Entry `i` of the address map as the body gives it (R18, R181; log 25). -/
def entryLoaded (body : List Byte) (i : Nat) : MapEntry where
  valid := (body.getD (0x040 + 4 * i) 0).getLsbD 0
  forwardUp := (body.getD (0x040 + 4 * i) 0).getLsbD 1
  guard := (body.getD (0x040 + 4 * i) 0).getLsbD 2
  pattern := BitVec.ofNat 8 (nearest 0 63 (byteAt body (0x041 + 4 * i)))
  mask := BitVec.ofNat 8 (nearest 0 63 (byteAt body (0x042 + 4 * i)))
  cls := match byteAt body (0x043 + 4 * i) with
    | 0 => .room
    | 1 => .listener
    | 2 => .service
    | _ => .blocked

/-- Entry `i` of the live strapping table as the body gives it (R132; log 25). -/
def strapLoaded (body : List Byte) (i : Nat) : StrapEntry where
  depth := if wordAt body (0x220 + 4 * i) = 0xFFFF then none else some (nearest 0 3000 (wordAt body (0x220 + 4 * i)))
  volume := wordAt body (0x222 + 4 * i)

/-- The points of a table pass the checks of COMMIT_STRAP (R133). -/
abbrev StrapGood (ps : List (Nat × Nat)) : Prop :=
  2 ≤ ps.length ∧ ps.head?.map (·.1) = some 0 ∧ ps.Pairwise fun a b => a.1 < b.1 ∧ a.2 < b.2

/-- Every setting is as the body of an accepted image loads it, field by field (R181; log 25). -/
structure SettingsLoaded (body : List Byte) (t : State) : Prop where
  flags : t.cls.forwardUnlisted = (body.getD 0x008 0).getLsbD 0 ∧ t.rot.bypass = (body.getD 0x008 0).getLsbD 1 ∧
    t.burner.dryStop = (body.getD 0x008 0).getLsbD 2 ∧ t.recov.noGauge = (body.getD 0x008 0).getLsbD 3
  map : t.cls.entries = (List.range 16).map (entryLoaded body)
  zones : ∀ z, ZoneLoaded body z (t.zone z)
  rotation : t.rot.limit = nearest 1 8 (byteAt body 0x180) ∧ t.rot.turnLen = nearest 5 60 (byteAt body 0x181) ∧
    t.rot.travelTime = nearest 10 240 (byteAt body 0x182) ∧ t.rot.overrunTime = nearest 0 900 (wordAt body 0x184)
  burner : t.burner.startLimit = nearest 20 180 (byteAt body 0x1C0) ∧
    t.burner.runoutLimit = nearest 10 120 (byteAt body 0x1C1) ∧ t.burner.backOff = nearest 60 1800 (wordAt body 0x1C2)
  recovery : t.recov.auto = decide (byteAt body 0x1C4 = 1) ∧ t.recov.budgetMax = nearest 0 5 (byteAt body 0x1C5) ∧
    t.recov.window = nearest 1 72 (byteAt body 0x1C6) ∧ t.recov.pulseLen = nearest 1 10 (byteAt body 0x1C7) ∧
    t.recov.coolOff = nearest 60 1800 (wordAt body 0x1C8) ∧ t.recov.spacingTime = nearest 300 7200 (wordAt body 0x1CA) ∧
    t.recov.gapLen = nearest 2 30 (byteAt body 0x1CC) ∧ t.recov.holdTime = nearest 1 120 (byteAt body 0x1CD) ∧
    t.recov.provingTime = nearest 60 600 (wordAt body 0x1CE)
  gauge : t.gauge.interval = nearest 10 600 (wordAt body 0x200) ∧ t.gauge.zero = nearest 0 1000 (wordAt body 0x202) ∧
    t.gauge.scale = nearest 100 2000 (wordAt body 0x204) ∧ t.gauge.shift = nearest 0 5 (byteAt body 0x206) ∧
    t.gauge.bandHyst = nearest 0 100 (byteAt body 0x207) ∧ t.gauge.delivery = nearest 20 500 (wordAt body 0x208) ∧
    t.gauge.reportMin = nearest 0 60 (byteAt body 0x009)
  thresholds : t.gauge.dryT = (if wordAt body 0x20A < wordAt body 0x20C then wordAt body 0x20A else 150) ∧
    t.gauge.lowT = (if wordAt body 0x20A < wordAt body 0x20C then wordAt body 0x20C else 500)
  table : t.gauge.live = (if StrapGood (strapPoints ((List.range 24).map (strapLoaded body))) then
      (List.range 24).map (strapLoaded body) else List.replicate 24 {}) ∧ t.gauge.pend = t.gauge.live
  oil : t.oil.nozzle = nearest 500 10000 (wordAt body 0x2E0) ∧ t.oil.reconcileHours = nearest 1 24 (byteAt body 0x2E2) ∧
    t.oil.idleLoss = nearest 10 200 (byteAt body 0x2E3) ∧ t.oil.runLoss = nearest 20 500 (wordAt body 0x2E4) ∧
    t.oil.deliveryLoss = nearest 50 1000 (wordAt body 0x2E6)

/-- The settings after a load: those of an accepted image, or the default of every setting (R180, R181, R184). -/
def SettingsAfterLoad (ack : Bool) (t : Store) (u : State) : Prop :=
  if imageAccepted ack t then SettingsLoaded (imageBody t) u else u = copySettings State.blank u

/-! ### What a READ and a GAUGE report show (R135, R170, R186, 12.3, 12.5, 12.6) -/

/-- One byte of table space or of a frame. -/
abbrev oneByte (n : Nat) : Byte := BitVec.ofNat 8 n

/-- The gauge byte: the state in bits 0 and 1, then RISING, the S flag and the sensor fault flag (R122, 12.5). -/
def gaugeByteShown (g : Gauge) : Byte :=
  oneByte ((if (strapPoints g.live).length < 2 then 0 else if g.fault = true then 1 else 2) + 4 * g.rising.toNat +
    8 * g.sFlag.toNat + 16 * g.fault.toNat)

/-- A volume V as it is sent: absent in NO_TABLE (R186; log 30). -/
def volumeShown (g : Gauge) : List Byte :=
  leBytes 2 (if (strapPoints g.live).length < 2 then 0xFFFF else g.lastV.getD 0xFFFF)

/-- The part after a sample with its GAUGE report offered, if one is due: the report carries the sample's values and its
invalid kind, and is dropped and counted at 15 frames; the mark is cleared and the timer starts again (R135). -/
def gaugeReported (kind : Nat) (s : State) : State :=
  let g := s.gauge
  let report : Frame := { dest := 62, source := 0, kind := 0x35, tag := 0
                          payload := leBytes 2 (g.lastT.getD 0xFFFF) ++ leBytes 2 (g.lastS.getD 0xFFFF) ++
                            leBytes 2 (g.lastH.getD 0xFFFF) ++ volumeShown g ++ leBytes 2 (g.reported.getD 0xFFFF) ++
                            [oneByte g.band.code, gaugeByteShown g, oneByte kind] }
  if g.reportDue = true then
    { s with
      gauge := { g with
        reportDue := false, reportTimer := if g.reportMin = 0 then none else some (g.reportMin * 60)
        reportDropped := if s.ports.houseTx.length < 15 then g.reportDropped else min 65535 (g.reportDropped + 1) }
      ports := { s.ports with
        houseTx := if s.ports.houseTx.length < 15 then s.ports.houseTx ++ [{ frame := report }] else s.ports.houseTx } }
  else s

/-- Table space holds these bytes from address `a` on. -/
def Shows (s : State) (a : Nat) (bytes : List Byte) : Prop := ((tableSpace s).drop a).take bytes.length = bytes

/-- A line clock value that may be absent, as it is sent (R186). -/
def timeShown (c : Option Clock) : List Byte := leBytes 4 (c.elim 0xFFFFFFFF BitVec.toNat)

/-- A temperature that may be absent, as it is sent (R186). -/
def tempShown (t : Option Int) : List Byte := t.elim [0x00, 0x80] (leInt 2)

/-- The 32 bytes of a zone record (12.6). -/
def zoneShown (z : Zone) : List Byte :=
  [oneByte z.enabled.toNat, z.slot1.addr.getD 0xFF, z.slot2.addr.getD 0xFF, oneByte (z.route.elim 0xFF Fin.val),
    oneByte z.priority, oneByte z.hyst] ++ leInt 2 z.frostSet ++ [oneByte z.stale, oneByte z.onTime, oneByte z.economy, 0] ++
    leInt 2 z.ovSet ++ leBytes 2 z.ovDur ++ tempShown z.slot1.reading ++ tempShown z.slot2.reading ++
    timeShown z.slot1.arrival ++ timeShown z.slot2.arrival ++ leInt 2 z.eff ++
    [oneByte z.state.code, oneByte (z.slot1.fresh.toNat + 2 * z.slot2.fresh.toNat + 4 * z.normalCall.toNat +
      8 * z.frostFlag.toNat + 16 * (decide (z.mode = .heat)).toNat)]

/-- The eight counters of a line, two bytes each (R16, 12.6). -/
def lineShown (c : LineCounters) : List Byte :=
  leBytes 2 c.noise ++ leBytes 2 c.parity ++ leBytes 2 c.framing ++ leBytes 2 c.truncated ++ leBytes 2 c.length ++
    leBytes 2 c.check ++ leBytes 2 c.address ++ leBytes 2 c.overrun

/-- The settings areas of table space, address by address (12.6). -/
structure SettingsShown (s : State) : Prop where
  identity : Shows s 0x000 (leBytes 2 Config.partCode.toNat ++ [Config.layoutVersion, Config.revision, 0, 0, 0, 0])
  part : Shows s 0x008 [oneByte (s.cls.forwardUnlisted.toNat + 2 * s.rot.bypass.toNat + 4 * s.burner.dryStop.toNat +
    8 * s.recov.noGauge.toNat), oneByte s.gauge.reportMin, 0, 0, 0, 0, 0, 0]
  map : ∀ i e, s.cls.entries[i]? = some e → Shows s (0x040 + 4 * i)
    [oneByte (e.valid.toNat + 2 * e.forwardUp.toNat + 4 * e.guard.toNat), e.pattern, e.mask, oneByte e.cls.code]
  zones : ∀ z : Fin 8, Shows s (0x080 + 32 * z.val) (zoneShown (s.zone z))
  rotation : Shows s 0x180 ([oneByte s.rot.limit, oneByte s.rot.turnLen, oneByte s.rot.travelTime, 0] ++
    leBytes 2 s.rot.overrunTime ++ [0, 0])
  burner : Shows s 0x1C0 ([oneByte s.burner.startLimit, oneByte s.burner.runoutLimit] ++ leBytes 2 s.burner.backOff ++
    [oneByte s.recov.auto.toNat, oneByte s.recov.budgetMax, oneByte s.recov.window, oneByte s.recov.pulseLen] ++
    leBytes 2 s.recov.coolOff ++ leBytes 2 s.recov.spacingTime ++ [oneByte s.recov.gapLen, oneByte s.recov.holdTime] ++
    leBytes 2 s.recov.provingTime)
  gauge : Shows s 0x200 (leBytes 2 s.gauge.interval ++ leBytes 2 s.gauge.zero ++ leBytes 2 s.gauge.scale ++
    [oneByte s.gauge.shift, oneByte s.gauge.bandHyst] ++ leBytes 2 s.gauge.delivery ++ leBytes 2 s.gauge.dryT ++
    leBytes 2 s.gauge.lowT ++ [0, 0])
  live : ∀ i e, s.gauge.live[i]? = some e → Shows s (0x220 + 4 * i) (leBytes 2 (e.depth.getD 0xFFFF) ++ leBytes 2 e.volume)
  pend : ∀ i e, s.gauge.pend[i]? = some e → Shows s (0x280 + 4 * i) (leBytes 2 (e.depth.getD 0xFFFF) ++ leBytes 2 e.volume)
  oil : Shows s 0x2E0 (leBytes 2 s.oil.nozzle ++ [oneByte s.oil.reconcileHours, oneByte s.oil.idleLoss] ++
    leBytes 2 s.oil.runLoss ++ leBytes 2 s.oil.deliveryLoss)
  enable : Shows s 0x3F0 (leBytes 2 s.mgmt.enable.toNat ++ List.replicate 14 0)

/-- The live parts of the grants, the outputs, the burner and the recovery, address by address (12.6). What a field shows
while it has no value is free (log 15). -/
structure HeatShown (s : State) : Prop where
  granted : ∀ before g after, s.rot.grants = before ++ g :: after → (∀ x ∈ before, x.zone ≠ g.zone) →
    Shows s (0x010 + 4 * g.zone.val) (leBytes 4 g.time.toNat) ∧
    Shows s (0x188 + 4 * g.zone.val) ([oneByte (1 + 4 * g.rank), oneByte g.order] ++ leBytes 2 g.turn)
  waiting : ∀ before w after, s.rot.queue = before ++ w :: after → (∀ x ∈ before, x.zone ≠ w.zone) →
    (∀ g ∈ s.rot.grants, g.zone ≠ w.zone) → Shows s (0x010 + 4 * w.zone.val) (leBytes 4 w.time.toNat) ∧
    Shows s (0x188 + 4 * w.zone.val) [oneByte (2 + 4 * w.rank), oneByte w.order]
  neither : ∀ z : Fin 8, (∀ g ∈ s.rot.grants, g.zone ≠ z) → (∀ w ∈ s.rot.queue, w.zone ≠ z) →
    Shows s (0x010 + 4 * z.val) [0xFF, 0xFF, 0xFF, 0xFF] ∧ (tableSpace s).getD (0x188 + 4 * z.val) 0 &&& 0xE3 = 0
  outputs : ∀ i : Fin 8, let o := s.rot.outputs.get i
    Shows s (0x1A8 + i.val) [oneByte (o.state.code + 4 * o.held.toNat)] ∧
    ((o.state = .opening ∨ o.state = .closing) → Shows s (0x1B0 + i.val) [oneByte o.travel])
  pump : Shows s 0x1B8 [oneByte (s.rot.pump.toNat + 2 * s.rot.overrun.isSome.toNat + 4 * s.rot.permit.toNat +
    8 * s.rot.lastFiring.isSome.toNat), 0]
  overrun : ∀ n, s.rot.overrun = some n → Shows s 0x1BA (leBytes 2 n)
  lastFiring : Shows s 0x1BC (timeShown s.rot.lastFiring)
  inputs : let b := (tableSpace s).getD 0x1D0 0
    b.getLsbD 0 = s.burner.run.raw ∧ (∀ l, s.burner.run.acc = some l → b.getLsbD 1 = l) ∧
    b.getLsbD 2 = s.burner.run.acc.isSome ∧ b.getLsbD 3 = s.burner.lock.raw ∧
    (∀ l, s.burner.lock.acc = some l → b.getLsbD 4 = l) ∧ b.getLsbD 5 = s.burner.lock.acc.isSome ∧
    b.getLsbD 6 = false ∧ b.getLsbD 7 = false
  state : Shows s 0x1D1 [oneByte s.burner.state.code]
  timer : ∀ n, s.burner.timer = some n → Shows s 0x1D2 (leBytes 2 n)
  relays : Shows s 0x1D4 [oneByte (s.burner.demand.toNat + 2 * s.burner.reset.toNat +
    4 * (decide (s.burner.run.acc = none ∨ s.burner.lock.acc = none)).toNat)]
  resetGap : ∀ n, s.burner.gap = some n → Shows s 0x1D5 [oneByte n]
  recovery : Shows s 0x1D6 [oneByte s.recov.state.code, oneByte s.recov.budget.length]
  recoveryTimer : ∀ n, s.recov.timer = some n → Shows s 0x1D8 (leBytes 2 n)
  proving : Shows s 0x1DA (leBytes 2 s.recov.proving)
  spacing : ∀ n, s.recov.spacing = some n → Shows s 0x1DC (leBytes 2 n)
  claim : Shows s 0x1DE [oneByte (s.recov.side.code + 4 * (decide (s.recov.word ≠ 0)).toNat), 0]
  hold : ∀ n, s.recov.hold = some n → Shows s 0x1E0 (leBytes 2 n)
  budget : Shows s 0x1E2 [0, 0] ∧ (∀ i < 5, Shows s (0x1E4 + 4 * i) (timeShown s.recov.budget[i]?)) ∧
    Shows s 0x1F8 (List.replicate 8 0)

/-- The live parts of the gauge, of the accounts, of the Postbox and of the store, address by address (12.6). -/
structure AccountsShown (s : State) : Prop where
  rise : Shows s 0x030 (leBytes 4 s.gauge.s10 ++ leBytes 2 s.gauge.before ++ leBytes 2 s.gauge.peak ++
    [oneByte (s.gauge.invalidRun + 16 * s.gauge.validRun), oneByte (s.gauge.candRun + 16 * s.gauge.settleRun),
      0, 0, 0, 0, 0, 0])
  gauge : Shows s 0x210 (leBytes 2 s.gauge.sampleCount.toNat ++ leBytes 2 (s.gauge.lastT.getD 0xFFFF) ++
    leBytes 2 (s.gauge.lastS.getD 0xFFFF) ++ leBytes 2 (s.gauge.lastN.getD 0xFFFF) ++
    leBytes 2 (s.gauge.lastH.getD 0xFFFF) ++ volumeShown s.gauge ++ leBytes 2 (s.gauge.reported.getD 0xFFFF) ++
    [gaugeByteShown s.gauge])
  band : ∀ b, s.gauge.lastBand = some b → Shows s 0x21F [oneByte (s.gauge.band.code + 16 * b.code + 64)]
  bandAlone : s.gauge.lastBand = none → (tableSpace s).getD 0x21F 0 &&& 0xCF = oneByte s.gauge.band.code
  accounts : Shows s 0x2E8 ([oneByte (s.oil.based.toNat + 2 * s.oil.due.toNat + 4 * s.oil.armed.toNat +
      8 * s.oil.checkpoint.isSome.toNat + 16 * s.oil.observed.isSome.toNat + 32 * s.oil.rebaseTime.isSome.toNat), 0] ++
    leBytes 2 s.oil.base ++ timeShown s.oil.rebaseTime ++ leBytes 5 s.oil.used ++ [0] ++ leBytes 2 s.oil.remainder ++
    leBytes 4 s.oil.firing ++ leBytes 2 (s.oil.checkpoint.getD 0xFFFF) ++ leBytes 2 (s.oil.observed.getD 0xFFFF))
  fieldLine : Shows s 0x300 (lineShown s.ports.fieldCtr)
  houseLink : Shows s 0x310 (lineShown s.ports.houseCtr)
  portsAndMap : Shows s 0x320 (leBytes 2 s.ports.echoFail ++ leBytes 2 s.ports.missedWindow ++
    leBytes 2 s.cls.misdirected ++ leBytes 2 s.cls.unlisted ++ leBytes 2 s.cls.blocked ++ leBytes 2 s.cls.notForwarded ++
    leBytes 2 s.cls.upDropped ++ leBytes 2 s.cls.coalesced ++ leBytes 2 s.cls.svcAnswerLost)
  zonesAndBurner : Shows s 0x332 (leBytes 2 s.zones.invalidReading ++ leBytes 2 s.zones.badMode ++
    leBytes 2 s.burner.noStart ++ leBytes 2 s.burner.senseFault)
  gaugeCounters : Shows s 0x33A (leBytes 2 s.gauge.supplyFault ++ leBytes 2 s.gauge.openInput ++
    leBytes 2 s.gauge.shortInput ++ leBytes 2 s.gauge.riseAbandoned ++ leBytes 2 s.gauge.reportDropped)
  postsAndStore : Shows s 0x344 (leBytes 2 s.postbox.strayTaken ++ leBytes 2 s.postbox.replyRefused ++
    leBytes 2 s.postbox.noticeLost ++ leBytes 2 s.mgmt.houseKind ++ leBytes 2 s.mgmt.houseNoticeLost ++
    leBytes 2 s.store.failures)
  firing : Shows s 0x350 (leBytes 4 s.burner.firingTotal ++ leBytes 2 s.burner.cycles ++ leBytes 2 s.burner.shortCycles ++
    leBytes 4 s.burner.period ++ leBytes 4 s.burner.lastPeriod)
  clock : Shows s 0x360 (leBytes 4 s.clock.toNat ++ leBytes 2 s.mgmt.attn.toNat ++
    [oneByte (s.store.present.toNat + 2 * s.store.fault.toNat + 4 * s.store.save.isSome.toNat),
      oneByte s.postbox.tagCounter, oneByte s.postbox.posts.length,
      oneByte (s.postbox.posts.filter fun p => !p.internal).length, oneByte (s.postbox.posts.filter (·.internal)).length, 0])
  book : Shows s 0x36C (leInt 4 ((s.oil.base : Int) - ((s.oil.used / 1000 : Nat) : Int)) ++
    leBytes 2 (s.oil.daysToDry.getD 0xFFFF) ++ [oneByte s.oil.ring.length, 0] ++ leBytes 4 s.oil.today)
  ring : ∀ i n, i < 7 → s.oil.ring[i]? = some n → Shows s (0x378 + 4 * i) (leBytes 4 n)
  extras : ∀ z : Fin 8, Shows s (0x394 + 10 * z.val) (leInt 2 (s.zone z).requested ++ tempShown (s.zone z).measured ++
    leBytes 2 (((s.zone z).ovLeft.getD 0 + 59) / 60) ++ timeShown (s.zone z).cycleStart)
  noField : Shows s 0x3E4 (List.replicate 12 0)

/-- Table space as 12.6 lays it out: every field at its address. -/
structure TableShown (s : State) : Prop where
  settings : SettingsShown s
  heat : HeatShown s
  accounts : AccountsShown s

/-- The supply is up, the classifier holds no frame, and the field frame `f` is the next it takes: the head of its queue,
or one that arrives at an empty queue, which no frame does while FDE is asserted (R10, R22; log 3). -/
abbrev FieldTakes (f : Frame) (s : State) : Prop :=
  s.powered = true ∧ frameFits f = true ∧ s.cls.inHand = none ∧
    ((s.ports.fieldRx = [] ∧ s.ports.fde = false) ∨ s.ports.fieldRx.head?.map (·.frame) = some f)

/-- The part with the field frame `f` in hand. Where it arrives at an empty queue, `time` is its end and the field line
was last busy at the moment reached (R10, R22). -/
def fieldInHand (f : Frame) (time : Tick) (s : State) : State :=
  ((s.reach time).onPorts fun p =>
    { p with
      fieldRx := p.fieldRx.drop 1
      lastSeen := if p.fieldRx.isEmpty then max s.tick time else p.lastSeen }).onCls fun c =>
    { c with inHand := some (s.ports.fieldRx.head?.getD ⟨f, time⟩) }

/-- The part with the classifier finished with its frame (R22). -/
def fieldEnded (s : State) : State := s.onCls fun c => { c with inHand := none }

/-- The field frame `f` is an SVC frame that the service handler takes (R24, R26). -/
abbrev ServiceTakes (f : Frame) (s : State) : Prop :=
  FieldTakes f s ∧ f.kind = kindSvc ∧ f.dest = 0 ∧ f.payload.length = 4 ∧ deviceAddr f.source = true ∧
    (lookup f.source s).map (·.cls) = some .service

/-- The part with an SVCANS of this payload queued for the tool while the field transmit queue holds fewer than 8 frames, and
lost and counted otherwise, and the classifier finished (R9, R26). -/
def serviceAnswered (f : Frame) (payload : List Byte) (s : State) : State :=
  fieldEnded
    (if s.ports.fieldTx.length < 8 then pushField { frame := svcansFrame f payload, origin := .svcans } s
    else s.onCls fun c => { c with svcAnswerLost := min 65535 (c.svcAnswerLost + 1) })

/-- The ports after a character on a line that ended at `now`: the field line was last busy then (R10). -/
def heard (l : Line) (now : Tick) (p : Ports) : Ports :=
  match l with
  | .field => { p with lastSeen := now }
  | .house => p

/-- A frame is selected before another: `e` is the first reply queued, or the first frame while no reply is (R9). -/
abbrev Selected (before after : List TxEntry) (e : TxEntry) : Prop :=
  (e.origin ≠ .pass ∧ ∀ x ∈ before, x.origin = .pass) ∨
    (before = [] ∧ e.origin = .pass ∧ ∀ x ∈ after, x.origin = .pass)

/-- The post that a POST frame carries taken through `f`; a frame of another block changes no post (R9, R163). -/
def postChanged (e : TxEntry) (f : Post → Post) (s : State) : State :=
  if e.origin = .post then
    s.onPostbox fun b =>
      { b with posts := mapFirst (fun x => decide (x.dest = e.frame.dest) && decide (x.tag = e.frame.tag.toNat)) f b.posts }
  else s

/-- `t` differs from `s` at most in what the zones, the rotation and the burner hold, in what follows FIRING in Oil
Accounting, in the house transmit queue and in the attention status with its lost notices. -/
abbrev HeatOnly (s t : State) : Prop :=
  t = { s with
    zones := t.zones, rot := t.rot, burner := t.burner, oil := t.oil
    ports := { s.ports with houseTx := t.ports.houseTx }
    mgmt := { s.mgmt with attn := t.mgmt.attn, houseNoticeLost := t.mgmt.houseNoticeLost } }

/-- `t` differs from `s` at most in what `HeatOnly` names, in the Recovery Controller and in the Postbox. -/
abbrev HeatAndRecoveryOnly (s t : State) : Prop :=
  t = { s with
    zones := t.zones, rot := t.rot, burner := t.burner, oil := t.oil, recov := t.recov, postbox := t.postbox
    ports := { s.ports with houseTx := t.ports.houseTx }
    mgmt := { s.mgmt with attn := t.mgmt.attn, houseNoticeLost := t.mgmt.houseNoticeLost } }

end Sys2Proof.Machine
end

