-- ==== Sys2Proof/Certificates/Slice0/Obligations.lean ====
section
/-! DEFINITION. The statements for the provers. The commands are those of spec/opcode_table.json; each statement of a
command's result is a statement that it completes. -/

section

open Sys2Proof Sys2Proof.Machine Host

/-! ### The queue of commands and the supply -/

/-- Step of a state with command `c` at the front of its queue is the meaning of `c` on the state with the queue's rest; on
an empty queue the block idles (the model's choice, log 1). -/
def Obligations.StepTakesTheFrontCommand : Prop :=
  (∀ (c : Instr) (rest : List Instr) (s : State),
    step { s with pending := c :: rest } = exec c { s with pending := rest }) ∧
  (∀ s : State, s.pending = [] → step s = .next s)

/-- Every command answers a next state, whatever the state, and leaves the queue of commands as it was: nothing in the
manual stops the part. A part without supply takes no command but POWER_ON and POWER_LOSS (the model's choice, log 2). Where a command's own effect happens is what the statements below say. -/
def Obligations.EveryCommandAnswersANextState : Prop :=
  (∀ (c : Instr) (s : State), ∃ t, exec c s = .next t ∧ t.pending = s.pending) ∧
  (∀ (c : Instr) (s : State), s.powered = false → c ≠ .powerLoss →
    (∀ strap ack rdy run lock, c ≠ .powerOn strap ack rdy run lock) → exec c s = .next s)

/-! ### Start-up, line clock, restart (11) -/

/-- R180: with the strap low every block takes the defaults and its power-on values and the memory is not touched; for either
level and either judgement of the image, the store's marks, the queues empty, the relays released, no episode, no claim,
no post, and the settings memory as it was. R181, R37: an accepted image loads every setting field by field, a refused one
none. Model's choices: log 5, log 15, log 19, log 25. -/
def Obligations.PowerOn : Prop :=
  (∀ (ack rdy run lock : Bool) (s : State),
    exec (.powerOn false ack rdy run lock) s = .next
      { State.reset with
        free := s.free, pending := s.pending
        ports := { State.reset.ports with rdy := rdy }
        burner := { State.reset.burner with run := { raw := run }, lock := { raw := lock } }
        store := { mem := s.store.mem, spoilt := s.store.spoilt } }) ∧
  (∀ (strap ack rdy run lock : Bool) (s : State), ∃ t,
    exec (.powerOn strap ack rdy run lock) s = .next t ∧ t.powered = true ∧ t.clock = 0 ∧
    t.store.present = strap ∧ t.store.mem = s.store.mem ∧ t.store.save = none ∧
    t.store.fault = (strap && !imageAccepted ack s.store) ∧
    t.store.failures = (if strap && !imageAccepted ack s.store then 1 else 0) ∧
    t.mgmt.attn = (if strap && !imageAccepted ack s.store then AttnBit.store.word else 0) ∧
    t.mgmt.enable = 0xFFFF ∧ t.mgmt.restart = none ∧
    t.ports = { rdy := rdy } ∧ t.cls.inHand = none ∧ t.postbox = {} ∧
    t.burner.demand = false ∧ t.burner.reset = false ∧ t.burner.state = .idle ∧
    t.burner.run = { raw := run } ∧ t.burner.lock = { raw := lock } ∧
    t.recov.state = .none ∧ t.recov.word = 0 ∧ t.recov.side = .none ∧ t.recov.log = [] ∧ t.recov.budget = [] ∧
    t.gauge.band = .unknown ∧ t.gauge.sFlag = false ∧ t.oil.based = false ∧ t.oil.events = [] ∧
    t.gauge.sampleTimer = t.gauge.interval ∧
    t.gauge.reportTimer = (if t.gauge.reportMin = 0 then none else some (t.gauge.reportMin * 60)) ∧
    SettingsAfterLoad (strap && ack) s.store t)

/-- R183: a loss of power ends a save without a result, and the memory keeps every byte. Model's choices: log 19. -/
def Obligations.PowerLossKeepsTheMemoryAlone : Prop :=
  ∀ s : State, ∃ t, exec .powerLoss s = .next t ∧ t.powered = false ∧ t.store.save = none ∧
    (∀ a, Memory.read t.store.mem a = Memory.read s.store.mem a) ∧
    t = { State.blank with
      powered := false, free := s.free, pending := s.pending
      store := { mem := s.store.mem, spoilt := s.store.spoilt } }

/-- R179: an advance of the line clock while the burner is not FIRING adds one second to the clock and takes one second from
every running timer; RUN and LOCK are sampled, at a multiple of 86,400 the daily roll falls due (R148), and the events that
it names are taken in order, each doing what its own row does. R79: how a sample moves the change timer: it stops at the
accepted level, counts to 2 s while the raw level stays at another level, and starts from 0 where the raw level has
changed. Model's choices: log 2, log 4, log 11. -/
def Obligations.LineClockAdvances : Prop :=
  (∀ (run lock : Bool) (first : List ClockEvent) (s : State), s.powered = true →
    (eventsTaken first (secondOn run lock s)).burner.state ≠ .firing →
    exec (.lineClockAdvance ⟨run, lock⟩ first) s = .next (eventsTaken first (secondOn run lock s))) ∧
  (∀ (e : ClockEvent) (s : State), s.powered = true → exec (clockCommand e) s = .next (runClockEvent e s)) ∧
  (∀ (level : Bool) (d : Debounced),
    (d.sample level).raw = level ∧ (d.sample level).acc = d.acc ∧
    (d.acc = some level → (d.sample level).change = none) ∧
    (d.acc ≠ some level → d.raw ≠ level → (d.sample level).change = some 0) ∧
    (d.acc ≠ some level → d.raw = level → ∀ n, d.change = some n → (d.sample level).change = some (min 2 (n + 1))))

/-- R66, R92, R93, R106, R140: an advance that finds the burner FIRING, the events it names taken, delivers a firing second to
the turn timers, the totals, the burn and the proving count.
R92: an entry into FIRING taken before an advance makes that second a firing second, taken after it does not; an exit
taken before it leaves the second out, taken after it does not. R148: a roll taken before the firing second leaves the
second to the new day, taken after it to the day that closes. Model's choices: log 11, log 37. -/
def Obligations.FiringSecondIsDelivered : Prop :=
  (∀ (run lock : Bool) (first : List ClockEvent) (s : State), s.powered = true →
    let u := eventsTaken first (secondOn run lock s)
    u.burner.state = .firing → ∃ t, exec (.lineClockAdvance ⟨run, lock⟩ first) s = .next t ∧ t.clock = s.clock + 1 ∧
    t.oil.today = u.oil.today + 1 ∧
    (u.oil.based = true → t.oil.remainder < 3600 ∧ t.oil.firing = min 4294967295 (u.oil.firing + 1) ∧
      (u.oil.used + (u.oil.remainder + u.oil.nozzle) / 3600 ≤ 1099511627775 →
        3600 * t.oil.used + t.oil.remainder = 3600 * u.oil.used + u.oil.remainder + u.oil.nozzle) ∧
      (1099511627775 < u.oil.used + (u.oil.remainder + u.oil.nozzle) / 3600 → t.oil.used = 1099511627775)) ∧
    (u.oil.based = false → t.oil.used = u.oil.used ∧ t.oil.remainder = u.oil.remainder ∧ t.oil.firing = u.oil.firing) ∧
    t = { u with
      rot := { u.rot with
        grants := u.rot.grants.map (fun g => { g with turn := min 3600 (g.turn + 1) })
        lastFiring := some (s.clock + 1) }
      burner := { u.burner with
        period := min 4294967295 (u.burner.period + 1), firingTotal := min 4294967295 (u.burner.firingTotal + 1) }
      recov := { u.recov with
        proving := if u.recov.state = .proving then u.recov.proving + 1 else u.recov.proving }
      oil := { u.oil with
        today := t.oil.today, used := t.oil.used, remainder := t.oil.remainder, firing := t.oil.firing } }) ∧
  (∀ (lock : Bool) (s : State), s.powered = true → s.burner.state = .starting →
    s.burner.run = { raw := true, acc := some false, change := some 1 } → s.burner.lock.acc = some lock →
    (∃ t, exec (.lineClockAdvance ⟨true, lock⟩ [.inputAccepted .run]) s = .next t ∧ t.burner.state = .firing ∧
      t.burner.period = 1 ∧ t.rot.lastFiring = some (s.clock + 1) ∧ t.oil.today = s.oil.today + 1) ∧
    (∃ u t, exec (.lineClockAdvance ⟨true, lock⟩ []) s = .next u ∧ exec (.inputAccepted .run) u = .next t ∧
      t.burner.state = .firing ∧ t.burner.period = 0 ∧ t.rot.lastFiring = s.rot.lastFiring ∧
      t.oil.today = s.oil.today)) ∧
  (∀ (s : State), s.powered = true → s.burner.state = .firing →
    s.burner.run = { raw := false, acc := some true, change := some 1 } → s.burner.lock.acc = some false →
    (∃ t, exec (.lineClockAdvance ⟨false, false⟩ [.inputAccepted .run]) s = .next t ∧ t.burner.state = .starting ∧
      t.burner.lastPeriod = s.burner.period ∧ t.burner.firingTotal = s.burner.firingTotal ∧
      t.rot.lastFiring = s.rot.lastFiring ∧ t.oil.today = s.oil.today) ∧
    (∃ u t, exec (.lineClockAdvance ⟨false, false⟩ []) s = .next u ∧ exec (.inputAccepted .run) u = .next t ∧
      t.burner.state = .starting ∧ t.burner.lastPeriod = min 4294967295 (s.burner.period + 1) ∧
      t.burner.firingTotal = min 4294967295 (s.burner.firingTotal + 1) ∧ t.rot.lastFiring = some (s.clock + 1) ∧
      t.oil.today = s.oil.today + 1)) ∧
  (∀ (run lock : Bool) (s : State), s.powered = true → s.burner.state = .firing → (s.clock + 1).toNat % 86400 = 0 →
    (∃ u t, exec (.lineClockAdvance ⟨run, lock⟩ []) s = .next u ∧ exec (.dailyRingRoll true) u = .next t ∧
      t.oil.ring = s.oil.today :: s.oil.ring.take 6 ∧ t.oil.today = 1 ∧ t.oil.rollDue = false) ∧
    (∃ u t, exec (.lineClockAdvance ⟨run, lock⟩ []) s = .next u ∧ exec (.dailyRingRoll false) u = .next t ∧
      t.oil.ring = (s.oil.today + 1) :: s.oil.ring.take 6 ∧ t.oil.today = 0 ∧ t.oil.rollDue = false))

/-- R177, R184 with R17, R55, R77, R95, R117, R137, R142, R152, R167, R173: what a RESTART or a RELOAD leaves once its
ANSWER has been sent. R95: the burner state is derived from the accepted levels and the state before; an entry into
SENSE_FAULT counts and sets BURNER_FAULT, and a derived IDLE is judged: STARTING where the demand conditions hold,
IDLE otherwise. R77, R55, R56: the Rotation Unit stands at its restart values, every output that is not SHUT in
CLOSING with a full travel, and then takes the start of call of each zone in FALLBACK_ON, in zone number order. R181,
R37: a RELOAD first loads every setting from the image, or the defaults.
Model's choices: log 4, log 15, log 17, log 18, log 20, log 25, log 39, log 43, log 46. -/
def Obligations.RestartTakesEffect : Prop :=
  ∀ (ack run lock : Bool) (time : Tick) (kind : RestartKind) (s : State), s.powered = true →
    s.mgmt.restart = some { kind := kind, answerSent := true } →
    let settled := s.burner.run.acc ≠ none ∧ s.burner.lock.acc ≠ none
    let runs := settled ∧ s.burner.run.acc = some true ∧ s.burner.lock.acc = some false ∧
      (s.burner.state = .starting ∨ s.burner.state = .firing ∨ s.burner.state = .runout)
    let faults := settled ∧ s.burner.run.acc = some true ∧ ¬runs
    let locked := settled ∧ s.burner.run.acc = some false ∧ s.burner.lock.acc = some true
    let fault : Notice :=
      { bit := .burnerFault, code := 0x05, subject := s.burner.state.code
        value1 := if s.burner.lock.acc = some true then 3 else 1 }
    ∃ t, exec (.restartEffect ack run lock time) s = .next t ∧
    t.ports = { s.ports with
      fieldAsm := { phase := .skip, gapFrom := max s.tick time }, houseAsm := { phase := .skip, gapFrom := max s.tick time }
      fieldRx := [], houseRx := [], fieldTx := [], fde := false, houseOnLine := false
      houseTx := if faults then [{ frame := fault.frame s.clock }] else [] } ∧
    t.mgmt = { s.mgmt with
      attn := if faults then AttnBit.store.word ||| AttnBit.burnerFault.word else AttnBit.store.word
      enable := 0xFFFF, restart := none } ∧
    t.cls.inHand = none ∧ t.postbox.posts = [] ∧ t.postbox.tagCounter = 0 ∧
    t.recov.word = 0 ∧ t.recov.side = .none ∧ t.recov.hold = none ∧ t.recov.spacing = s.recov.spacing ∧
    t.recov.budget = s.recov.budget ∧ t.recov.log = s.recov.log.map (fun x =>
      if x.outcome = .pending then { x with outcome := .aborted } else x) ∧
    t.recov.state = (if settled ∧ s.burner.lock.acc = some true then .cooling else .none) ∧
    t.recov.timer = (if settled ∧ s.burner.lock.acc = some true then some t.recov.coolOff else none) ∧
    (locked → t.burner.state = .locked ∧ t.burner.timer = none) ∧
    (runs → t.burner.state = .runout ∧ t.burner.timer = some t.burner.runoutLimit) ∧
    (faults → t.burner.state = .senseFault ∧ t.burner.timer = none ∧
      t.burner.senseFault = min 65535 (s.burner.senseFault + 1)) ∧
    (¬faults → t.burner.senseFault = s.burner.senseFault) ∧
    (¬settled → t.burner.state = .idle ∧ t.burner.timer = none) ∧
    (settled → s.burner.run.acc = some false → s.burner.lock.acc = some false →
      (t.burner.state = .idle → demandConditions t = false) ∧ (t.burner.state = .starting → demandConditions t = true)) ∧
    (settled → s.burner.run.acc = some false → s.burner.lock.acc = some false →
      (1 ≤ s.rot.turnLen ∨ kind = .reload) →
      if demandConditions t = true then
        t.burner.state = .starting ∧ t.burner.demand = true ∧ t.burner.timer = some t.burner.startLimit
      else t.burner.state = .idle ∧ t.burner.demand = false ∧ t.burner.timer = none) ∧
    t.rot = ((eightNumbers.filter fun z => decide ((t.zone z).state = .fallbackOn)).foldl
      (fun r z => (r.startOfCall s.clock z 4).settle (routesOf t))
      { limit := t.rot.limit, turnLen := t.rot.turnLen, travelTime := t.rot.travelTime, overrunTime := t.rot.overrunTime
        bypass := t.rot.bypass, lastFiring := s.rot.lastFiring
        grants := [], queue := [], grantCount := 0, joinCount := 0, overrun := none, pump := false, permit := false
        outputs := s.rot.outputs.map fun o =>
          if o.state = .shut then { o with held := false }
          else { state := .closing, travel := t.rot.travelTime, held := false } }) ∧
    t.burner.reset = false ∧ (s.burner.reset = true → t.burner.gap = some t.recov.gapLen) ∧
    (s.burner.reset = false → t.burner.gap = s.burner.gap) ∧
    t.gauge.rising = false ∧ t.gauge.conv = .idle ∧ t.gauge.sampleTimer = t.gauge.interval ∧
    (∀ i, (t.zone i).requested = (s.zone i).requested ∧ (t.zone i).mode = (s.zone i).mode ∧
      (t.zone i).ovLeft = none ∧ (t.zone i).slot1.fresh = false ∧ (t.zone i).slot2.fresh = false ∧
      (t.zone i).normalCall = false ∧ (t.zone i).frostFlag = false ∧
      (t.zone i).state = (if (t.zone i).enabled = false then .off
        else if 0 < (t.zone i).onTime then .fallbackOn else .fallbackRest) ∧
      (t.zone i).cycleStart = if (t.zone i).enabled = true then some s.clock else none) ∧
    t.clock = s.clock ∧ (∀ a, Memory.read t.store.mem a = Memory.read s.store.mem a) ∧
    (kind = .restart → t.store = s.store ∧ t.gauge.band = s.gauge.band ∧ t.oil.based = s.oil.based ∧
      t.cls.entries = s.cls.entries ∧ t.rot.limit = s.rot.limit ∧ t.rot.turnLen = s.rot.turnLen ∧
      t.rot.travelTime = s.rot.travelTime ∧ t.rot.overrunTime = s.rot.overrunTime ∧ t.rot.bypass = s.rot.bypass) ∧
    (kind = .reload →
      t.store.fault = !imageAccepted ack s.store ∧
      t.store.failures = (if imageAccepted ack s.store then s.store.failures else min 65535 (s.store.failures + 1)) ∧
      t.gauge.band = .unknown ∧ t.oil.based = false ∧ SettingsAfterLoad ack s.store t)

/-! ### The two lines (01) -/

/-- R1: parity, framing and the eleven bits of a character. R2, R4, R6: the characters of a frame as the EA24 sends them, taken
by a hunting assembler, hand exactly that frame to the receive queue of the line. Model's choices: log 4. -/
def Obligations.FrameAsSentIsReceived : Prop :=
  (∀ (l : Line) (f : Frame) (now : Tick) (p : Ports), frameFits f = true → p.asm l = { phase := .hunt } →
    (frameChars f).foldl (fun p c => p.character l c now) p = p.receive l now f) ∧
  (∀ f : Frame, (frameChars f).map (·.value) = frameBytes f ∧ ∀ c ∈ frameChars f, c = LineChar.sent c.value) ∧
  (∀ c : LineChar,
    let ones := (List.range 8).countP (fun i => c.value.getLsbD i) + c.parity.toNat
    (c.parityError = true ↔ ones % 2 = 1) ∧ (c.framingError = true ↔ c.stop = false) ∧
    c.bits = [false, c.value.getLsbD 0, c.value.getLsbD 1, c.value.getLsbD 2, c.value.getLsbD 3, c.value.getLsbD 4,
      c.value.getLsbD 5, c.value.getLsbD 6, c.value.getLsbD 7, c.parity, c.stop]) ∧
  (∀ v : Byte, (LineChar.sent v).value = v ∧ (LineChar.sent v).parityError = false ∧ (LineChar.sent v).stop = true)

/-- R3: a character in HUNT. R4: a character in ASSEMBLE that does not end the frame, the length byte among them.
Model's choices: log 4, log 23. -/
def Obligations.CharacterIsAssembled : Prop :=
  (∀ (l : Line) (ch : LineChar) (time : Tick) (s : State), s.powered = true →
    (l = .field → s.ports.fde = false) → (s.ports.asm l).phase = .hunt →
    let v := ch.value
    let pe := ch.parityError
    let fe := ch.framingError
    let now := max s.tick time
    let after (f : Ports → Ports) := (s.reach time).onPorts fun p => heard l now (f p)
    (fe = true → exec (.characterReceived l ch.value ch.parity ch.stop time) s =
      .next (after fun p => p.onCtr l fun c => { c with framing := min 65535 (c.framing + 1) })) ∧
    (fe = false → pe = true → exec (.characterReceived l ch.value ch.parity ch.stop time) s =
      .next (after fun p => p.onCtr l fun c => { c with parity := min 65535 (c.parity + 1) })) ∧
    (fe = false → pe = false → v = 0xA5 → exec (.characterReceived l ch.value ch.parity ch.stop time) s =
      .next (after fun p => p.setAsm l { phase := .assemble, bytes := [0xA5], gapFrom := now })) ∧
    (fe = false → pe = false → v ≠ 0xA5 → exec (.characterReceived l ch.value ch.parity ch.stop time) s =
      .next (after fun p => p.onCtr l fun c => { c with noise := min 65535 (c.noise + 1) }))) ∧
  (∀ (l : Line) (ch : LineChar) (time : Tick) (s : State), s.powered = true →
    (l = .field → s.ports.fde = false) → (s.ports.asm l).phase = .assemble →
    let v := ch.value
    let pe := ch.parityError
    let fe := ch.framingError
    let now := max s.tick time
    let a := s.ports.asm l
    let mark := if a.bad ≠ .none then a.bad else if fe then .framing else if pe then .parity else BadMark.none
    let after (f : Ports → Ports) := (s.reach time).onPorts fun p => heard l now (f p)
    (a.bytes.length ≠ 5 → a.expected ≠ some (a.bytes.length + 1) → exec (.characterReceived l ch.value ch.parity ch.stop time) s =
      .next (after fun p => p.setAsm l { a with bytes := a.bytes ++ [v], bad := mark, gapFrom := now })) ∧
    (a.bytes.length = 5 → v.toNat ≤ 16 → exec (.characterReceived l ch.value ch.parity ch.stop time) s =
      .next (after fun p => p.setAsm l
        { a with bytes := a.bytes ++ [v], expected := some (8 + v.toNat), bad := mark, gapFrom := now })) ∧
    (a.bytes.length = 5 → 16 < v.toNat → exec (.characterReceived l ch.value ch.parity ch.stop time) s =
      .next (after fun p => (p.setAsm l { phase := .skip, gapFrom := now }).onCtr l fun c =>
        match mark with
        | .none => { c with length := min 65535 (c.length + 1) }
        | .parity => { c with parity := min 65535 (c.parity + 1) }
        | .framing => { c with framing := min 65535 (c.framing + 1) })))

/-- R6: the character that ends a frame; the checks in their order, and the receive queue of 4.
Model's choices: log 4. -/
def Obligations.EndOfAFrame : Prop :=
  ∀ (l : Line) (ch : LineChar) (time : Tick) (s : State), s.powered = true →
    (l = .field → s.ports.fde = false) → (s.ports.asm l).phase = .assemble → (s.ports.asm l).bytes.length ≠ 5 →
    (s.ports.asm l).expected = some ((s.ports.asm l).bytes.length + 1) →
    let v := ch.value
    let pe := ch.parityError
    let fe := ch.framingError
    let now := max s.tick time
    let a := s.ports.asm l
    let bs := a.bytes ++ [v]
    let mark := if a.bad ≠ .none then a.bad else if fe then .framing else if pe then .parity else BadMark.none
    let f := frameOf bs
    let after (g : Ports → Ports) := exec (.characterReceived l ch.value ch.parity ch.stop time) s =
      .next ((s.reach time).onPorts fun p => heard l now (g (p.setAsm l { phase := .hunt })))
    (mark = .parity → after (·.onCtr l fun c => { c with parity := min 65535 (c.parity + 1) })) ∧
    (mark = .framing → after (·.onCtr l fun c => { c with framing := min 65535 (c.framing + 1) })) ∧
    (mark = .none → checkAgrees bs = false → after (·.onCtr l fun c => { c with check := min 65535 (c.check + 1) })) ∧
    (mark = .none → checkAgrees bs = true → (63 < f.dest ∨ 63 < f.source) →
      after (·.onCtr l fun c => { c with address := min 65535 (c.address + 1) })) ∧
    (mark = .none → checkAgrees bs = true → f.dest ≤ 63 → f.source ≤ 63 →
      (match l with
        | .field =>
          if s.ports.fieldRx.length < 4 then after fun p => { p with fieldRx := p.fieldRx ++ [⟨f, now⟩] }
          else after (·.onCtr l fun c => { c with overrun := min 65535 (c.overrun + 1) })
        | .house =>
          if s.ports.houseRx.length < 4 then after fun p => { p with houseRx := p.houseRx ++ [f] }
          else after (·.onCtr l fun c => { c with overrun := min 65535 (c.overrun + 1) })))

/-- R5, R7: the gap timer past 2 character times (88 ticks on the field line, 22 on the house link, R1) ends a frame as
truncated and ends SKIP, unless the start bit of a character has ended the gap; a character in SKIP restarts the timer and
is not counted. Model's choices: log 4, log 20, log 33. -/
def Obligations.GapTimerPasses : Prop :=
  ∀ (l : Line) (time : Tick) (s : State), s.powered = true →
    let now := max s.tick time
    let a := s.ports.asm l
    let twoCharacters := match l with
      | .field => 88
      | .house => 22
    (a.phase = .assemble → a.gapFrom + twoCharacters ≤ now → exec (.frameTruncated l ⟨time, false⟩) s =
      .next ((s.reach time).onPorts fun p => (p.setAsm l { phase := .hunt }).onCtr l fun c =>
        match a.bad with
        | .none => { c with truncated := min 65535 (c.truncated + 1) }
        | .parity => { c with parity := min 65535 (c.parity + 1) }
        | .framing => { c with framing := min 65535 (c.framing + 1) })) ∧
    (a.phase = .skip → a.gapFrom + twoCharacters ≤ now → exec (.skipEnd l ⟨time, false⟩) s =
      .next ((s.reach time).onPorts fun p => p.setAsm l { phase := .hunt })) ∧
    exec (.frameTruncated l ⟨time, true⟩) s = .next (s.reach time) ∧ exec (.skipEnd l ⟨time, true⟩) s = .next (s.reach time) ∧
    (a.phase = .skip → (l = .field → s.ports.fde = false) → ∀ ch : LineChar, exec (.characterReceived l ch.value ch.parity ch.stop time) s =
      .next ((s.reach time).onPorts fun p => heard l now (p.setAsm l { a with gapFrom := now })))

/-- R9, R10: the field transmitter begins the frame that R9 selects once the line has been idle for 3 character times
(132 ticks, R1) with no character arriving, and begins none before or while one is arriving. R12, R163: a reply that
waits at its deadline is withdrawn and counted as a missed window, and its post is no longer outstanding unless an
earlier try was sent. Model's choices: log 2, log 4, log 20. -/
def Obligations.FieldFrameBeginsOrIsLate : Prop :=
  (∀ (before after : List TxEntry) (e : TxEntry) (time : Tick) (s : State), s.powered = true →
    s.ports.fde = false → s.ports.fieldTx = before ++ e :: after → Selected before after e →
    (s.ports.lastSeen + 132 ≤ max s.tick time → (∀ d, e.deadline = some d → max s.tick time ≤ d) →
      exec (.fieldTransmitStart ⟨time, false⟩) s = .next ((s.reach time).onPorts fun p =>
        { p with fde := true, fieldTx := before ++ { e with sending := some 0 } :: after })) ∧
    (max s.tick time < s.ports.lastSeen + 132 → exec (.fieldTransmitStart ⟨time, false⟩) s = .next (s.reach time)) ∧
    exec (.fieldTransmitStart ⟨time, true⟩) s = .next (s.reach time)) ∧
  (∀ (before after : List TxEntry) (e : TxEntry) (d time : Tick) (s : State), s.powered = true →
    s.ports.fieldTx = before ++ e :: after → e.sending = none → e.deadline = some d → d ≤ max s.tick time →
    (∀ x ∈ before, x.sending ≠ none ∨ x.deadline = none ∨ ∃ d', x.deadline = some d' ∧ max s.tick time < d') →
    exec (.replyWithdrawn time) s = .next
      (postChanged e (fun x => if x.attempts = 0 then { x with outstanding := false } else x)
        ((s.reach time).onPorts fun p =>
          { p with fieldTx := before ++ after, missedWindow := min 65535 (p.missedWindow + 1) })))

/-- R1, R10, R11, R163: a character read back as it was sent goes on with the frame; after the last one the frame leaves SENT, and
a POST counts an attempt. A mismatch releases FDE and sends the assembler to SKIP; a third failed try drops the frame,
counts an echo failure and sets FIELD, and the post of a dropped POST is no longer outstanding unless an earlier try was
sent. The echo is told by ECHO_CHECK or by the character itself. Model's choices: log 4, log 21, log 41. -/
def Obligations.EchoIsChecked : Prop :=
  (∀ (before after : List TxEntry) (e : TxEntry) (k : Nat) (v : Byte) (time : Tick) (c : Instr) (s : State),
    s.powered = true → s.ports.fde = true → s.ports.fieldTx = before ++ e :: after →
    (∀ x ∈ before, x.sending = none) → e.sending = some k → (frameBytes e.frame)[k]? = some v →
    (c = .echoCheck v (LineChar.sent v).parity true time ∨
      c = .characterReceived .field v (LineChar.sent v).parity true time) →
    (k + 1 < (frameBytes e.frame).length → exec c s = .next ((s.reach time).onPorts fun p =>
      { p with lastSeen := max s.tick time, fieldTx := before ++ { e with sending := some (k + 1) } :: after })) ∧
    (k + 1 = (frameBytes e.frame).length → exec c s = .next
      (postChanged e (fun x => { x with attempts := min 3 (x.attempts + 1) })
        ((s.reach time).onPorts fun p =>
          { p with lastSeen := max s.tick time, fde := false, fieldTx := before ++ after })))) ∧
  (∀ (before after : List TxEntry) (e : TxEntry) (k : Nat) (ch : LineChar) (time : Tick) (c : Instr)
    (s : State),
    s.powered = true → s.ports.fde = true → s.ports.fieldTx = before ++ e :: after →
    (∀ x ∈ before, x.sending = none) → e.sending = some k →
    (ch.parityError = true ∨ ch.framingError = true ∨ (frameBytes e.frame)[k]? ≠ some ch.value) →
    (c = .echoCheck ch.value ch.parity ch.stop time ∨
      c = .characterReceived .field ch.value ch.parity ch.stop time) →
    let now := max s.tick time
    let off := (s.reach time).onPorts fun p =>
      { p with lastSeen := now, fde := false, fieldAsm := { phase := .skip, gapFrom := now } }
    (e.tries < 2 → exec c s = .next (off.onPorts fun p =>
      { p with fieldTx := before ++ { e with tries := e.tries + 1, sending := none } :: after })) ∧
    (2 ≤ e.tries → exec c s = .next
      (postChanged e (fun x => if x.attempts = 0 then { x with outstanding := false } else x)
        (raise (fieldNotice e.frame)
          (off.onPorts fun p => { p with fieldTx := before ++ after, echoFail := min 65535 (p.echoFail + 1) })))))

/-- R13, R14, R177: the house transmitter begins the oldest frame while RDY is high and begins none while it is low; the
frame leaves at its end, whatever RDY has done meanwhile. -/
def Obligations.HouseTransmitter : Prop :=
  ∀ s : State, s.powered = true →
    (∀ level, exec (.rdyChange level) s = .next (s.onPorts fun p => { p with rdy := level })) ∧
    (s.ports.rdy = true → s.ports.houseOnLine = false → s.ports.houseTx ≠ [] →
      (∀ m, s.mgmt.restart = some m → m.answerSent = false) → exec .houseTransmitStart s = .next (s.onPorts fun p => { p with houseOnLine := true })) ∧
    (s.ports.rdy = false → exec .houseTransmitStart s = .next s) ∧
    (∀ e rest, s.ports.houseOnLine = true → s.ports.houseTx = e :: rest →
      exec .houseFrameSent s = .next
        ((s.onPorts fun p => { p with houseTx := rest, houseOnLine := false }).onMgmt fun m =>
          if e.restartAnswer then { m with restart := m.restart.map fun r => { r with answerSent := true } } else m))

/-! ### Attention (10) -/

/-- R15, R173, R174: an event sets its bit, and where the bit is enabled its NOTICE joins the house transmit queue, or is
lost at 15 frames, counted, and marked by HOUSE. -/
def Obligations.EventIsRaised : Prop :=
  ∀ (n : Notice) (s : State),
    (s.mgmt.enable &&& n.bit.word = 0 → raise n s = s.onMgmt fun m => { m with attn := m.attn ||| n.bit.word }) ∧
    (s.mgmt.enable &&& n.bit.word ≠ 0 → s.ports.houseTx.length < 15 →
      raise n s = (s.onMgmt fun m => { m with attn := m.attn ||| n.bit.word }).onPorts fun p =>
        { p with houseTx := p.houseTx ++ [{ frame :=
            { dest := 62, source := 0, kind := 0x34, tag := 0
              payload := n.code :: BitVec.ofNat 8 n.subject ::
                leBytes 2 n.value1 ++ leBytes 2 n.value2 ++ leBytes 4 s.clock.toNat } }] }) ∧
    (s.mgmt.enable &&& n.bit.word ≠ 0 → 15 ≤ s.ports.houseTx.length →
      raise n s = s.onMgmt fun m =>
        { m with
          attn := m.attn ||| n.bit.word ||| AttnBit.house.word
          houseNoticeLost := min 65535 (m.houseNoticeLost + 1) }) ∧
    (s.mgmt.enable &&& n.bit.word ≠ 0 → (raise n s).attnPin = true)

/-! ### The classifier and the relay down (02) -/

/-- R23, R24, R27, R34: the frames that the classifier drops, each with its one counter. R28: a frame relayed up joins the
house transmit queue as a PASS_UP, or is dropped and counted at 15 frames. Model's choices: log 4. -/
def Obligations.ClassifierDropsOrRelaysUp : Prop :=
  (∀ (r : RxFrame) (rest : List RxFrame) (time : Tick) (s : State), s.powered = true → s.cls.inHand = none →
    s.ports.fieldRx = r :: rest →
    let dropped (f : Classifier → Classifier) := exec (.classifierTake time) s =
      .next (((s.reach time).onPorts fun p => { p with fieldRx := rest }).onCls f)
    let device := 1 ≤ r.frame.source ∧ r.frame.source ≤ 61
    let found := lookup r.frame.source s
    (¬device → dropped fun c => { c with misdirected := min 65535 (c.misdirected + 1) }) ∧
    (device → found = none → s.cls.forwardUnlisted = false →
      dropped fun c => { c with unlisted := min 65535 (c.unlisted + 1) }) ∧
    (device → found = none → s.cls.forwardUnlisted = true → 14 < r.frame.payload.length →
      dropped fun c => { c with notForwarded := min 65535 (c.notForwarded + 1) }) ∧
    (device → ∀ e, found = some e →
      (e.cls = .blocked → dropped fun c => { c with blocked := min 65535 (c.blocked + 1) }) ∧
      (e.cls ≠ .blocked → r.frame.dest = 63 → dropped fun c => { c with misdirected := min 65535 (c.misdirected + 1) }) ∧
      (e.cls ≠ .blocked → r.frame.dest ≠ 0 → r.frame.dest ≠ 63 →
        (e.forwardUp = false ∨ 14 < r.frame.payload.length) →
        dropped fun c => { c with notForwarded := min 65535 (c.notForwarded + 1) }) ∧
      (e.cls = .listener → r.frame.dest = 0 → dropped fun c => { c with misdirected := min 65535 (c.misdirected + 1) }) ∧
      (e.cls = .service → r.frame.dest = 0 → (r.frame.kind ≠ 0x04 ∨ r.frame.payload.length ≠ 4) →
        dropped fun c => { c with misdirected := min 65535 (c.misdirected + 1) }) ∧
      (e.cls = .room → r.frame.dest = 0 →
        ¬(r.frame.kind = 0x01 ∧ r.frame.payload.length = 5) →
        ¬((r.frame.kind = 0x02 ∨ r.frame.kind = 0x03) ∧ r.frame.payload.length = 0) →
        dropped fun c => { c with misdirected := min 65535 (c.misdirected + 1) }))) ∧
  (∀ (r : RxFrame) (rest : List RxFrame) (time : Tick) (s : State), s.powered = true → s.cls.inHand = none →
    s.ports.fieldRx = r :: rest → 1 ≤ r.frame.source → r.frame.source ≤ 61 → r.frame.payload.length ≤ 14 →
    ((lookup r.frame.source s = none ∧ s.cls.forwardUnlisted = true) ∨
      (∃ e, lookup r.frame.source s = some e ∧ e.cls ≠ .blocked ∧ e.forwardUp = true ∧ r.frame.dest ≠ 0 ∧
        r.frame.dest ≠ 63)) →
    let taken := (s.reach time).onPorts fun p => { p with fieldRx := rest }
    (s.ports.houseTx.length < 15 → exec (.classifierTake time) s =
      .next (taken.onPorts fun p => { p with
        houseTx := p.houseTx ++ [
          { frame :=
              { dest := r.frame.dest, source := r.frame.source, kind := 0x32, tag := 0
                payload := r.frame.kind :: r.frame.tag :: r.frame.payload } }] })) ∧
    (15 ≤ s.ports.houseTx.length → exec (.classifierTake time) s =
      .next (taken.onCls fun c => { c with upDropped := min 65535 (c.upDropped + 1) })))

/-- R25, R29, R30: a ROOM frame from a ROOM entry goes to the Zone Unit, then to the Postbox, then up with the annotation of
the zone as the report has left it; at a full queue it takes the place of the latest waiting ROOM_UP of its source, or is
dropped and counted. R39, R57: a report is taken into the zone that binds its address: a valid reading into
its slot, a valid mode with the setpoint clamped, invalid ones counted; a report that no slot binds changes nothing.
Model's choices: log 4, log 44. -/
def Obligations.RoomReportIsTaken : Prop :=
  (∀ (r : RxFrame) (rest : List RxFrame) (e : MapEntry) (time : Tick) (s : State), s.powered = true →
    s.cls.inHand = none → s.ports.fieldRx = r :: rest → 1 ≤ r.frame.source → r.frame.source ≤ 61 →
    lookup r.frame.source s = some e → e.cls = .room → r.frame.dest = 0 → r.frame.kind = 0x01 →
    r.frame.payload.length = 5 →
    let inHand := ((s.reach time).onPorts fun p => { p with fieldRx := rest }).onCls fun c => { c with inHand := some r }
    let reported := takeReport r.frame.source (reportOf r.frame) inHand
    let woken := wake r.frame.source none r.endTime reported
    let up : Frame :=
      { dest := 62, source := r.frame.source, kind := 0x31, tag := 0
        payload := r.frame.payload ++ (match findSlot r.frame.source reported with
          | some p => [BitVec.ofNat 8 p.1.val, BitVec.ofNat 8 (reported.zone p.1).state.code] ++
              leInt 2 (reported.zone p.1).eff
          | none => [0xFF, 0xFF, 0x00, 0x80]) }
    (e.forwardUp = false → exec (.classifierTake time) s = .next (fieldEnded woken)) ∧
    (e.forwardUp = true → woken.ports.houseTx.length < 15 → exec (.classifierTake time) s =
      .next (fieldEnded (woken.onPorts fun p => { p with houseTx := p.houseTx ++ [{ frame := up }] }))) ∧
    (e.forwardUp = true → 15 ≤ woken.ports.houseTx.length →
      let q := woken.ports.houseTx
      let candidate (k : Nat) := ∃ x, q[k]? = some x ∧ x.frame.kind = 0x31 ∧ x.frame.source = r.frame.source ∧
        ¬(woken.ports.houseOnLine = true ∧ k = 0)
      (∀ k x, q[k]? = some x → candidate k → (∀ j, k < j → ¬candidate j) → exec (.classifierTake time) s =
        .next (fieldEnded ((woken.onPorts fun p =>
          { p with houseTx := q.set k { x with frame := { x.frame with payload := up.payload } } }).onCls fun c =>
            { c with coalesced := min 65535 (c.coalesced + 1) }))) ∧
      ((∀ k, ¬candidate k) → exec (.classifierTake time) s =
        .next (fieldEnded (woken.onCls fun c => { c with upDropped := min 65535 (c.upDropped + 1) }))))) ∧
  (∀ (a : Byte) (rep : Report) (s : State),
    (findSlot a s = none → takeReport a rep s = s) ∧
    (∀ i n, findSlot a s = some (i, n) →
      let valid := decide (-400 ≤ rep.reading ∧ rep.reading ≤ 600)
      let known := decide (rep.mode = 0 ∨ rep.mode = 1)
      let read (z : Zone) : Zone :=
        if valid then
          z.onSlot n fun t => { t with reading := some rep.reading, arrival := some s.clock, fresh := true }
        else z
      let moded (z : Zone) : Zone :=
        if known then
          { z with mode := if rep.mode = 1 then .heat else .off, requested := max 0 (min 300 rep.setpoint) }
        else z
      takeReport a rep s =
        zoneEvent i (fun z => moded (read z)) (s.onZones fun u =>
          { u with
            invalidReading := if valid then u.invalidReading else min 65535 (u.invalidReading + 1)
            badMode := if known then u.badMode else min 65535 (u.badMode + 1) })))

/-- R12, R25, R162: a WAKE or a TAKEN first meets the device's outstanding post; then it is answered by the device's oldest
post, or by NOMAIL; a reply past its window of 1,920 ticks or met by a full queue is not offered and is counted. R160, R161,
R165, R42: a TAKEN with the tag of the outstanding post delivers it, and a SETPOINT or MODE is written into the zone that
binds the device, if one does; a WAKE, or a TAKEN with another tag, which is a stray, leaves the post outstanding, and at
its third attempt the post ends UNDELIVERED; a TAKEN without an outstanding post is a stray.
Model's choices: log 4, log 22. -/
def Obligations.WakeIsAnswered : Prop :=
  (∀ (r : RxFrame) (rest : List RxFrame) (e : MapEntry) (tag : Option Nat) (time : Tick) (s : State), s.powered = true →
    s.cls.inHand = none → s.ports.fieldRx = r :: rest → 1 ≤ r.frame.source → r.frame.source ≤ 61 →
    lookup r.frame.source s = some e → e.cls = .room → r.frame.dest = 0 → r.frame.payload = [] →
    ((r.frame.kind = 0x02 ∧ tag = none) ∨ (r.frame.kind = 0x03 ∧ tag = some r.frame.tag.toNat)) →
    let d := r.frame.source
    let now := max s.tick time
    let inHand := ((s.reach time).onPorts fun p => { p with fieldRx := rest }).onCls fun c => { c with inHand := some r }
    let met := meetOutstanding d tag inHand
    (r.endTime + 1920 < now → exec (.classifierTake time) s =
      .next (fieldEnded (met.onPorts fun p => { p with missedWindow := min 65535 (p.missedWindow + 1) }))) ∧
    (now ≤ r.endTime + 1920 → 8 ≤ s.ports.fieldTx.length → exec (.classifierTake time) s =
      .next (fieldEnded (met.onPostbox fun b => { b with replyRefused := min 65535 (b.replyRefused + 1) }))) ∧
    (now ≤ r.endTime + 1920 → s.ports.fieldTx.length < 8 → (∀ p ∈ met.postbox.posts, p.dest ≠ d) →
      exec (.classifierTake time) s = .next (fieldEnded (met.onPorts fun p => { p with
        fieldTx := p.fieldTx ++ [
          { frame := { dest := d, source := 0, kind := 0x12, tag := 0, payload := [] }
            origin := .nomail, deadline := some (r.endTime + 1920) }] }))) ∧
    (∀ before p after, now ≤ r.endTime + 1920 → s.ports.fieldTx.length < 8 →
      met.postbox.posts = before ++ p :: after → p.dest = d → (∀ q ∈ before, q.dest ≠ d) →
      exec (.classifierTake time) s = .next
        (fieldEnded ((met.onPostbox fun b =>
          { b with posts := before ++ { p with outstanding := true } :: after }).onPorts fun ports => { ports with
            fieldTx := ports.fieldTx ++ [
              { frame := postFrame p (after.any fun q => q.dest = d) s.clock
                origin := .post, deadline := some (r.endTime + 1920) }] })))) ∧
  (∀ (d : Byte) (tag : Option Nat) (p : Post) (before after : List Post) (s : State),
    s.postbox.posts = before ++ p :: after → p.dest = d → p.outstanding = true →
    (∀ q ∈ before, ¬(q.dest = d ∧ q.outstanding = true)) →
    let removed := s.onPostbox fun b => { b with posts := before ++ after }
    let ended (code : Nat) (u : State) : State :=
      if p.wait then
        raise { bit := .post, code := 0x0C, subject := d.toNat, value1 := p.tag, value2 := code } u
      else u
    let missed := s.onPostbox fun b =>
      { b with strayTaken := if tag = none then b.strayTaken else min 65535 (b.strayTaken + 1) }
    (tag = some p.tag → p.kind = .notice → meetOutstanding d tag s = ended 0 removed) ∧
    (tag = some p.tag → findSlot d s = none → meetOutstanding d tag s = ended 0 removed) ∧
    (tag = some p.tag → p.kind = .setpoint → ∀ i n, findSlot d s = some (i, n) →
      meetOutstanding d tag s = zoneEvent i (fun z => { z with requested := min 300 p.value }) (ended 0 removed)) ∧
    (tag = some p.tag → p.kind = .mode → ∀ i n, findSlot d s = some (i, n) →
      meetOutstanding d tag s =
        zoneEvent i (fun z => { z with mode := if p.value = 1 then .heat else .off }) (ended 0 removed)) ∧
    (tag ≠ some p.tag → p.attempts < 3 → meetOutstanding d tag s = missed) ∧
    (tag ≠ some p.tag → 3 ≤ p.attempts → meetOutstanding d tag s =
      ended 1 (missed.onPostbox fun b => { b with posts := before ++ after }))) ∧
  (∀ (d : Byte) (tag : Option Nat) (s : State), (∀ p ∈ s.postbox.posts, p.dest = d → p.outstanding = false) →
    meetOutstanding d tag s = s.onPostbox fun b =>
      { b with strayTaken := if tag = none then b.strayTaken else min 65535 (b.strayTaken + 1) })

/-- R31, R32, R33: a PASS frame is refused for the first row that applies, or its field frame joins the field transmit
queue behind the frames of its class, and DONE is answered. Model's choices: log 3. -/
def Obligations.PassIsRelayedDown : Prop :=
  ∀ (r : HouseReq) (s : State), HouseTakes (passFrame r) s →
    let guarded := s.recov.side = .field
    let full := 8 ≤ s.ports.fieldTx.length
    let queued : Option Byte := if full then some 0x06 else none
    let refusal : Option Byte :=
      if r.params.length < 2 then some 0x04
      else if r.dest = 0 ∨ r.dest = 62 then some 0x01
      else if r.params.getD 0 0 ∉ definedKinds then some 0x02
      else if r.dest = 63 then (if guarded then some 0x09 else queued)
      else match lookup r.dest s with
        | none => some 0x0B
        | some e =>
          if e.cls = .blocked then some 0x0A
          else if e.cls = .room then some 0x08
          else if e.guard = true ∧ guarded then some 0x09
          else queued
    exec (.relayDown r) s = .next (match refusal with
      | some reason => answered r.tag [5, reason] (houseTaken s)
      | none => answered r.tag [0] ((houseTaken s).onPorts fun p => { p with
          fieldTx := p.fieldTx ++ [
            { frame :=
                { dest := r.dest, source := 62, kind := r.params.getD 0 0, tag := r.params.getD 1 0
                  payload := r.params.drop 2 }
              origin := .pass }] }))

/-! ### Zones and the call for heat (03) -/

/-- R41, R44 to R49: an evaluation takes M, E, the two calls and the zone state afresh, and changes nothing else. -/
def Obligations.ZoneIsEvaluated : Prop :=
  ∀ (band : Band) (now : Clock) (z : Zone),
    let e := z.evaluate band now
    let base := if z.ovLeft.isSome then z.ovSet else z.requested
    let raw := if z.mode = .off ∨ band = .dry then z.frostSet else if band = .low then base - z.economy else base
    (∀ a b, z.slot1.fresh = true → z.slot2.fresh = true → z.slot1.reading = some a → z.slot2.reading = some b →
      e.measured = some (min a b)) ∧
    (z.slot1.fresh = true → z.slot2.fresh = false → e.measured = z.slot1.reading) ∧
    (z.slot1.fresh = false → z.slot2.fresh = true → e.measured = z.slot2.reading) ∧
    (z.slot1.fresh = false → z.slot2.fresh = false → e.measured = none) ∧
    e.eff = (if raw < z.frostSet then z.frostSet else if 300 < raw then 300 else raw) ∧
    (z.enabled = false → e.state = .off ∧ e.normalCall = false ∧ e.frostFlag = false ∧ e.cycleStart = none) ∧
    (∀ m, z.enabled = true → e.measured = some m →
      e.normalCall = (if m < e.eff - z.hyst then true else if e.eff ≤ m then false else z.normalCall) ∧
      e.frostFlag = (if m < z.frostSet then true else if z.frostSet + z.hyst ≤ m then false else z.frostFlag) ∧
      e.state = (if e.frostFlag then .frost else if e.normalCall then .calling else .quiet) ∧ e.cycleStart = none) ∧
    (z.enabled = true → e.measured = none → z.state ≠ .fallbackOn → z.state ≠ .fallbackRest →
      e.state = (if 0 < z.onTime then .fallbackOn else .fallbackRest) ∧ e.cycleStart = some now ∧
      e.normalCall = false ∧ e.frostFlag = false) ∧
    (z.enabled = true → e.measured = none → (z.state = .fallbackOn ∨ z.state = .fallbackRest) →
      e.state = z.state ∧ e.cycleStart = z.cycleStart) ∧
    e = { z with
      eff := e.eff, measured := e.measured, normalCall := e.normalCall, frostFlag := e.frostFlag
      state := e.state, cycleStart := e.cycleStart }

/-- R50, R51, R52, R61, R63, R64: an event of a zone ends in the zone's evaluation; ZONE is set with its NOTICE where a reading
is lost or FROST is entered; then a zone that has become calling is a start of call, one that has stopped an end of call,
and a changed rank a rank change, each an event of the Rotation Unit. Nothing outside the heat side is touched. -/
def Obligations.ZoneEventIsFinished : Prop :=
  ∀ (i : Fin 8) (f : Zone → Zone) (s : State),
    let t := zoneEvent i f s
    let before := f (s.zone i)
    let z := before.evaluate s.gauge.band s.clock
    let rank := if z.state = .frost ∨ z.state = .fallbackOn then some 4
      else if z.state = .calling then some z.priority else none
    let alarm := (z.state = .frost ∧ before.state ≠ .frost) ∨
      ((z.state = .fallbackOn ∨ z.state = .fallbackRest) ∧
        (before.state = .quiet ∨ before.state = .calling ∨ before.state = .frost))
    t.zone i = { z with handed := rank } ∧ (∀ j, j ≠ i → t.zone j = s.zone j) ∧
    t.zones.invalidReading = s.zones.invalidReading ∧ t.zones.badMode = s.zones.badMode ∧
    (alarm → t.mgmt.attn &&& AttnBit.zone.word ≠ 0) ∧
    (¬alarm → t.mgmt = s.mgmt ∧ t.ports = s.ports) ∧
    (before.handed = rank → t.rot = s.rot ∧ t.burner = s.burner ∧ t.oil = s.oil) ∧
    HeatOnly s t ∧
    (let stored := s.onZones fun v => { v with recs := v.recs.set i { z with handed := rank } }
      let u := if alarm then raise { bit := .zone, code := 0x0B, subject := i.val, value1 := z.state.code } stored
        else stored
      (before.handed = rank → t = u) ∧
      (∀ k, before.handed = none → rank = some k → t = rotationEvent (fun r => r.startOfCall s.clock i k) u) ∧
      (∀ j, before.handed = some j → rank = none → t = rotationEvent (fun r => r.endOfCall s.clock i) u) ∧
      (∀ j k, before.handed = some j → rank = some k → j ≠ k →
        t = rotationEvent (fun r => r.rankChange s.clock i k) u))

/-- R40, R43, R49: the timed events of a zone, each an event of its zone. Model's choices: log 2. -/
def Obligations.ZoneTimersRunOut : Prop :=
  ∀ (i : Fin 8) (s : State), s.powered = true →
    let z := s.zone i
    (∀ n at_, (z.slot n).fresh = true → (z.slot n).arrival = some at_ → z.stale * 60 ≤ age s.clock at_ →
      exec (.readingAgesOut i n) s = .next (zoneEvent i (fun z => z.onSlot n fun t => { t with fresh := false }) s)) ∧
    (∀ n at_, (z.slot n).arrival = some at_ → age s.clock at_ < z.stale * 60 →
      exec (.readingAgesOut i n) s = .next s) ∧
    (z.ovLeft = some 0 →
      exec (.overrideExpires i) s = .next (zoneEvent i (fun z => { z with ovDur := 0, ovLeft := none }) s)) ∧
    (∀ c, z.enabled = true → z.state = .fallbackOn → z.cycleStart = some c →
      z.onTime * 60 ≤ age s.clock c → age s.clock c < 3600 →
      exec (.fallbackPhaseChange i) s = .next (zoneEvent i (fun z => { z with state := .fallbackRest }) s)) ∧
    (∀ c, z.enabled = true → (z.state = .fallbackOn ∨ z.state = .fallbackRest) → z.cycleStart = some c →
      3600 ≤ age s.clock c →
      exec (.fallbackPhaseChange i) s = .next
        (zoneEvent i (fun z => { z with
          cycleStart := some (c + 3600), state := if 0 < z.onTime then .fallbackOn else .fallbackRest }) s))

/-- R35, R40, R43, R49, R54: a write of one zone setting stores it, clamped where it is numeric, and is an event of its
zone; an enabled byte that is neither 0 nor 1 is REFUSED VALUE at offset 0. Model's choices: log 3, log 27. -/
def Obligations.ZoneSettingIsWritten : Prop :=
  ∀ (tag : Byte) (z : Fin 8) (v : BitVec 16) (b : Byte) (s : State), s.store.save = none →
    let n := v.toNat
    let low := v.toNat % 256
    let t := houseTaken s
    let signed : Int := if n < 32768 then n else (n : Int) - 65536
    let frost : Int := if signed < 30 then 30 else if 120 < signed then 120 else signed
    let overriding : Int := if signed < 50 then 50 else if 300 < signed then 300 else signed
    (HouseTakes (writeFrame tag (0x084 + 32 * z.val) [BitVec.ofNat 8 n]) s →
      exec (.zoneSettingWrite tag z .priority v) s = .next (answered tag (numericAnswer 1 low (nearest 0 3 low))
        (zoneEvent z (fun r => { r with priority := nearest 0 3 low }) t))) ∧
    (HouseTakes (writeFrame tag (0x085 + 32 * z.val) [BitVec.ofNat 8 n]) s →
      exec (.zoneSettingWrite tag z .hysteresis v) s = .next (answered tag (numericAnswer 1 low (nearest 1 20 low))
        (zoneEvent z (fun r => { r with hyst := nearest 1 20 low }) t))) ∧
    (HouseTakes (writeFrame tag (0x086 + 32 * z.val) (leBytes 2 n)) s →
      exec (.zoneSettingWrite tag z .frost v) s =
        .next (answered tag (if signed = frost then [0] else 1 :: 0 :: leBytes 2 frost.toNat)
          (zoneEvent z (fun r => { r with frostSet := frost }) t))) ∧
    (HouseTakes (writeFrame tag (0x08A + 32 * z.val) [BitVec.ofNat 8 n]) s →
      exec (.zoneSettingWrite tag z .economy v) s = .next (answered tag (numericAnswer 1 low (nearest 0 50 low))
        (zoneEvent z (fun r => { r with economy := nearest 0 50 low }) t))) ∧
    (HouseTakes (writeFrame tag (0x08C + 32 * z.val) (leBytes 2 n)) s →
      exec (.zoneSettingWrite tag z .overrideSetpoint v) s =
        .next (answered tag (if signed = overriding then [0] else 1 :: 0 :: leBytes 2 overriding.toNat)
          (zoneEvent z (fun r => { r with ovSet := overriding }) t))) ∧
    (HouseTakes (writeFrame tag (0x08E + 32 * z.val) (leBytes 2 n)) s →
      exec (.overrideDurationWrite tag z v) s = .next (answered tag (numericAnswer 2 n (nearest 0 1440 n))
        (zoneEvent z (fun r => { r with
          ovDur := nearest 0 1440 n, ovLeft := if n = 0 then none else some (nearest 0 1440 n * 60) }) t))) ∧
    (HouseTakes (writeFrame tag (0x088 + 32 * z.val) [b]) s →
      exec (.stalenessLimitWrite tag z b) s =
        .next (answered tag (numericAnswer 1 b.toNat (nearest 5 120 b.toNat))
          (zoneEvent z (fun r => { r with
            stale := nearest 5 120 b.toNat
            slot1 := r.slot1.ageOut s.clock (nearest 5 120 b.toNat)
            slot2 := r.slot2.ageOut s.clock (nearest 5 120 b.toNat) }) t))) ∧
    (HouseTakes (writeFrame tag (0x089 + 32 * z.val) [b]) s →
      exec (.fallbackOnTimeWrite tag z b) s =
        .next (answered tag (numericAnswer 1 b.toNat (nearest 0 30 b.toNat))
          (zoneEvent z (fun r =>
            let since := match r.cycleStart with
              | some c => age s.clock c
              | none => 0
            { r with
              onTime := nearest 0 30 b.toNat
              state := if r.state = .fallbackOn ∨ r.state = .fallbackRest then
                  (if since < nearest 0 30 b.toNat * 60 then .fallbackOn else .fallbackRest)
                else r.state }) t))) ∧
    (HouseTakes (writeFrame tag (0x080 + 32 * z.val) [b]) s →
      exec (.zoneEnableWrite tag z b) s =
        .next (if b = 0 ∨ b = 1 then answered tag [0] (zoneEvent z (fun r => { r with enabled := decide (b = 1) }) t)
          else answered tag [5, 2, 0] t))

/-- R36, R37: a slot takes an address 1..61 that no slot holds, or becomes absent, keeping slot 2 behind slot 1; its live
part goes with a new address. An address held elsewhere is REFUSED CONFLICT. Model's choices: log 3, log 31. -/
def Obligations.SlotIsWritten : Prop :=
  ∀ (tag : Byte) (z : Fin 8) (n : SlotNo) (b : Byte) (s : State), s.store.save = none →
    HouseTakes (writeFrame tag ((if n = .one then 0x081 else 0x082) + 32 * z.val) [b]) s →
    let t := houseTaken s
    let zone := s.zone z
    let stored (a : Option Byte) := exec (.slotWrite tag z n b) s = .next (answered tag [0]
      (zoneEvent z (fun r => r.onSlot n fun x => if x.addr = a then x else { addr := a }) t))
    let refused (reason : Byte) := exec (.slotWrite tag z n b) s = .next (answered tag [5, reason, 0] t)
    (b = 0 ∨ (62 ≤ b ∧ b ≠ 0xFF) → refused 2) ∧
    (b = 0xFF → n = .one → zone.slot2.addr ≠ none → refused 2) ∧
    (b = 0xFF → ¬(n = .one ∧ zone.slot2.addr ≠ none) → stored none) ∧
    (1 ≤ b → b ≤ 61 → (zone.slot n).addr = some b → stored (some b)) ∧
    (1 ≤ b → b ≤ 61 → (zone.slot n).addr ≠ some b →
      (∃ i m, ((s.zone i).slot m).addr = some b) → refused 3) ∧
    (1 ≤ b → b ≤ 61 → (∀ i m, ((s.zone i).slot m).addr ≠ some b) → n = .two → zone.slot1.addr = none → refused 2) ∧
    (1 ≤ b → b ≤ 61 → (∀ i m, ((s.zone i).slot m).addr ≠ some b) → (n = .one ∨ zone.slot1.addr ≠ none) →
      stored (some b))

/-! ### Grants, rotation and zone outputs (04) -/

/-- R71, with R60, R70, R72, R73, R76: at the end of each event of the Rotation Unit every output is judged by its state and
whether a granted zone routes to it, unwanted OPEN outputs last, the permit and PUMP stand by the grants and outputs, and each relay ZV0 to ZV7 by its
output. R73, R82: a permit that the event has changed is a change of a demand condition, and the conditions are judged. -/
def Obligations.RotationEventSettles : Prop :=
  ∀ (f : Rotation → Rotation) (s : State),
    let t := rotationEvent f s
    let r := t.rot
    let wanted (i : Fin 8) := ∃ g ∈ r.grants, (s.zone g.zone).route = some i
    r.grants = (f s.rot).grants ∧ r.queue = (f s.rot).queue ∧ r.limit = (f s.rot).limit ∧
    r.overrun = (f s.rot).overrun ∧
    (∀ i, let o := (f s.rot).outputs.get i
      (wanted i → (o.state = .shut ∨ o.state = .closing) →
        r.outputs.get i = { o with state := .opening, travel := r.travelTime }) ∧
      (wanted i → (o.state = .opening ∨ o.state = .opened) → r.outputs.get i = o) ∧
      (¬wanted i → (o.state = .shut ∨ o.state = .closing) → r.outputs.get i = o) ∧
      (¬wanted i → o.state = .opening → r.outputs.get i = { o with state := .closing, travel := r.travelTime }) ∧
      (¬wanted i → o.state = .opened → (o.held = true ∨ ∃ j, wanted j ∧ (r.outputs.get j).state = .opening) →
        r.outputs.get i = o) ∧
      (¬wanted i → o.state = .opened → o.held = false → (¬∃ j, wanted j ∧ (r.outputs.get j).state = .opening) →
        r.outputs.get i = { o with state := .closing, travel := r.travelTime })) ∧
    (r.permit = true ↔ ∃ g ∈ r.grants, (s.zone g.zone).route = none ∨
      ∃ i, (s.zone g.zone).route = some i ∧ (r.outputs.get i).state = .opened) ∧
    (r.pump = true ↔ (∃ i, (r.outputs.get i).state = .opening ∨ (r.outputs.get i).state = .opened) ∨
      (∃ g ∈ r.grants, (s.zone g.zone).route = none) ∨ (r.bypass = true ∧ r.overrun ≠ none)) ∧
    (∀ i, t.valveRelay i = true ↔ (r.outputs.get i).state = .opening ∨ (r.outputs.get i).state = .opened) ∧
    t = (if r.permit = s.rot.permit then { s with rot := r } else judgeDemand { s with rot := r }) ∧
    t.zones = s.zones ∧ HeatOnly s t

/-- R67: the swap check ends with no expired zone left that the head of the queue outranks or equals, and no zone is lost or
doubled. Of the expired zones it takes the one of lowest rank, then earliest grant, then lowest grant order; where the head
ranks at least as high the two swap, the head granted with its turn timer at 0 and the expired zone joining the queue
behind its rank, and the check begins again. Where none can swap it changes nothing. -/
def Obligations.SwapCheckEndsTheTurns : Prop :=
  ∀ (now : Clock) (r : Rotation), 1 ≤ r.turnLen →
    let t := r.swapCheck now
    let expired (g : Grant) := r.turnLen * 60 ≤ g.turn
    let zones (x : Rotation) := x.grants.map (·.zone) ++ x.queue.map (·.zone)
    (t.grants.length ≤ r.grants.length ∧ t.limit = r.limit ∧
      ∀ c h rest, c ∈ t.grants → t.turnLen * 60 ≤ c.turn → (∀ g ∈ t.grants, t.turnLen * 60 ≤ g.turn → c.rank ≤ g.rank) →
        t.queue = h :: rest → h.rank < c.rank) ∧
    ((zones r).Nodup → t.grants.length = r.grants.length ∧ (zones t).Perm (zones r)) ∧
    (∀ c h q, (zones r).Nodup → c ∈ r.grants → expired c →
      (∀ g ∈ r.grants, expired g → g ≠ c → c.rank < g.rank ∨ (c.rank = g.rank ∧ (age now g.time < age now c.time ∨
        (age now g.time = age now c.time ∧ c.order < g.order)))) →
      r.queue = h :: q → c.rank ≤ h.rank →
      t = ({ r with
        grants := (r.grants.filter fun g => decide (g.zone ≠ c.zone)) ++ [⟨h.zone, h.rank, now, r.grantCount + 1, 0⟩]
        queue := enqueue now ⟨c.zone, c.rank, now, r.joinCount + 1⟩ q
        grantCount := r.grantCount + 1, joinCount := r.joinCount + 1, overrun := none
        outputs := r.outputs.map fun o => { o with held := false } } : Rotation).swapCheck now) ∧
    (((∀ g ∈ r.grants, ¬expired g) ∨ r.queue = [] ∨
      (∃ h q, r.queue = h :: q ∧ ∀ g ∈ r.grants, expired g → h.rank < g.rank)) → t = r)

/-- R61, R62: a start of call with a place free is granted with its turn timer at 0, a running overrun stopped and
every held flag cleared; with none free and no zone expired it waits; with a zone expired it joins the queue, the
queue is filled where a place is free, and the swap check runs. R69: after a write of the limit the grant set holds it
or the queue is empty, and no zone is lost; of a grant set above the limit the zone of lowest rank leaves first, then
of latest grant time, then of highest grant order, to join the queue; one within it is filled from the head. R59: a
record takes its place in the waiting queue behind every record of higher rank and, at its own rank, of earlier join
time or of the same join time and lower join order, and ahead of the first that is none of these. R63, R64, R74: an
end of call takes the zone out, fills the place from the head, and judges the overrun where the grant set has emptied;
a rank change keeps the record's times, orders and turn timer and moves a waiting record to its place. The swap check
follows both. Model's choices: log 16. -/
def Obligations.GrantsAreFilled : Prop :=
  (∀ (now : Clock) (z : Fin 8) (rank : Nat) (r : Rotation),
    (∀ g ∈ r.grants, g.turn < r.turnLen * 60) → 1 ≤ r.turnLen →
    let t := r.startOfCall now z rank
    (r.grants.length < r.limit → r.queue = [] →
      t = { r with
        joinCount := r.joinCount + 1, grantCount := r.grantCount + 1, overrun := none
        outputs := r.outputs.map fun o => { o with held := false }
        grants := r.grants ++ [⟨z, rank, now, r.grantCount + 1, 0⟩] }) ∧
    (r.limit ≤ r.grants.length →
      t = { r with joinCount := r.joinCount + 1, queue := enqueue now ⟨z, rank, now, r.joinCount + 1⟩ r.queue })) ∧
  (∀ (now : Clock) (z : Fin 8) (rank : Nat) (r : Rotation),
    let t := r.startOfCall now z rank
    let joined := enqueue now ⟨z, rank, now, r.joinCount + 1⟩ r.queue
    (r.grants.length < r.limit → r.queue = [] →
      t = { r with
        joinCount := r.joinCount + 1, grantCount := r.grantCount + 1, overrun := none
        outputs := r.outputs.map fun o => { o with held := false }
        grants := r.grants ++ [⟨z, rank, now, r.grantCount + 1, 0⟩] }) ∧
    (∀ h q, r.grants.length + 1 = r.limit → joined = h :: q →
      t = ({ r with
        joinCount := r.joinCount + 1, grantCount := r.grantCount + 1, overrun := none, queue := q
        outputs := r.outputs.map fun o => { o with held := false }
        grants := r.grants ++ [⟨h.zone, h.rank, now, r.grantCount + 1, 0⟩] } : Rotation).swapCheck now) ∧
    (r.limit ≤ r.grants.length →
      t = ({ r with joinCount := r.joinCount + 1, queue := joined } : Rotation).swapCheck now)) ∧
  (∀ (now : Clock) (r : Rotation), 1 ≤ r.limit → (r.grants.map (·.zone)).Nodup →
    let t := r.applyLimit now
    t.grants.length ≤ r.limit ∧ (t.queue = [] ∨ t.grants.length = r.limit) ∧
    (∀ z, (z ∈ t.grants.map (·.zone) ∨ z ∈ t.queue.map (·.zone)) ↔
      (z ∈ r.grants.map (·.zone) ∨ z ∈ r.queue.map (·.zone))) ∧
    (∀ c, r.limit < r.grants.length → c ∈ r.grants →
      (∀ g ∈ r.grants, g ≠ c → c.rank < g.rank ∨ (c.rank = g.rank ∧ (age now c.time < age now g.time ∨
        (age now c.time = age now g.time ∧ g.order < c.order)))) →
      t = ({ r with
        grants := r.grants.filter fun g => decide (g.zone ≠ c.zone)
        queue := enqueue now ⟨c.zone, c.rank, now, r.joinCount + 1⟩ r.queue
        joinCount := r.joinCount + 1 } : Rotation).applyLimit now) ∧
    (r.grants.length = r.limit ∨ (r.grants.length < r.limit ∧ r.queue = []) → t = r) ∧
    (∀ h q, r.grants.length < r.limit → r.queue = h :: q →
      t = ({ r with
        grants := r.grants ++ [⟨h.zone, h.rank, now, r.grantCount + 1, 0⟩], queue := q, grantCount := r.grantCount + 1
        overrun := none, outputs := r.outputs.map fun o => { o with held := false } } : Rotation).applyLimit now)) ∧
  (∀ (now : Clock) (w : Wait) (q : List Wait),
    let ahead (x : Wait) := x.rank < w.rank ∨ (x.rank = w.rank ∧
      (age now x.time < age now w.time ∨ (x.time = w.time ∧ w.order < x.order)))
    ∃ before after, q = before ++ after ∧ enqueue now w q = before ++ w :: after ∧ (∀ x ∈ before, ¬ahead x) ∧
      (∀ x, after.head? = some x → ahead x)) ∧
  (∀ (now : Clock) (z : Fin 8) (r : Rotation), (r.grants.map (·.zone) ++ r.queue.map (·.zone)).Nodup →
    let t := r.endOfCall now z
    let grants := r.grants.filter fun g => decide (g.zone ≠ z)
    let queue := r.queue.filter fun w => decide (w.zone ≠ z)
    (grants ≠ [] ∨ r.grants = [] → queue = [] → t = ({ r with grants := grants, queue := [] } : Rotation).swapCheck now) ∧
    (1 ≤ r.limit → r.limit ≤ grants.length → t = ({ r with grants := grants, queue := queue } : Rotation).swapCheck now) ∧
    (∀ h q, grants.length + 1 = r.limit → queue = h :: q → t =
      ({ r with
        grants := grants ++ [⟨h.zone, h.rank, now, r.grantCount + 1, 0⟩], queue := q, grantCount := r.grantCount + 1
        overrun := none, outputs := r.outputs.map fun o => { o with held := false } } : Rotation).swapCheck now) ∧
    (r.grants ≠ [] → grants = [] → queue = [] →
      (∀ f, r.lastFiring = some f → 0 < r.overrunTime → age now f < r.overrunTime → t = { r with
        grants := [], queue := [], overrun := some r.overrunTime
        outputs := if r.bypass then r.outputs
          else r.outputs.map fun o => if o.state = .opened then { o with held := true } else o }) ∧
      ((r.lastFiring = none ∨ r.overrunTime = 0 ∨ ∃ f, r.lastFiring = some f ∧ r.overrunTime ≤ age now f) →
        t = { r with grants := [], queue := [] }))) ∧
  (∀ (now : Clock) (z : Fin 8) (rank : Nat) (r : Rotation), (r.grants.map (·.zone) ++ r.queue.map (·.zone)).Nodup →
    let t := r.rankChange now z rank
    (∀ before g after, r.grants = before ++ g :: after → g.zone = z →
      t = ({ r with grants := before ++ { g with rank := rank } :: after } : Rotation).swapCheck now) ∧
    (∀ before w after, r.queue = before ++ w :: after → w.zone = z →
      t = ({ r with queue := enqueue now { w with rank := rank } (before ++ after) } : Rotation).swapCheck now))

/-- R66, R70, R75: the timed events of the Rotation Unit. R58, R65, R68, R69: the writes of its settings and of a route.
Model's choices: log 2, log 3. -/
def Obligations.RotationCommandsAreTaken : Prop :=
  (∀ (z : Fin 8) (s : State), s.powered = true →
    ((∃ g ∈ s.rot.grants, g.zone = z ∧ s.rot.turnLen * 60 ≤ g.turn) →
      exec (.turnExpires z) s = .next (rotationEvent (fun r => r.swapCheck s.clock) s)) ∧
    (∀ o, s.rot.outputs.get z = o → o.state = .opening → o.travel = 0 → exec (.valveTravelEnd z) s =
      .next (rotationEvent (fun r => { r with outputs := r.outputs.set z { o with state := .opened } }) s)) ∧
    (∀ o, s.rot.outputs.get z = o → o.state = .closing → o.travel = 0 → exec (.valveTravelEnd z) s =
      .next (rotationEvent (fun r => { r with outputs := r.outputs.set z { o with state := .shut } }) s)) ∧
    (s.rot.overrun = some 0 → exec .overrunEnds s =
      .next (rotationEvent (fun r => { r with
        overrun := none, outputs := r.outputs.map fun o => { o with held := false } }) s))) ∧
  (∀ (tag b : Byte) (z : Fin 8) (s : State), s.store.save = none →
    let t := houseTaken s
    let n := b.toNat
    (HouseTakes (writeFrame tag 0x180 [b]) s →
      exec (.concurrentLimitWrite tag b) s = .next (answered tag (numericAnswer 1 n (nearest 1 8 n))
        (rotationEvent (fun r => ({ r with limit := nearest 1 8 n }.applyLimit s.clock).swapCheck s.clock) t))) ∧
    (HouseTakes (writeFrame tag 0x181 [b]) s →
      exec (.turnLengthWrite tag b) s = .next (answered tag (numericAnswer 1 n (nearest 5 60 n))
        (rotationEvent (fun r => { r with turnLen := nearest 5 60 n }.swapCheck s.clock) t))) ∧
    (HouseTakes (writeFrame tag (0x083 + 32 * z.val) [b]) s →
      let routed (a : Option (Fin 8)) := zoneEvent z (fun r => { r with route := a }) t
      let done (a : Option (Fin 8)) :=
        if (routed a).rot.grants.any (fun g => g.zone = z) then rotationEvent id (routed a) else routed a
      (∀ i : Fin 8, n = i.val → exec (.routeWrite tag z b) s = .next (answered tag [0] (done (some i)))) ∧
      (n = 0xFF → exec (.routeWrite tag z b) s = .next (answered tag [0] (done none))) ∧
      (8 ≤ n → n ≠ 0xFF → exec (.routeWrite tag z b) s = .next (answered tag [5, 2, 0] t))))

/-! ### Burner supervision (05) -/

/-- R82: the judgement of the demand conditions, by the burner state. R84, R92, R93, R146: where FIRING is left, the
period ends, and the idle watch is armed from the reported volume, if there is one. -/
def Obligations.DemandConditionsAreJudged : Prop :=
  ∀ s : State,
    let conditions := s.rot.permit = true ∧ (s.recov.state = .none ∨ s.recov.state = .proving) ∧
      ¬(s.gauge.band = .dry ∧ s.burner.dryStop = true) ∧ s.burner.reset = false ∧ s.burner.gap = none ∧
      s.burner.run.acc ≠ none ∧ s.burner.lock.acc ≠ none ∧
      (s.burner.state = .idle ∨ s.burner.state = .starting ∨ s.burner.state = .firing)
    let t := judgeDemand s
    (s.burner.state = .idle → conditions →
      t = s.onBurner fun b => { b with demand := true, state := .starting, timer := some b.startLimit }) ∧
    (conditions → s.burner.state = .starting ∨ s.burner.state = .firing → t = s) ∧
    (¬conditions → s.burner.run.acc ≠ none → s.burner.lock.acc ≠ none → s.burner.state = .starting →
      t = s.onBurner fun b => { b with demand := false, state := .runout, timer := some b.runoutLimit }) ∧
    (¬conditions → s.burner.run.acc ≠ none → s.burner.lock.acc ≠ none → s.burner.state = .firing →
      t = { s with
        burner := { s.burner with
          demand := false, state := .runout, timer := some s.burner.runoutLimit
          lastPeriod := s.burner.period, period := 0
          shortCycles := if s.burner.period < 120 then min 65535 (s.burner.shortCycles + 1) else s.burner.shortCycles }
        oil := { s.oil with armed := true, checkpoint := s.gauge.reported } }) ∧
    (s.burner.state ≠ .starting → s.burner.state ≠ .firing → ¬conditions → t = s)

/-- R83, R85 to R88, R90: the limits of the burner states. Where the state becomes IDLE the demand conditions are judged. R89:
where RUN accepted on meets the clear timer's end, the timer first, it is SENSE_FAULT again and a new entry (the model's
choice, log 38). Model's choices: log 2. -/
def Obligations.BurnerTimersRunOut : Prop :=
  ∀ s : State, s.powered = true →
    let idle := judgeDemand (s.onBurner fun b => { b with demand := false, state := .idle, timer := none })
    let fault := raise
      { bit := .burnerFault, code := 0x05, subject := s.burner.state.code
        value1 := if s.burner.lock.acc = some true then 3 else 1 }
      (s.onBurner fun b =>
        { b with demand := false, state := .senseFault, timer := none, senseFault := min 65535 (b.senseFault + 1) })
    (s.burner.state = .starting → s.burner.timer = some 0 → exec .startLimitExpires s =
      .next (s.onBurner fun b =>
        { b with demand := false, state := .noStart, timer := some b.backOff, noStart := min 65535 (b.noStart + 1) })) ∧
    (s.burner.state = .runout → s.burner.timer = some 0 → s.burner.run.acc ≠ some true →
      exec .runoutLimitExpires s = .next idle) ∧
    ((s.burner.state = .runout ∨ s.burner.state = .locked) → s.burner.timer = some 0 → s.burner.run.acc = some true →
      exec .runoutLimitExpires s = .next fault) ∧
    (s.burner.state = .noStart → s.burner.timer = some 0 → exec .backOffExpires s = .next idle) ∧
    (s.burner.state = .senseFault → s.burner.timer = some 0 → ¬(s.burner.run.change = some 2 ∧ s.burner.run.raw = true) →
      exec .clearTimerExpires s = .next idle) ∧
    (s.burner.state = .senseFault → s.burner.timer = some 0 → s.burner.run.change = some 2 → s.burner.run.raw = true →
      s.burner.run.acc ≠ none → s.burner.lock.acc ≠ none →
      let cleared := s.onBurner fun b => { b with demand := false, state := .idle, timer := none }
      exec .clearTimerExpires s = .next cleared ∧ exec (.inputAccepted .run) cleared = .next (raise
        { bit := .burnerFault, code := 0x05, subject := 0, value1 := if s.burner.lock.acc = some true then 3 else 1 }
        (s.onBurner fun b => { b with
          run := { b.run with acc := some true, change := none }, demand := false, state := .senseFault, timer := none
          senseFault := min 65535 (b.senseFault + 1) }))) ∧
    (s.burner.gap = some 0 → exec .resetGapEnds s =
      .next (judgeDemand (s.onBurner fun b => { b with gap := none })))

/-- R79, R83 to R88: once the Supervisor has settled, RUN accepted on and RUN accepted off in each burner state. R80: the end
of settling: IDLE with the demand conditions judged, a lockout present at power-on, or SENSE_FAULT, which marks a LOCK that
is on as present since power-on; while the other level is absent the Supervisor goes on settling. -/
def Obligations.RunIsAccepted : Prop :=
  (∀ (level : Bool) (s : State), s.powered = true → s.burner.run.change = some 2 → s.burner.run.raw = level →
    s.burner.run.acc ≠ none → s.burner.lock.acc ≠ none →
    let a := s.onBurner fun b => { b with run := { b.run with acc := some level, change := none } }
    let fault := raise
      { bit := .burnerFault, code := 0x05, subject := s.burner.state.code
        value1 := if s.burner.lock.acc = some true then 3 else 1 }
      (a.onBurner fun b =>
        { b with demand := false, state := .senseFault, timer := none, senseFault := min 65535 (b.senseFault + 1) })
    (level = true → (s.burner.state = .idle ∨ s.burner.state = .locked ∨ s.burner.state = .noStart) →
      exec (.inputAccepted .run) s = .next fault) ∧
    (level = true → s.burner.state = .starting → exec (.inputAccepted .run) s =
      .next ((a.onBurner fun b =>
        { b with state := .firing, timer := none, cycles := min 65535 (b.cycles + 1), period := 0 }).onOil fun o =>
          { o with armed := false, checkpoint := none })) ∧
    (level = true → (s.burner.state = .firing ∨ s.burner.state = .runout) →
      exec (.inputAccepted .run) s = .next a) ∧
    (level = true → s.burner.state = .senseFault →
      exec (.inputAccepted .run) s = .next (a.onBurner fun b => { b with timer := none })) ∧
    (level = false → s.burner.state = .firing → s.burner.lock.acc = some false → exec (.inputAccepted .run) s =
      .next ((a.onBurner fun b => { b with
        lastPeriod := b.period, period := 0
        shortCycles := if b.period < 120 then min 65535 (b.shortCycles + 1) else b.shortCycles
        demand := true, state := .starting, timer := some b.startLimit }).onOil fun o =>
          { o with armed := true, checkpoint := s.gauge.reported })) ∧
    (level = false → s.burner.state = .runout → exec (.inputAccepted .run) s =
      .next (judgeDemand (a.onBurner fun b => { b with demand := false, state := .idle, timer := none }))) ∧
    (level = false → s.burner.state = .locked →
      exec (.inputAccepted .run) s = .next (a.onBurner fun b => { b with timer := none })) ∧
    (level = false → s.burner.state = .senseFault → s.burner.lock.acc = some false →
      exec (.inputAccepted .run) s = .next (a.onBurner fun b => { b with timer := some 30 })) ∧
    (level = false → s.burner.state = .senseFault → s.burner.lock.acc = some true →
      exec (.inputAccepted .run) s = .next (enterLocked s.burner.presentMark .senseFault a)) ∧
    (level = false → (s.burner.state = .idle ∨ s.burner.state = .starting ∨ s.burner.state = .noStart) →
      exec (.inputAccepted .run) s = .next a)) ∧
  (∀ (i : Input) (run lock : Debounced) (s : State), s.powered = true → s.burner.run = run → s.burner.lock = lock →
    ((i = .run ∧ run.change = some 2 ∧ run.acc = none) ∨ (i = .lock ∧ lock.change = some 2 ∧ lock.acc = none)) →
    let runOn := if i = .run then some run.raw else run.acc
    let lockOn := if i = .lock then some lock.raw else lock.acc
    let a := s.onBurner fun b => { b with
      run := if i = .run then { run with acc := some run.raw, change := none } else run
      lock := if i = .lock then { lock with acc := some lock.raw, change := none } else lock }
    (runOn = none ∨ lockOn = none → exec (.inputAccepted i) s = .next a) ∧
    (runOn = some false → lockOn = some false → exec (.inputAccepted i) s =
      .next (judgeDemand (a.onBurner fun b => { b with demand := false, state := .idle, timer := none }))) ∧
    (runOn = some false → lockOn = some true → exec (.inputAccepted i) s = .next (enterLocked true .idle a)) ∧
    (runOn = some true → ∀ on, lockOn = some on → exec (.inputAccepted i) s =
      .next (raise { bit := .burnerFault, code := 0x05, subject := 0, value1 := if on then 3 else 1 }
        (a.onBurner fun b => { b with
          demand := false, state := .senseFault, timer := none, senseFault := min 65535 (b.senseFault + 1)
          presentMark := on }))))

/-- R87, R88, R91: LOCK accepted on locks the burner, but in SENSE_FAULT only with RUN accepted off; LOCK accepted off
in LOCKED and in SENSE_FAULT hands a lock clear. R87, R98, R106, R114 to R116: at an entry into LOCKED the Supervisor
makes its own change; then an episode begins in COOLING, with the penalty where the lockout was present at power-on,
or an attempt in PROVING is RELOCKED; in the other states the lockout changes nothing. R99, R103 to R107, R114, R115:
a lock clear ends a waiting episode as a manual reset with its record and its notices, and in CHECKING it begins the
proving; the demand conditions are judged. R79: the accepted level takes the raw one and the change timer stops. R80: the mark
of a lockout present at power-on ends at the entry into LOCKED and at LOCK accepted off (log 29). An attempt that is
RELOCKED keeps its proving count (log 47). Model's choices: log 28. -/
def Obligations.LockIsAccepted : Prop :=
  (∀ (level : Bool) (s : State), s.powered = true → s.burner.lock.change = some 2 → s.burner.lock.raw = level →
    s.burner.run.acc ≠ none → s.burner.lock.acc ≠ none →
    let a := s.onBurner fun b => { b with
      lock := { b.lock with acc := some level, change := none }
      presentMark := if level then b.presentMark else false }
    let runs := s.burner.run.acc = some true
    (level = true → s.burner.state ≠ .senseFault →
      exec (.inputAccepted .lock) s = .next (enterLocked false s.burner.state a)) ∧
    (level = true → s.burner.state = .senseFault → runs → exec (.inputAccepted .lock) s = .next a) ∧
    (level = true → s.burner.state = .senseFault → ¬runs →
      exec (.inputAccepted .lock) s = .next (enterLocked s.burner.presentMark .senseFault a)) ∧
    (level = false → s.burner.state = .locked → ¬runs → exec (.inputAccepted .lock) s =
      .next (handLockClear (a.onBurner fun b => { b with demand := false, state := .idle, timer := none }))) ∧
    (level = false → s.burner.state = .locked → runs → exec (.inputAccepted .lock) s =
      .next (handLockClear (raise { bit := .burnerFault, code := 0x05, subject := 4, value1 := 1 }
        (a.onBurner fun b => { b with
          demand := false, state := .senseFault, timer := none, senseFault := min 65535 (b.senseFault + 1) })))) ∧
    (level = false → s.burner.state = .senseFault → runs → exec (.inputAccepted .lock) s = .next (handLockClear a)) ∧
    (level = false → s.burner.state = .senseFault → ¬runs → exec (.inputAccepted .lock) s =
      .next ((handLockClear a).onBurner fun b => { b with timer := some 30 })) ∧
    (level = false → s.burner.state ≠ .locked → s.burner.state ≠ .senseFault →
      exec (.inputAccepted .lock) s = .next a)) ∧
  (∀ (present : Bool) (left : BurnerState) (s : State), s.burner.reset = false →
    let freed := if left = .firing then
        (s.onBurner fun b => { b with
          lastPeriod := b.period, period := 0
          shortCycles := if b.period < 120 then min 65535 (b.shortCycles + 1) else b.shortCycles }).onOil fun o =>
            { o with armed := true, checkpoint := s.gauge.reported }
      else s
    let locked := freed.onBurner fun b => { b with
      demand := false, state := .locked, presentMark := false
      timer := if b.run.acc = some true then some b.runoutLimit else none }
    let cooling := locked.onRecov fun r => { r with state := .cooling, timer := some r.coolOff }
    let begun := postInternal .boilerFault (raise
      { bit := .lockout, code := 0x01, subject := left.code, value1 := s.gauge.band.code, value2 := if present then 1 else 0 }
      cooling)
    let t := enterLocked present left s
    (s.recov.state = .none → present = false → t = begun) ∧
    (s.recov.state = .none → present = true → t = begun.onRecov fun r => { r with
      budget := if s.clock.toNat < r.window * 3600 ∧ r.budget.length < 5 then r.budget ++ [0] else r.budget
      log := (if r.log.length < 16 then r.log else r.log.drop 1) ++
        [⟨0, .unknown, .unknown, s.gauge.band, if s.gauge.band = .unknown then none else some s.gauge.litres⟩] }) ∧
    (s.recov.state = .proving → t = raise { bit := .lockout, code := 0x02, value1 := s.recov.proving }
      (cooling.onRecov fun r => { r with
        log := r.log.map fun x => if x.outcome = .pending then { x with outcome := .relocked } else x })) ∧
    (s.recov.state ≠ .none → s.recov.state ≠ .proving → t = locked)) ∧
  (∀ s : State, s.burner.reset = false →
    let waiting := s.recov.state = .cooling ∨ s.recov.state = .due ∨ s.recov.state = .waitOil ∨ s.recov.state = .held ∨
      s.recov.state = .await ∨ s.recov.state = .hard
    let t := handLockClear s
    (waiting → t = judgeDemand (postInternal .boilerOk
      (raise { bit := .recovered, code := 0x04, value1 := 5, value2 := 3 }
        (judgeDemand (s.onRecov fun r => { r with
          state := .none, timer := none, budget := []
          log := (if r.log.length < 16 then r.log else r.log.drop 1) ++
            [⟨s.clock, .manual, .manual, s.gauge.band,
              if s.gauge.band = .unknown then none else some s.gauge.litres⟩] }))))) ∧
    (s.recov.state = .checking →
      t = judgeDemand (s.onRecov fun r => { r with state := .proving, timer := none, proving := 0 })) ∧
    (¬waiting → s.recov.state ≠ .checking → t = judgeDemand s))

/-- R21, R76, R82, R100: a write of one of the part flags leaves the others, sets PUMP afresh, judges the demand conditions
and runs the due check of a waiting episode. R96, R100, R102, R106: the writes of the recovery settings that are events of
a running episode. Model's choices: log 3, log 12. -/
def Obligations.BurnerAndRecoverySettingIsWritten : Prop :=
  (∀ (tag : Byte) (on : Bool) (s : State), s.store.save = none →
    let handed (u : State) := dueTrigger (judgeDemand (setPump u))
    let t := houseTaken s
    (HouseTakes (flagFrame tag 1 on s) s → exec (.bypassFittedWrite tag on) s =
      .next (answered tag [0] (handed (t.onRot fun r => { r with bypass := on })))) ∧
    (HouseTakes (flagFrame tag 2 on s) s → exec (.dryStopWrite tag on) s =
      .next (answered tag [0] (handed (t.onBurner fun b => { b with dryStop := on })))) ∧
    (HouseTakes (flagFrame tag 3 on s) s → exec (.resetWithoutGaugeWrite tag on) s =
      .next (answered tag [0] (handed (t.onRecov fun r => { r with noGauge := on }))))) ∧
  (∀ (tag b : Byte) (v : BitVec 16) (s : State), s.store.save = none →
    let t := houseTaken s
    let n := b.toNat
    (HouseTakes (writeFrame tag 0x1C4 [b]) s → exec (.autoRecoveryWrite tag b) s =
      .next (if b = 0 ∨ b = 1 then answered tag [0] (dueTrigger (t.onRecov fun r => { r with auto := decide (b = 1) }))
        else answered tag [5, 2, 0] t)) ∧
    (HouseTakes (writeFrame tag 0x1C6 [b]) s → exec (.budgetWindowWrite tag b) s =
      .next (answered tag (numericAnswer 1 n (nearest 1 72 n)) (t.onRecov fun r =>
        { r with
          window := nearest 1 72 n
          budget := r.budget.filter fun x => decide (age s.clock x < nearest 1 72 n * 3600) }))) ∧
    (HouseTakes (writeFrame tag 0x1CE (leBytes 2 v.toNat)) s →
      let stored := t.onRecov fun r => { r with provingTime := nearest 60 600 v.toNat }
      exec (.provingTimeWrite tag v) s =
        .next (answered tag (numericAnswer 2 v.toNat (nearest 60 600 v.toNat))
          (if s.recov.state = .proving ∧ nearest 60 600 v.toNat ≤ s.recov.proving then proveAttempt stored else stored))))

/-! ### Lockout recovery and the service claim (06) -/

/-- R100, R102, R114: the due check. R115: an entry into HELD, WAIT_OIL or AWAIT raises RECOVERY_WAIT with the state
entered; an entry into HARD raises HARD with the budget entries and posts CALL_ENGINEER; a state kept raises nothing.
R99, R101, R102: the cool-off and the spacing run out into it, and the budget forgets what has aged. Model's choices:
log 2. -/
def Obligations.DueCheckDecides : Prop :=
  (∀ s : State,
    let t := dueCheck s
    let r := s.recov
    let noOil := s.gauge.band = .dry ∨ (s.gauge.band = .unknown ∧ r.noGauge = false)
    let waits (st : RecState) := t.recov = { r with state := st, timer := none } ∧
      t.mgmt.attn &&& AttnBit.recoveryWait.word ≠ 0 ∧
      t = raise { bit := .recoveryWait, code := 0x11, value1 := st.code } (recoveryEnters st none s)
    (r.word ≠ 0 → r.state = .held → t = s) ∧ (r.word ≠ 0 → r.state ≠ .held → waits .held) ∧
    (r.word = 0 → noOil → r.state = .waitOil → t = s) ∧ (r.word = 0 → noOil → r.state ≠ .waitOil → waits .waitOil) ∧
    (r.word = 0 → ¬noOil → r.auto = false → r.state = .await → t = s) ∧
    (r.word = 0 → ¬noOil → r.auto = false → r.state ≠ .await → waits .await) ∧
    (r.word = 0 → ¬noOil → r.auto = true → r.spacing ≠ none → r.state = .due → t = s) ∧
    (r.word = 0 → ¬noOil → r.auto = true → r.spacing ≠ none → r.state ≠ .due →
      t.recov = { r with state := .due, timer := none } ∧ t.mgmt = s.mgmt ∧ t = recoveryEnters .due none s) ∧
    (r.word = 0 → ¬noOil → r.auto = true → r.spacing = none → r.budgetMax ≤ r.budget.length → r.state = .hard → t = s) ∧
    (r.word = 0 → ¬noOil → r.auto = true → r.spacing = none → r.budgetMax ≤ r.budget.length → r.state ≠ .hard →
      t.recov = { r with state := .hard, timer := none } ∧ t.mgmt.attn &&& AttnBit.hard.word ≠ 0 ∧
      t = postInternal .callEngineer (raise { bit := .hard, code := 0x03, value1 := r.budget.length }
        (recoveryEnters .hard none s))) ∧
    (r.word = 0 → ¬noOil → r.auto = true → r.spacing = none → r.budget.length < r.budgetMax → r.budget.length < 5 →
      t.recov = { r with
        state := .pregap, timer := some r.gapLen, budget := r.budget ++ [s.clock]
        log := (if r.log.length < 16 then r.log else r.log.drop 1) ++
          [⟨s.clock, .auto, .pending, s.gauge.band, if s.gauge.band = .unknown then none else some s.gauge.litres⟩] } ∧
      t.mgmt = s.mgmt ∧ t = recoveryEnters .pregap (some r.gapLen) (s.onRecov fun _ => t.recov)) ∧
    HeatAndRecoveryOnly s t) ∧
  (∀ s : State, s.powered = true →
    let waiting := s.recov.state = .due ∨ s.recov.state = .waitOil ∨ s.recov.state = .held ∨ s.recov.state = .await
    let spent := s.onRecov fun r => { r with spacing := none }
    (s.recov.state = .cooling → s.recov.timer = some 0 → exec .coolOffExpires s = .next (dueCheck s)) ∧
    (s.recov.spacing = some 0 → waiting → exec .spacingExpires s = .next (dueCheck spent)) ∧
    (s.recov.spacing = some 0 → ¬waiting → exec .spacingExpires s = .next spent) ∧
    exec .budgetEntryAgesOut s = .next (s.onRecov fun r =>
      { r with budget := r.budget.filter fun b => decide (age s.clock b < r.window * 3600) }))

/-- R90, R104, R105, R106: the pulse sequence, RESET energized in PULSE alone, and what follows it.
Model's choices: log 2. -/
def Obligations.PulseSequenceRuns : Prop :=
  ∀ s : State, s.powered = true → DemandLawful s →
    let r := s.recov
    (r.state = .pregap → r.timer = some 0 → exec .pregapEnds s =
      .next ((s.onRecov fun r => { r with state := .pulse, timer := some r.pulseLen }).onBurner fun b =>
        { b with reset := true })) ∧
    (r.state = .pulse → r.timer = some 0 → exec .pulseEnds s =
      .next ((s.onRecov fun r => { r with state := .postgap, timer := some r.gapLen }).onBurner fun b =>
        { b with reset := false, gap := some r.gapLen })) ∧
    (r.state = .postgap → r.timer = some 0 → s.burner.lock.acc ≠ some false → exec .postgapEnds s =
      .next (s.onRecov fun r => { r with state := .checking, timer := some 15, spacing := some r.spacingTime })) ∧
    (r.state = .postgap → r.timer = some 0 → s.burner.lock.acc = some false → exec .postgapEnds s =
      .next (judgeDemand (s.onRecov fun r =>
        { r with state := .proving, timer := none, proving := 0, spacing := some r.spacingTime }))) ∧
    (r.state = .checking → r.timer = some 0 → exec .checkingExpires s =
      .next (s.onRecov fun r => { r with
        state := .cooling, timer := some r.coolOff
        log := r.log.map fun x => if x.outcome = .pending then { x with outcome := .ineffective } else x }))

/-- R106, R115: an attempt is proved by its firing seconds: its record closes, the episode ends, the NOTICE RECOVERED
carries the outcome PROVED and the cause of the pulse, and BOILER_OK goes to the thermostats. R113, R115: a claim ends
with its hold. Model's choices: log 2, log 47. -/
def Obligations.AttemptIsProvedAndClaimExpires : Prop :=
  ∀ s : State, s.powered = true →
    (s.recov.state = .proving → s.recov.provingTime ≤ s.recov.proving → ∃ t, exec .proved s = .next t ∧
      t.recov = { s.recov with
        state := .none, timer := none
        log := s.recov.log.map fun x => if x.outcome = .pending then { x with outcome := .proved } else x } ∧
      t.mgmt.attn &&& AttnBit.recovered.word ≠ 0 ∧ HeatAndRecoveryOnly s t ∧
      (∀ before x after, s.recov.log = before ++ x :: after → x.outcome = .pending →
        (∀ y ∈ before, y.outcome ≠ .pending) →
        t = postInternal .boilerOk (raise { bit := .recovered, code := 0x04, value1 := 1, value2 := x.cause.code }
          (recoveryEnters .none none (s.onRecov fun r => { r with
            log := r.log.map fun y => if y.outcome = .pending then { y with outcome := .proved } else y }))))) ∧
    (s.recov.state = .proving → s.recov.proving < s.recov.provingTime → exec .proved s = .next s) ∧
    (s.recov.hold = some 0 →
      let cleared := raise { bit := .claim, code := 0x0D, value1 := s.recov.side.code }
        (s.onRecov fun r => { r with word := 0, side := .none, hold := none })
      exec .claimHoldExpires s = .next (if s.recov.state = .due ∨ s.recov.state = .waitOil ∨ s.recov.state = .held ∨
        s.recov.state = .await then dueCheck cleared else cleared))

/-- R26, R111, R112: the claim operations of the house, and those of a service tool, answered by SVCANS.
Model's choices: log 3, log 4, log 42. -/
def Obligations.ClaimsAreOperated : Prop :=
  (∀ (r : HouseReq) (lo hi : Byte) (s : State), r.dest = 0 → r.params = [lo, hi] →
    let w : BitVec 16 := hi ++ lo
    let t := houseTaken s
    let held := w ≠ 0 ∧ w = s.recov.word
    (HouseTakes (houseFrame 0x0A r) s → exec (.claimSelect (.house r)) s =
      .next (if w = 0 then answered r.tag [5, 2] t
        else if s.recov.word = 0 then
          answered r.tag [2] (dueTrigger (t.onRecov fun c =>
            { c with word := w, side := .house, hold := some (c.holdTime * 60) }))
        else answered r.tag [3] t)) ∧
    (HouseTakes (houseFrame 0x0B r) s → exec (.claimTest (.house r)) s =
      .next (if held then answered r.tag [2] (t.onRecov fun c => { c with hold := some (c.holdTime * 60) })
        else answered r.tag [3] t)) ∧
    (HouseTakes (houseFrame 0x0C r) s → exec (.claimRelease (.house r)) s =
      .next (if held then
          answered r.tag [2] (dueTrigger (t.onRecov fun c => { c with word := 0, side := .none, hold := none }))
        else answered r.tag [3] t))) ∧
  (∀ (v : SvcReq) (lo hi x : Byte) (s : State), v.params = [lo, hi, x] →
    let w : BitVec 16 := hi ++ lo
    let held := w ≠ 0 ∧ w = s.recov.word
    let at_ (op : Byte) := fieldInHand (svcFrame op v) v.time s
    (ServiceTakes (svcFrame 0x0A v) s → exec (.claimSelect (.field v)) s =
      .next (if w = 0 then serviceAnswered (svcFrame 0x0A v) [5, 2] (at_ 0x0A)
        else if s.recov.word = 0 then
          serviceAnswered (svcFrame 0x0A v) [2] (dueTrigger ((at_ 0x0A).onRecov fun c =>
            { c with word := w, side := .field, hold := some (c.holdTime * 60) }))
        else serviceAnswered (svcFrame 0x0A v) [3] (at_ 0x0A))) ∧
    (ServiceTakes (svcFrame 0x0B v) s → exec (.claimTest (.field v)) s =
      .next (if held then
          serviceAnswered (svcFrame 0x0B v) [2] ((at_ 0x0B).onRecov fun c => { c with hold := some (c.holdTime * 60) })
        else serviceAnswered (svcFrame 0x0B v) [3] (at_ 0x0B))) ∧
    (ServiceTakes (svcFrame 0x0C v) s → exec (.claimRelease (.field v)) s =
      .next (if held then
          serviceAnswered (svcFrame 0x0C v) [2] (dueTrigger ((at_ 0x0C).onRecov fun c =>
            { c with word := 0, side := .none, hold := none }))
        else serviceAnswered (svcFrame 0x0C v) [3] (at_ 0x0C))))

/-- R103, R108 to R110, R114: the requests for a reset and CLEAR_HARD: the first row that applies answers, and an accepted
reset opens its record and enters PREGAP. Model's choices: log 3, log 4, log 42. -/
def Obligations.ResetsAreRequested : Prop :=
  ∀ (r : HouseReq) (v : SvcReq) (lo hi x : Byte) (s : State), r.dest = 0 → r.params = [] → v.params = [lo, hi, x] →
    let st := s.recov.state
    let busy := st = .pregap ∨ st = .pulse ∨ st = .postgap ∨ st = .checking ∨ st = .proving
    let noOil := s.gauge.band = .dry ∨ (s.gauge.band = .unknown ∧ s.recov.noGauge = false)
    let w : BitVec 16 := hi ++ lo
    let own := s.recov.side = .field ∧ w ≠ 0 ∧ w = s.recov.word
    let reset := fieldInHand (svcFrame 0x11 v) v.time s
    let cleared := fieldInHand (svcFrame 0x12 v) v.time s
    (HouseTakes (houseFrame 0x0D r) s → exec (.remoteReset r) s =
      .next (if st = .none then answered r.tag [5, 0x11] (houseTaken s)
        else if busy then answered r.tag [4] (houseTaken s)
        else if st = .hard then answered r.tag [5, 0x0F] (houseTaken s)
        else if st = .cooling then answered r.tag (5 :: 0x0C :: leBytes 2 (s.recov.timer.getD 0)) (houseTaken s)
        else if s.recov.side = .field then answered r.tag [5, 0x10] (houseTaken s)
        else if noOil then answered r.tag [5, 0x0D] (houseTaken s)
        else if s.recov.budgetMax ≤ s.recov.budget.length then answered r.tag [5, 0x0E] (houseTaken s)
        else answered r.tag [2] (beginPulse .house (addBudget s.clock (houseTaken s))))) ∧
    (ServiceTakes (svcFrame 0x11 v) s → exec (.serviceReset v) s =
      .next (if ¬own then serviceAnswered (svcFrame 0x11 v) [3] reset
        else if st = .none then serviceAnswered (svcFrame 0x11 v) [5, 0x11] reset
        else if busy then serviceAnswered (svcFrame 0x11 v) [4] reset
        else serviceAnswered (svcFrame 0x11 v) [2] (beginPulse .service reset))) ∧
    (ServiceTakes (svcFrame 0x12 v) s → exec (.clearHard v) s =
      .next (if ¬own then serviceAnswered (svcFrame 0x12 v) [3] cleared
        else if st = .none then serviceAnswered (svcFrame 0x12 v) [5, 0x11] cleared
        else if busy then serviceAnswered (svcFrame 0x12 v) [4] cleared
        else if st = .hard then
          serviceAnswered (svcFrame 0x12 v) [2] (dueCheck (cleared.onRecov fun c => { c with budget := [] }))
        else serviceAnswered (svcFrame 0x12 v) [3] cleared)) ∧
    (DemandLawful s → st ≠ .none → ¬busy → ∀ c, beginPulse c s = s.onRecov fun k => { k with
      state := .pregap, timer := some k.gapLen
      log := (if k.log.length < 16 then k.log else k.log.drop 1) ++
        [⟨s.clock, c, .pending, s.gauge.band, if s.gauge.band = .unknown then none else some s.gauge.litres⟩] })

/-! ### Tank gauge (07) and oil accounting (08) -/

/-- R119, R135: the timers of the gauge and the SUPPLY conversion of a sample. Model's choices: log 34. -/
def Obligations.SampleIsTimed : Prop :=
  ∀ s : State, s.powered = true →
    (s.gauge.sampleTimer = 0 → exec .sampleTimerExpires s = .next (s.onGauge fun g =>
      { g with sampleTimer := g.interval, conv := if g.conv = .idle then .supply else g.conv })) ∧
    (s.gauge.conv = .supply → ∀ count, exec (.supplyConversionDone count) s =
      .next (s.onGauge fun g => { g with conv := .tank count })) ∧
    (s.gauge.reportTimer = some 0 → exec .gaugeReportDue s = .next (s.onGauge fun g =>
      { g with reportTimer := none, reportDue := true }))

/-- R119 to R121, R127, R128: an invalid sample is stored in its counts, its kind is counted, it breaks the candidate
and settle runs and keeps S10 and the last n, h and V, and the third in a row sets the gauge fault, unsets the S flag
and makes the band UNKNOWN. R121, R135, R145, R150: the fault sets GAUGE with the invalid kind of that sample and adds
a GAUGE_FAULT record with the volume reportable just before, and the band change goes to every zone, the demand
conditions and the due check; the sample report changes nothing, so days to dry stays; a GAUGE report that is due
carries the invalid kind. R143: a due reconciliation is then taken, or stays marked. Model's choices: log 30, log 36. -/
def Obligations.InvalidSampleIsTaken : Prop :=
  ∀ (t c : BitVec 12) (s : State), s.powered = true → s.gauge.conv = .tank c → ∃ u,
    exec (.sampleTaken t) s = .next u ∧ u.gauge.conv = .idle ∧
    u.gauge.sampleCount = s.gauge.sampleCount + 1 ∧ u.gauge.lastT = some t.toNat ∧ u.gauge.lastS = some c.toNat ∧
    (let bad := (c.toNat < 2800 ∨ 3300 < c.toNat) ∨ t.toNat < 205 ∨ 3890 < t.toNat;
      (bad → u.gauge.candRun = 0 ∧ u.gauge.settleRun = 0 ∧ u.gauge.s10 = s.gauge.s10 ∧
        u.gauge.lastN = s.gauge.lastN ∧ u.gauge.lastH = s.gauge.lastH ∧ u.gauge.lastV = s.gauge.lastV ∧ u.gauge.validRun = (if s.gauge.fault then 0
          else if s.gauge.invalidRun < 2 then s.gauge.validRun else 0) ∧
        (s.gauge.fault = false → s.gauge.invalidRun < 2 →
          u.gauge.fault = false ∧ u.gauge.invalidRun = s.gauge.invalidRun + 1 ∧ u.gauge.band = s.gauge.band) ∧
        (s.gauge.fault = false → 2 ≤ s.gauge.invalidRun →
          u.gauge.fault = true ∧ u.gauge.sFlag = false ∧ u.gauge.band = .unknown ∧ u.gauge.rising = false ∧
          u.mgmt.attn &&& AttnBit.gauge.word ≠ 0)) ∧
      (bad →
        let g := (s.gauge.takeSample t.toNat c.toNat).1
        let kind : Nat := if c.toNat < 2800 ∨ 3300 < c.toNat then 1 else if t.toNat < 205 then 2 else 3
        let taken := s.onGauge fun _ => g
        let noticed := raise { bit := .gauge, code := 0x0A, value1 := kind } (taken.onOil fun o => { o with
          events := (if o.events.length < 16 then o.events else o.events.drop 1) ++
            [⟨.gaugeFault, s.clock, s.gauge.reported, none, 0, none⟩] })
        let told := if s.gauge.fault = false ∧ 2 ≤ s.gauge.invalidRun then
            (if s.gauge.band = .unknown then noticed else dueTrigger (judgeDemand (evaluateAll noticed)))
          else taken
        let sent := gaugeReported kind told
        let waiting := s.oil.based = true ∧ (s.oil.due = true ∨
          (s.oil.timerRuns = true ∧ s.oil.reconcileHours * 3600 ≤ age s.clock (s.oil.rebaseTime.getD 0)))
        (¬waiting → u = sent) ∧
        (waiting → (g.reported = none ∨ g.rising = true) →
          u = sent.onOil fun o => { o with due := true, timerRuns := false }) ∧
        (∀ v, waiting → g.reported = some v → g.rising = false → u.gauge = sent.gauge ∧
          u.oil.based = true ∧ u.oil.base = v ∧ u.oil.used = 0 ∧ u.oil.rebaseTime = some s.clock ∧ u.oil.due = false ∧
          u.oil.daysToDry = s.oil.daysToDry)) ∧
      (let satUp (k : Nat) := min 65535 (k + 1)
       let counted (a b d : Nat) := u.gauge.supplyFault = a ∧ u.gauge.openInput = b ∧ u.gauge.shortInput = d
       ((c.toNat < 2800 ∨ 3300 < c.toNat) →
          counted (satUp s.gauge.supplyFault) s.gauge.openInput s.gauge.shortInput) ∧
       (2800 ≤ c.toNat → c.toNat ≤ 3300 → t.toNat < 205 →
          counted s.gauge.supplyFault (satUp s.gauge.openInput) s.gauge.shortInput) ∧
       (2800 ≤ c.toNat → c.toNat ≤ 3300 → 3890 < t.toNat →
          counted s.gauge.supplyFault s.gauge.openInput (satUp s.gauge.shortInput))) ∧
      (¬bad → u.gauge.fault = (s.gauge.fault && decide (s.gauge.validRun < 2)) ∧
        u.gauge.lastN = some (min 4095 (t.toNat * 3000 / c.toNat)) ∧
        u.gauge.supplyFault = s.gauge.supplyFault ∧ u.gauge.openInput = s.gauge.openInput ∧
        u.gauge.shortInput = s.gauge.shortInput))

/-- R121, R122: a valid sample of a gauge without a table, or of one that stays in FAULT, sets the last n and h, with
a table V too, and counts in the valid run; nothing is handed on and nothing else changes. R121 to R123, R125 to R129:
a valid sample of a gauge with a table, not in FAULT or the third in a row to leave it, takes the level and the volume
and judges the band by the smoothed litres. The first one with the S flag unset sets S10 and the S flag; outside
RISING the volume is smoothed and watched for a rise; in RISING it is followed, until three settled samples end the
rise with a Rise event or, where nothing came, count it abandoned. R124: between two neighbouring points of a table
that rises, the volume is the interpolated one, and from the last point on it is the last. Model's choices: log 36. -/
def Obligations.ValidSampleIsSmoothed : Prop :=
  (∀ (t c : Nat) (g : Gauge), 2800 ≤ c → c ≤ 3300 → 205 ≤ t → t ≤ 3890 → (g.fault = false ∨ 2 ≤ g.validRun) →
    2 ≤ (strapPoints g.live).length →
    let n := min 4095 (t * 3000 / c)
    let h := if n ≤ g.zero then 0 else min 3000 ((n - g.zero) * g.scale / 1000)
    let v := volumeAt h (strapPoints g.live)
    let u := (g.takeSample t c).1
    let handed := (g.takeSample t c).2
    u.lastN = some n ∧ u.lastH = some h ∧ u.lastV = some v ∧ u.fault = false ∧ u.sFlag = true ∧ handed.invalid = none ∧
    (g.sFlag = false → u.s10 = 10 * v ∧ handed = { first := true } ∧ u.rising = g.rising ∧ u.candRun = g.candRun) ∧
    (g.sFlag = true → g.rising = false → handed = {} ∧
      (10 * v < g.s10 → u.s10 = g.s10 - (g.s10 - 10 * v) / 2 ^ g.shift) ∧
      (g.s10 ≤ 10 * v → u.s10 = g.s10 + (10 * v - g.s10) / 2 ^ g.shift) ∧
      (v < g.litres + g.delivery → u.candRun = 0 ∧ u.rising = false) ∧
      (g.litres + g.delivery ≤ v → g.candRun < 2 → u.candRun = g.candRun + 1 ∧ u.rising = false ∧
        (g.candRun = 0 → u.before = g.s10 / 10)) ∧
      (g.litres + g.delivery ≤ v → 2 ≤ g.candRun → u.rising = true ∧ u.settleRun = 0 ∧ u.peak = max g.candMax v)) ∧
    (g.sFlag = true → g.rising = true →
      let settle := if v ≤ g.peak + 5 then g.settleRun + 1 else 0
      u.s10 = 10 * v ∧ u.peak = max g.peak v ∧ u.settleRun = settle ∧
      (settle < 3 → u.rising = true ∧ handed = {}) ∧
      (3 ≤ settle → g.before < v → u.rising = false ∧ handed = { rise := some (g.before, v) } ∧
        u.riseAbandoned = g.riseAbandoned) ∧
      (3 ≤ settle → v ≤ g.before → u.rising = false ∧ handed = {} ∧
        u.riseAbandoned = min 65535 (g.riseAbandoned + 1))) ∧
    ((g.band = .normal ∨ g.band = .unknown) →
      u.band = (if u.s10 / 10 < g.dryT then .dry else if u.s10 / 10 < g.lowT then .low else .normal)) ∧
    (g.band = .low →
      u.band = (if u.s10 / 10 < g.dryT then .dry else if g.lowT + g.bandHyst ≤ u.s10 / 10 then .normal else .low)) ∧
    (g.band = .dry →
      u.band = (if g.lowT + g.bandHyst ≤ u.s10 / 10 then .normal else if g.dryT + g.bandHyst ≤ u.s10 / 10 then .low
        else .dry))) ∧
  (∀ (t c : Nat) (g : Gauge), 2800 ≤ c → c ≤ 3300 → 205 ≤ t → t ≤ 3890 →
    let tables := 2 ≤ (strapPoints g.live).length
    let stays := g.fault = true ∧ g.validRun < 2
    (¬tables ∨ stays) →
    let n := min 4095 (t * 3000 / c)
    let h := if n ≤ g.zero then 0 else min 3000 ((n - g.zero) * g.scale / 1000)
    g.takeSample t c = ({ g with
      conv := .idle, sampleCount := g.sampleCount + 1, lastT := some t, lastS := some c, lastN := some n, lastH := some h
      lastV := if tables then some (volumeAt h (strapPoints g.live)) else g.lastV
      fault := decide stays
      invalidRun := if stays then g.invalidRun else 0
      validRun := if stays then g.validRun + 1 else if g.fault then 0 else g.validRun }, {})) ∧
  (∀ (before after : List (Nat × Nat)) (p q : Nat × Nat) (h : Nat),
    (before ++ p :: q :: after).Pairwise (fun a b => a.1 < b.1) → p.1 ≤ h → h < q.1 →
    volumeAt h (before ++ p :: q :: after) = p.2 + (h - p.1) * (q.2 - p.2) / (q.1 - p.1)) ∧
  (∀ (before : List (Nat × Nat)) (p : Nat × Nat) (h : Nat),
    (before ++ [p]).Pairwise (fun a b => a.1 < b.1) → p.1 ≤ h → volumeAt h (before ++ [p]) = p.2)

/-- R121, R122, R135, R143, R145, R149: a valid sample of a gauge that reports no volume, for want of a table or in
FAULT, is handed on as one without a volume, with a GAUGE report that is due, and the third in a row hands a gauge
restore with the GAUGE bit first. R130, R135, R143, R145 to R147, R149, R151: what a valid sample of a gauge that
reports a volume hands on, after the restore where it is the third valid one in FAULT. A change of the band goes to
every zone, then to the demand conditions, then to the due check, and its notices follow; Oil Accounting takes the
sample, rebases at the first reportable one while UNBASED, reconciles at the first one while BASED (R144), tests the
idle checkpoint, takes a settled rise as a DELIVERY with a rebase, and takes a marked reconciliation last; a GAUGE
report that is due is offered, or dropped and counted at 15 frames. Model's choices: log 30, log 45. -/
def Obligations.SampleIsHandedOn : Prop :=
  (∀ (tank supply : BitVec 12) (s : State), s.powered = true → s.gauge.conv = .tank supply →
    2800 ≤ supply.toNat → supply.toNat ≤ 3300 → 205 ≤ tank.toNat → tank.toNat ≤ 3890 →
    (s.gauge.fault = false ∨ 2 ≤ s.gauge.validRun) → 2 ≤ (strapPoints s.gauge.live).length → 1 ≤ s.oil.reconcileHours →
    let g := (s.gauge.takeSample tank.toNat supply.toNat).1
    let handed := (s.gauge.takeSample tank.toNat supply.toNat).2
    let v := g.s10 / 10
    let taken := s.onGauge fun _ => g
    let sampled := if s.gauge.fault = true then
        raise { bit := .gauge, code := 0x0A, value1 := 4 } (taken.onOil fun u => { u with
          events := (if u.events.length < 16 then u.events else u.events.drop 1) ++
            [⟨.gaugeRestored, s.clock, none, none, 0, none⟩] })
      else taken
    let told := if g.band = s.gauge.band then sampled
      else (bandNotices (dueTrigger (judgeDemand (evaluateAll sampled)))).onGauge fun x => { x with lastBand := some g.band }
    let o := told.oil
    let keep := if o.events.length < 16 then o.events else o.events.drop 1
    let lost := o.armed = true ∧ ∃ c ∈ o.checkpoint, v + o.idleLoss ≤ c
    let waiting := o.based = true ∧
      (o.due = true ∨ (o.timerRuns = true ∧ o.reconcileHours * 3600 ≤ age s.clock (o.rebaseTime.getD 0)))
    let restarted : Option Nat := if g.reportMin = 0 then none else some (g.reportMin * 60)
    ∃ u, exec (.sampleTaken tank) s = .next u ∧
    u = { told with
      gauge := { told.gauge with
        reportDue := false, reportTimer := u.gauge.reportTimer, reportDropped := u.gauge.reportDropped }
      oil := u.oil, ports := { told.ports with houseTx := u.ports.houseTx }
      mgmt := { told.mgmt with attn := u.mgmt.attn, houseNoticeLost := u.mgmt.houseNoticeLost } } ∧
    (g.reportDue = false → u.gauge = told.gauge) ∧
    u.oil.daysToDry = (if o.ring.length = 0 then none else if v ≤ g.dryT then some 0 else if o.ring.sum = 0 then some 999
      else some (min 999 ((v - g.dryT) * 1000 * o.ring.length * 3600 / (o.ring.sum * o.nozzle)))) ∧
    (handed.first = true → o.based = false → u.oil.based = true ∧ u.oil.base = v ∧ u.oil.used = 0 ∧
      u.oil.remainder = 0 ∧ u.oil.firing = 0 ∧ u.oil.rebaseTime = some s.clock ∧ u.oil.due = false ∧
      u.oil.timerRuns = true) ∧
    (handed.first = true →
      let book := (o.base : Int) - ((o.used / 1000 : Nat) : Int)
      let runLost := o.based = true ∧ (v : Int) - book ≤ -(o.runLoss : Int)
      let delivered := o.based = true ∧ ¬runLost ∧ (o.deliveryLoss : Int) ≤ (v : Int) - book
      let add (l : List OilEvent) (e : OilEvent) := (if l.length < 16 then l else l.drop 1) ++ [e]
      let recorded := if runLost then add o.events ⟨.lossRun, s.clock, some book.toNat, some v, (book - v).toNat, none⟩
        else if delivered then
          add o.events ⟨.delivery, s.clock, some book.toNat, some v, v - book.toNat, some .reconcile⟩
        else o.events
      let moved := if delivered then o.checkpoint.map fun _ => v else o.checkpoint
      u.oil.based = true ∧ u.oil.base = v ∧ u.oil.used = 0 ∧ u.oil.remainder = 0 ∧ u.oil.firing = 0 ∧
      u.oil.rebaseTime = some s.clock ∧ u.oil.due = false ∧ u.oil.timerRuns = true ∧
      u.oil.observed = (if o.based = true ∧ 3600 ≤ o.firing ∧ v < o.base then
        some (min 65535 ((o.base - v) * 1000 * 3600 / o.firing)) else o.observed) ∧
      (runLost → u.mgmt.attn &&& AttnBit.loss.word ≠ 0) ∧ (delivered → u.mgmt.attn &&& AttnBit.delivery.word ≠ 0) ∧
      (o.armed = true → moved = none → u.oil.checkpoint = some v ∧ u.oil.events = recorded) ∧
      (∀ c, o.armed = true → moved = some c → c < v + o.idleLoss → u.oil.checkpoint = some c ∧ u.oil.events = recorded) ∧
      (∀ c, o.armed = true → moved = some c → v + o.idleLoss ≤ c → u.oil.checkpoint = none ∧
        u.oil.events = add recorded ⟨.lossIdle, s.clock, some c, some v, c - v, none⟩ ∧
        u.mgmt.attn &&& AttnBit.loss.word ≠ 0) ∧
      (o.armed = false → u.oil.checkpoint = none ∧ u.oil.events = recorded)) ∧
    (∀ b a c, handed.rise = some (b, a) → o.armed = true → o.checkpoint = some c → v + o.idleLoss ≤ c →
      let looked := keep ++ [⟨.lossIdle, s.clock, some c, some v, c - v, none⟩]
      u.oil.events = (if looked.length < 16 then looked else looked.drop 1) ++
        [⟨.delivery, s.clock, some b, some a, a - b, some .rise⟩] ∧ u.oil.based = true ∧ u.oil.base = a ∧
      u.oil.used = 0 ∧ u.oil.remainder = 0 ∧ u.oil.firing = 0 ∧ u.oil.rebaseTime = some s.clock ∧ u.oil.due = false ∧
      u.oil.timerRuns = true ∧ u.oil.checkpoint = none ∧ u.mgmt.attn &&& AttnBit.loss.word ≠ 0 ∧
      u.mgmt.attn &&& AttnBit.delivery.word ≠ 0) ∧
    (∀ b a, handed.rise = some (b, a) → ¬lost →
      u.oil.events = keep ++ [⟨.delivery, s.clock, some b, some a, a - b, some .rise⟩] ∧ u.oil.based = true ∧
      u.oil.base = a ∧ u.oil.used = 0 ∧ u.oil.remainder = 0 ∧ u.oil.firing = 0 ∧ u.oil.rebaseTime = some s.clock ∧
      u.oil.due = false ∧ u.oil.timerRuns = true ∧ u.oil.checkpoint = (if o.armed = true then some a else none) ∧
      u.mgmt.attn &&& AttnBit.delivery.word ≠ 0) ∧
    (handed.first = false → handed.rise = none → ¬waiting → ∀ c, o.armed = true → o.checkpoint = some c →
      v + o.idleLoss ≤ c →
      u.oil = { o with
        events := keep ++ [⟨.lossIdle, s.clock, some c, some v, c - v, none⟩], checkpoint := none
        daysToDry := u.oil.daysToDry } ∧
      u.mgmt.attn &&& AttnBit.loss.word ≠ 0) ∧
    (handed.first = false → handed.rise = none → ¬waiting → ¬lost →
      u.oil = { o with
        checkpoint := if o.armed = true then some (o.checkpoint.getD v) else none, daysToDry := u.oil.daysToDry } ∧
      u.mgmt = told.mgmt ∧ (g.reportDue = false → u.ports = told.ports) ∧
      (g.reportDue = true → told.ports.houseTx.length < 15 →
        u.gauge.reportTimer = restarted ∧ u.gauge.reportDropped = g.reportDropped ∧
        ∃ h w, g.lastH = some h ∧ g.lastV = some w ∧
          u.ports.houseTx = told.ports.houseTx ++ [{ frame :=
            { dest := 62, source := 0, kind := 0x35, tag := 0
              payload := leBytes 2 tank.toNat ++ leBytes 2 supply.toNat ++ leBytes 2 h ++ leBytes 2 w ++ leBytes 2 v ++
                [BitVec.ofNat 8 g.band.code, (if g.rising = true then 14 else 10), 0] } }]) ∧
      (g.reportDue = true → 15 ≤ told.ports.houseTx.length →
        u.gauge.reportTimer = restarted ∧ u.gauge.reportDropped = min 65535 (g.reportDropped + 1) ∧
        u.ports = told.ports)) ∧
    (o.based = true → o.due = true → g.rising = false → g.candRun = 0 → handed.first = false →
      u.oil.based = true ∧ u.oil.base = v ∧ u.oil.used = 0 ∧ u.oil.remainder = 0 ∧ u.oil.firing = 0 ∧
      u.oil.rebaseTime = some s.clock ∧ u.oil.due = false ∧ u.oil.timerRuns = true)) ∧
  (∀ (tank supply : BitVec 12) (s : State), s.powered = true → s.gauge.conv = .tank supply →
    2800 ≤ supply.toNat → supply.toNat ≤ 3300 → 205 ≤ tank.toNat → tank.toNat ≤ 3890 →
    let tables := 2 ≤ (strapPoints s.gauge.live).length
    let stays := s.gauge.fault = true ∧ s.gauge.validRun < 2
    (¬tables ∨ stays) →
    let taken := s.onGauge fun _ => (s.gauge.takeSample tank.toNat supply.toNat).1
    let told := if s.gauge.fault = true ∧ ¬stays then
        raise { bit := .gauge, code := 0x0A, value1 := 4 } (taken.onOil fun u => { u with
          events := (if u.events.length < 16 then u.events else u.events.drop 1) ++
            [⟨.gaugeRestored, s.clock, none, none, 0, none⟩] })
      else taken
    let waiting := s.oil.based = true ∧ (s.oil.due = true ∨
      (s.oil.timerRuns = true ∧ s.oil.reconcileHours * 3600 ≤ age s.clock (s.oil.rebaseTime.getD 0)))
    exec (.sampleTaken tank) s = .next ((gaugeReported 0 told).onOil fun u => { u with
      daysToDry := none
      due := if waiting then true else u.due, timerRuns := if waiting then false else u.timerRuns })) ∧
  (∀ u : State,
    let litres := u.gauge.s10 / 10
    (u.gauge.band = .low → u.gauge.lastBand ≠ some .low → bandNotices u =
      postInternal .oilLow (raise { bit := .oilLow, code := 0x06, value1 := litres } u)) ∧
    (u.gauge.band = .dry → u.gauge.lastBand ≠ some .dry → bandNotices u =
      postInternal .oilDry (raise { bit := .oilDry, code := 0x07, value1 := litres } u)) ∧
    (u.gauge.band = .normal → (u.gauge.lastBand = some .low ∨ u.gauge.lastBand = some .dry) →
      bandNotices u = postInternal .oilOk u) ∧
    ((some u.gauge.band = u.gauge.lastBand ∨ (u.gauge.band = .normal ∧ u.gauge.lastBand = none) ∨
      u.gauge.band = .unknown) → bandNotices u = u))

/-- R133, R134, R142: COMMIT_STRAP refuses a table of fewer than two points or out of order and otherwise puts it in force,
the band UNKNOWN and the accounts UNBASED; DISCARD_STRAP copies the live table and changes nothing else, or is answered BUSY.
Model's choices: log 3, log 13, log 15, log 42. -/
def Obligations.StrappingTableIsCommitted : Prop :=
  ∀ (r : HouseReq) (s : State), r.dest = 0 → r.params = [] →
    (s.store.save ≠ none → HouseTakes (houseFrame 0x04 r) s →
      exec (.discardStrap r) s = .next (answered r.tag [4] (houseTaken s))) ∧
    (s.store.save = none →
      let ps := strapPoints s.gauge.pend
      (HouseTakes (houseFrame 0x04 r) s → exec (.discardStrap r) s =
        .next (answered r.tag [0] ((houseTaken s).onGauge fun g => { g with pend := g.live }))) ∧
      (HouseTakes (houseFrame 0x03 r) s → ps.length < 2 →
        exec (.commitStrap r) s = .next (answered r.tag [5, 0x12] (houseTaken s))) ∧
      (HouseTakes (houseFrame 0x03 r) s → ∀ p rest, ps = p :: rest → 1 ≤ rest.length → p.1 ≠ 0 →
        exec (.commitStrap r) s = .next (answered r.tag [5, 0x13, 0] (houseTaken s))) ∧
      (HouseTakes (houseFrame 0x03 r) s → ∀ before a b after, ps = before ++ a :: b :: after →
        ps.head?.map (·.1) = some 0 → (before ++ [a]).Pairwise (fun x y => x.1 < y.1 ∧ x.2 < y.2) →
        (b.1 ≤ a.1 ∨ b.2 ≤ a.2) →
        exec (.commitStrap r) s =
          .next (answered r.tag [5, 0x13, BitVec.ofNat 8 (before.length + 1)] (houseTaken s))) ∧
      (HouseTakes (houseFrame 0x03 r) s → 2 ≤ ps.length → ps.head?.map (·.1) = some 0 →
        ps.Pairwise (fun x y => x.1 < y.1 ∧ x.2 < y.2) → ∃ t, exec (.commitStrap r) s = .next t ∧
        strapPoints t.gauge.live = ps ∧ t.gauge.pend = t.gauge.live ∧
        t.gauge.live.length = s.gauge.pend.length ∧
        (∀ i e, s.gauge.pend[i]? = some e → ps.length ≤ i → t.gauge.live[i]? = some { e with depth := none }) ∧
        t.gauge.band = .unknown ∧ t.gauge.sFlag = false ∧ t.gauge.rising = false ∧
        t.oil.based = false ∧ t.oil.timerRuns = false ∧ t.oil.due = false ∧
        t = { s with
          gauge := t.gauge, zones := t.zones, rot := t.rot, burner := t.burner, recov := t.recov, oil := t.oil
          postbox := t.postbox, ports := { s.ports with houseRx := t.ports.houseRx, houseTx := t.ports.houseTx }
          mgmt := { s.mgmt with attn := t.mgmt.attn, houseNoticeLost := t.mgmt.houseNoticeLost } } ∧
        t.ports.houseTx.getLast?.map (·.frame) =
          some { dest := 62, source := 0, kind := 0x33, tag := r.tag, payload := [0] }))

/-- R131, R135, R143: the writes of the gauge and accounting settings that are events: the thresholds in order with the
band judged afresh, the report interval, and the reconcile interval judged against the time since the rebase.
Model's choices: log 3, log 24. -/
def Obligations.GaugeSettingIsWritten : Prop :=
  ∀ (tag b : Byte) (v : BitVec 16) (s : State), s.store.save = none →
    let t := houseTaken s
    let n := v.toNat
    let low := v.toNat % 256
    let m := b.toNat
    let old := s.gauge.band
    let judged (u : State) :=
      if u.gauge.state = .valid ∧ u.gauge.sFlag = true then
        handBand old (u.onGauge fun g =>
          let litres := g.s10 / 10
          { g with band :=
              if old = .low then
                (if litres < g.dryT then .dry else if g.lowT + g.bandHyst ≤ litres then .normal else .low)
              else if old = .dry then
                (if g.lowT + g.bandHyst ≤ litres then .normal else if g.dryT + g.bandHyst ≤ litres then .low else .dry)
              else if litres < g.dryT then .dry else if litres < g.lowT then .low else .normal })
      else u
    (HouseTakes (writeFrame tag 0x20A (leBytes 2 n)) s → exec (.bandThresholdWrite tag .dry v) s =
      .next (if s.gauge.lowT ≤ n then answered tag [5, 2, 0] t
        else answered tag [0] (judged (t.onGauge fun g => { g with dryT := n })))) ∧
    (HouseTakes (writeFrame tag 0x20C (leBytes 2 n)) s → exec (.bandThresholdWrite tag .low v) s =
      .next (if n ≤ s.gauge.dryT then answered tag [5, 2, 0] t
        else answered tag [0] (judged (t.onGauge fun g => { g with lowT := n })))) ∧
    (HouseTakes (writeFrame tag 0x207 [BitVec.ofNat 8 n]) s → exec (.bandThresholdWrite tag .hysteresis v) s =
      .next (answered tag (numericAnswer 1 low (nearest 0 100 low))
        (judged (t.onGauge fun g => { g with bandHyst := nearest 0 100 low })))) ∧
    (HouseTakes (writeFrame tag 0x009 [b]) s → exec (.gaugeReportIntervalWrite tag b) s =
      .next (answered tag (numericAnswer 1 m (nearest 0 60 m)) (t.onGauge fun g =>
        { g with
          reportMin := nearest 0 60 m, reportDue := g.reportDue && decide (m ≠ 0)
          reportTimer := if m = 0 then none else some (nearest 0 60 m * 60) }))) ∧
    (HouseTakes (writeFrame tag 0x2E2 [b]) s →
      let stored := t.onOil fun o => { o with reconcileHours := nearest 1 24 m }
      let since := match s.oil.rebaseTime with
        | some x => age s.clock x
        | none => age s.clock 0
      exec (.reconcileIntervalWrite tag b) s = .next (answered tag (numericAnswer 1 m (nearest 1 24 m))
        (if s.oil.based = true ∧ nearest 1 24 m * 3600 ≤ since then reconcileOrMark stored else stored)))

/-- R139, R141, R143, R144, R148, R150: a reconcile timer that has run out marks a reconciliation due where no volume is
reportable or a rise is watched, and otherwise records a loss or a delivery, judges the observed rate, brings a
standing checkpoint to a delivery's volume and rebases the accounts; the daily ring takes
the day's firing seconds. Model's choices: log 11. -/
def Obligations.ReconciliationAndDailyRoll : Prop :=
  ∀ s : State, s.powered = true →
    (∀ x, s.oil.based = true → s.oil.timerRuns = true → s.oil.rebaseTime = some x →
      s.oil.reconcileHours * 3600 ≤ age s.clock x →
      ((s.gauge.reported = none ∨ s.gauge.rising = true ∨ 0 < s.gauge.candRun) →
        exec .reconcileTimerExpires s = .next (s.onOil fun o => { o with due := true, timerRuns := false })) ∧
      (∀ v, s.gauge.reported = some v → s.gauge.rising = false → s.gauge.candRun = 0 → ∃ t,
        exec .reconcileTimerExpires s = .next t ∧
        (let book := (s.oil.base : Int) - ((s.oil.used / 1000 : Nat) : Int)
         let keep := if s.oil.events.length < 16 then s.oil.events else s.oil.events.drop 1
        ((v : Int) - book ≤ -(s.oil.runLoss : Int) →
          t.oil.events = keep ++ [⟨.lossRun, s.clock, some book.toNat, some v, (book - v).toNat, none⟩] ∧
          t.mgmt.attn &&& AttnBit.loss.word ≠ 0) ∧
        (-(s.oil.runLoss : Int) < (v : Int) - book → (s.oil.deliveryLoss : Int) ≤ (v : Int) - book →
          t.oil.events =
            keep ++ [⟨.delivery, s.clock, some book.toNat, some v, v - book.toNat, some .reconcile⟩] ∧
          t.mgmt.attn &&& AttnBit.delivery.word ≠ 0) ∧
        (-(s.oil.runLoss : Int) < (v : Int) - book → (v : Int) - book < (s.oil.deliveryLoss : Int) →
          t.oil.events = s.oil.events ∧ t.mgmt = s.mgmt)) ∧
        t.oil.observed = (if 3600 ≤ s.oil.firing ∧ v < s.oil.base then
            some (min 65535 ((s.oil.base - v) * 1000 * 3600 / s.oil.firing)) else s.oil.observed) ∧
        t.oil.checkpoint = (if s.oil.checkpoint ≠ none ∧ (s.oil.deliveryLoss : Int) ≤ (v : Int) -
              ((s.oil.base : Int) - ((s.oil.used / 1000 : Nat) : Int)) ∧
            -(s.oil.runLoss : Int) < (v : Int) - ((s.oil.base : Int) - ((s.oil.used / 1000 : Nat) : Int)) then some v
          else s.oil.checkpoint) ∧
        t.oil.based = true ∧ t.oil.base = v ∧ t.oil.used = 0 ∧ t.oil.remainder = 0 ∧ t.oil.firing = 0 ∧
        t.oil.rebaseTime = some s.clock ∧ t.oil.due = false ∧ t.oil.timerRuns = true ∧
        t = { s with
          oil := t.oil, ports := { s.ports with houseTx := t.ports.houseTx }
          mgmt := { s.mgmt with attn := t.mgmt.attn, houseNoticeLost := t.mgmt.houseNoticeLost } })) ∧
    (s.oil.rollDue = true → exec (.dailyRingRoll false) s = .next (s.onOil fun o =>
      { o with ring := o.today :: o.ring.take 6, today := 0, rollDue := false })) ∧
    (s.oil.rollDue = true → s.clock.toNat % 86400 = 0 → s.rot.lastFiring = some s.clock → 0 < s.oil.today →
      exec (.dailyRingRoll true) s = .next (s.onOil fun o =>
        { o with ring := (o.today - 1) :: o.ring.take 6, today := 1, rollDue := false }))

/-! ### Postbox (09) -/

/-- R153, R154, R155: a POST is refused for the first row that applies; otherwise it supersedes the device's post of its
kind, refreshes a house NOTICE of its code, or joins the pool; a post added or superseded takes the first tag, from the tag
counter on, that no other post of the device holds, and the counter becomes the tag after it.
Model's choices: log 3, log 42. -/
def Obligations.HousePostIsTaken : Prop :=
  ∀ (r : HouseReq) (d kind lo hi minutes wait : Byte) (s : State), HouseTakes (houseFrame 0x08 r) s → r.dest = 0 →
    r.params = [d, kind, lo, hi, minutes, wait] →
    let value := lo.toNat + 256 * hi.toNat
    let expiry : Clock := s.clock + BitVec.ofNat 32 (minutes.toNat * 60)
    let held := s.postbox.posts.filter fun p => decide (p.dest = d)
    let valid := ((kind = 1 ∧ value ≤ 300) ∨ (kind = 2 ∧ value ≤ 1) ∨ (kind = 3 ∧ 0x40 ≤ value ∧ value ≤ 0x7F)) ∧
      1 ≤ minutes ∧ minutes ≤ 240 ∧ wait ≤ 1
    let named : PostKind := if kind = 1 then .setpoint else if kind = 2 then .mode else .notice
    let refusal : Option Byte :=
      if d = 0 ∨ 62 ≤ d then some 0x01
      else if ¬valid then some 0x02
      else match lookup d s with
        | none => some 0x0B
        | some e =>
          if e.cls = .blocked then some 0x0A
          else if e.cls ≠ .room then some 0x08
          else if e.guard = true ∧ s.recov.side = .field then some 0x09
          else none
    (∀ reason, refusal = some reason → exec (.post r) s = .next (answered r.tag [5, reason] (houseTaken s))) ∧
    (refusal = none →
      (∀ before p after, s.postbox.posts = before ++ p :: after → p.dest = d → p.kind = named → kind ≠ 3 →
        (∀ q ∈ before, ¬(q.dest = d ∧ q.kind = named)) → ∃ tag, tag < 16 ∧
        (held.length ≤ 4 → TagTaken (before ++ after) d s.postbox.tagCounter tag) ∧
        exec (.post r) s = .next (answered r.tag [2, BitVec.ofNat 8 tag]
          ((if p.wait then
              raise { bit := .post, code := 0x0C, subject := d.toNat, value1 := p.tag, value2 := 4 } (houseTaken s)
            else houseTaken s).onPostbox fun b => { b with
            posts := before ++ { p with
              value := value, tag := tag, expiry := expiry, wait := decide (wait = 1), internal := false
              attempts := 0, outstanding := false } :: after
            tagCounter := (tag + 1) % 16 }))) ∧
      (∀ before p after, s.postbox.posts = before ++ p :: after → kind = 3 → p.dest = d → p.kind = .notice →
        p.internal = false → p.value = value →
        (∀ q ∈ before, ¬(q.dest = d ∧ q.kind = .notice ∧ q.internal = false ∧ q.value = value)) →
        exec (.post r) s = .next (answered r.tag [2, BitVec.ofNat 8 p.tag]
          ((houseTaken s).onPostbox fun b => { b with
            posts := before ++ { p with expiry := expiry, wait := p.wait || decide (wait = 1) } :: after }))) ∧
      ((∀ p ∈ held, (kind ≠ 3 → p.kind ≠ named) ∧
          (kind = 3 → ¬(p.kind = .notice ∧ p.internal = false ∧ p.value = value))) →
        (4 ≤ held.length → exec (.post r) s = .next (answered r.tag [5, 0x07] (houseTaken s))) ∧
        (held.length < 4 → 24 ≤ s.postbox.posts.length →
          exec (.post r) s = .next (answered r.tag [5, 0x06] (houseTaken s))) ∧
        (held.length < 4 → s.postbox.posts.length < 24 → ∃ tag,
          TagTaken s.postbox.posts d s.postbox.tagCounter tag ∧
          exec (.post r) s = .next (answered r.tag [2, BitVec.ofNat 8 tag]
            ((houseTaken s).onPostbox fun b => { b with
              posts := b.posts ++ [
                { dest := d, tag := tag, kind := named, value := value, internal := false
                  wait := decide (wait = 1), posted := s.clock, expiry := expiry }]
              tagCounter := (tag + 1) % 16 })))))

/-- R156, R164, R165: a WITHDRAW takes the house post it names or answers ABORT; a post at its expiry leaves the pool. Each
end of a post with its wait flag set raises POST. Model's choices: log 3, log 26, log 42. -/
def Obligations.PostIsWithdrawnOrExpires : Prop :=
  ∀ (before after : List Post) (p : Post) (s : State), s.powered = true → s.postbox.posts = before ++ p :: after →
    let ended (code : Nat) (u : State) : State :=
      let removed := u.onPostbox fun b => { b with posts := before ++ after }
      if p.wait then
        raise { bit := .post, code := 0x0C, subject := p.dest.toNat, value1 := p.tag, value2 := code } removed
      else removed
    (∀ (r : HouseReq) (d tag : Byte), HouseTakes (houseFrame 0x09 r) s → r.dest = 0 → r.params = [d, tag] →
      (p.dest = d → p.tag = tag.toNat → p.internal = false →
        (∀ q ∈ before, ¬(q.dest = d ∧ q.tag = tag.toNat ∧ q.internal = false)) →
        exec (.withdraw r) s = .next (answered r.tag [0] (ended 3 (houseTaken s)))) ∧
      ((∀ q ∈ s.postbox.posts, ¬(q.dest = d ∧ q.tag = tag.toNat ∧ q.internal = false)) →
        exec (.withdraw r) s = .next (answered r.tag [3] (houseTaken s)))) ∧
    ((∀ q ∈ before, ¬(q.dest = p.dest ∧ q.tag = p.tag)) →
      ((age p.expiry s.clock = 0 ∨ 14400 < age p.expiry s.clock) →
        exec (.postExpires p.dest p.tag) s = .next (ended 2 s)) ∧
      (1 ≤ age p.expiry s.clock → age p.expiry s.clock ≤ 14400 → exec (.postExpires p.dest p.tag) s = .next s))

/-- R157: an internal notice goes to the address in every slot of the enabled zones, in zone number order, slot 1 before
slot 2. R158: a notice that cancels earlier ones removes every unsent one of them of the device, and is then not stored.
R157, R159: otherwise an unsent notice of its code is removed and the new one added at the tail; without one it finds a
place where the device holds fewer than 4 posts and the pool fewer than 24, or takes that of the oldest internal notice
of the device, or of the pool, that is not outstanding, or is lost and counted. R153: its tag.
Model's choices: log 40. -/
def Obligations.InternalNoticesArePosted : Prop :=
  (∀ (n : Internal) (now : Clock) (d : Byte) (b : Postbox), (b.posts.filter fun p => decide (p.dest = d)).length ≤ 4 →
    let t := b.notify n now d
    let cancels : List Nat := if n = .boilerOk then [1, 3] else if n = .oilOk then [4, 5] else []
    let own := (b.posts.filter fun p => decide (p.dest = d)).length
    let addedTo (posts : List Post) : Prop := ∃ tag, TagTaken posts d b.tagCounter tag ∧ t = { b with
      posts := posts ++ [
        { dest := d, tag := tag, kind := .notice, value := n.code, internal := true, wait := false
          posted := now, expiry := now + 14400 }]
      tagCounter := (tag + 1) % 16 }
    let stored := (∀ p ∈ b.posts, ¬UnsentNotice d cancels p) ∧ (∀ p ∈ b.posts, ¬UnsentNotice d [n.code] p)
    let lost := t = { b with noticeLost := min 65535 (b.noticeLost + 1) }
    ((∃ p ∈ b.posts, UnsentNotice d cancels p) →
      t = { b with posts := b.posts.filter fun p => decide (¬UnsentNotice d cancels p) }) ∧
    (∀ before p after, (∀ q ∈ b.posts, ¬UnsentNotice d cancels q) → b.posts = before ++ p :: after →
      UnsentNotice d [n.code] p → (∀ q ∈ before, ¬UnsentNotice d [n.code] q) → addedTo (before ++ after)) ∧
    (stored → own < 4 → b.posts.length < 24 → addedTo b.posts) ∧
    (∀ before p after, stored → own < 4 → 24 ≤ b.posts.length → b.posts = before ++ p :: after →
      p.internal = true → p.outstanding = false → (∀ q ∈ before, ¬(q.internal = true ∧ q.outstanding = false)) →
      addedTo (before ++ after)) ∧
    (∀ before p after, stored → own = 4 → b.posts = before ++ p :: after → p.dest = d →
      p.internal = true → p.outstanding = false →
      (∀ q ∈ before, ¬(q.dest = d ∧ q.internal = true ∧ q.outstanding = false)) → addedTo (before ++ after)) ∧
    (stored → own = 4 → (∀ q ∈ b.posts, q.dest = d → q.internal = true → q.outstanding = true) → lost) ∧
    (stored → own < 4 → 24 ≤ b.posts.length → (∀ q ∈ b.posts, q.internal = true → q.outstanding = true) → lost)) ∧
  (∀ (n : Internal) (s : State),
    let bound := (List.finRange 8).flatMap fun i =>
      if (s.zone i).enabled then [(s.zone i).slot1.addr, (s.zone i).slot2.addr].filterMap id else []
    postInternal n s = { s with postbox := bound.foldl (fun b d => b.notify n s.clock d) s.postbox })

/-! ### House management (10) -/

/-- R170, R175, R176, R26: READ, STATUS and LOG_READ answer from the state and change nothing but the queues of the
two lines. A refused READ is answered with an empty payload. R16, R150, R114, R153, R185, R186: table space holds
every field of 12.6 at its address, absent values in their encodings, and the records of LOG_READ and the bytes of
STATUS are those of 12.4 and 12.5. Model's choices: log 3, log 4, log 7, log 15, log 30, log 35. -/
def Obligations.ReadingRequestsAnswer : Prop :=
  ∀ (r : HouseReq) (v : SvcReq) (lo hi count listing index : Byte) (s : State), r.dest = 0 →
    let start := lo.toNat + 256 * hi.toNat
    let bytes := if count = 0 ∨ 16 < count ∨ 0x3FF < start + count.toNat - 1 then []
      else ((tableSpace s).drop start).take count.toNat
    let t := houseTaken s
    (HouseTakes (houseFrame 0x01 r) s → r.params = [lo, hi, count] →
      exec (.read (.house r)) s = .next (answered r.tag bytes t)) ∧
    (ServiceTakes (svcFrame 0x01 v) s → v.params = [lo, hi, count] →
      exec (.read (.field v)) s =
        .next (serviceAnswered (svcFrame 0x01 v) bytes (fieldInHand (svcFrame 0x01 v) v.time s))) ∧
    (s.cls.entries.length = 16 → s.gauge.live.length = 24 → s.gauge.pend.length = 24 → TableShown s) ∧
    (HouseTakes (houseFrame 0x10 r) s → r.params = [] → ∃ payload, payload.length = 15 ∧
      exec (.status r) s = .next (answered r.tag payload t) ∧ payload.take 3 = 0 :: leBytes 2 s.mgmt.attn.toNat ∧
      payload.getD 3 0 = BitVec.ofNat 8 s.burner.state.code ∧ payload.getD 4 0 = BitVec.ofNat 8 s.recov.state.code ∧
      payload.getD 5 0 = BitVec.ofNat 8 s.gauge.band.code ∧ payload.getD 6 0 = gaugeByteShown s.gauge ∧
      (payload.drop 7).take 2 = leBytes 2 (s.gauge.reported.getD 0xFFFF) ∧
      (payload.drop 9).take 2 = leBytes 2 (s.oil.daysToDry.getD 0xFFFF) ∧
      (∀ i : Fin 8, (payload.getD 11 0).getLsbD i.val = s.rot.grants.any fun g => g.zone = i) ∧
      (∀ i : Fin 8, (payload.getD 12 0).getLsbD i.val = decide ((s.zone i).state = .calling ∨ (s.zone i).state = .frost ∨
        (s.zone i).state = .fallbackOn)) ∧
      payload.getD 13 0 = BitVec.ofNat 8 (s.recov.side.code + 4 * (decide (s.recov.word ≠ 0)).toNat +
        128 * s.store.save.isSome.toNat) ∧
      payload.getD 14 0 = BitVec.ofNat 8 s.postbox.posts.length) ∧
    (HouseTakes (houseFrame 0x0F r) s → r.params = [listing, index] →
      let shows (count : Nat) (record : List Byte) :=
        exec (.logRead r) s = .next (answered r.tag (0 :: BitVec.ofNat 8 count :: record) t)
      (listing = 0 → s.recov.log.length ≤ index.toNat → shows s.recov.log.length []) ∧
      (∀ x, listing = 0 → s.recov.log[index.toNat]? = some x → shows s.recov.log.length
        (leBytes 4 x.begin.toNat ++ [BitVec.ofNat 8 (x.cause.code + 16 * x.outcome.code), BitVec.ofNat 8 x.band.code] ++
          leBytes 2 (x.litres.getD 0xFFFF))) ∧
      (listing = 1 → s.oil.events.length ≤ index.toNat → shows s.oil.events.length []) ∧
      (∀ x, listing = 1 → s.oil.events[index.toNat]? = some x → ∃ source : Nat, source ≤ 1 ∧
        (∀ y, x.source = some y → source = y.code) ∧ shows s.oil.events.length
          (BitVec.ofNat 8 (x.kind.code + 8 * source + 16 * x.source.isSome.toNat + 32 * x.before.isSome.toNat +
              64 * x.after.isSome.toNat) :: leBytes 4 x.time.toNat ++ leBytes 2 (x.before.getD 0xFFFF) ++
            leBytes 2 (x.after.getD 0xFFFF) ++ leBytes 2 x.amount)) ∧
      (listing = 2 → s.postbox.posts.length ≤ index.toNat → shows s.postbox.posts.length []) ∧
      (∀ x, listing = 2 → s.postbox.posts[index.toNat]? = some x → x.tag < 16 → shows s.postbox.posts.length
        (x.dest :: BitVec.ofNat 8 (x.tag + 16 * x.kind.code + 64 * x.internal.toNat + 128 * x.wait.toNat) ::
          leBytes 2 x.value ++ BitVec.ofNat 8 (x.attempts + 4 * x.outstanding.toNat) :: leBytes 4 x.posted.toNat ++
            leBytes 4 x.expiry.toNat)) ∧
      (2 < listing → exec (.logRead r) s = .next (answered r.tag [5, 2] t)))

/-- R26, R168, R169: a request whose operation its side does not have is REFUSED UNKNOWN_OP, one of the house without
a payload REFUSED LENGTH and one to another destination REFUSED ADDRESS, and a house frame of another kind than MGMT
and PASS is dropped and counted. R169: each named operation of the house is REFUSED ADDRESS at another destination,
and REFUSED LENGTH where its parameters are fewer or more than 12.4 gives it, a READ with an empty payload (R170).
Nothing else changes. R10: while FDE is asserted no SVC frame arrives. Model's choices: log 3, log 4, log 35. -/
def Obligations.UnknownRequestsAreTurnedAway : Prop :=
  ∀ (r : HouseReq) (v : SvcReq) (op : Byte) (ps : List Byte) (f : Frame) (s : State),
    (HouseTakes (houseBare r) s → r.dest = 0 → r.params = op :: ps → (op = 0 ∨ 0x10 < op) →
      exec (.unknownOp (.house r)) s = .next (answered r.tag [5, 5] (houseTaken s))) ∧
    (HouseTakes (houseBare r) s → r.dest = 0 → r.params = [] →
      exec (.unknownOp (.house r)) s = .next (answered r.tag [5, 4] (houseTaken s))) ∧
    (HouseTakes (houseBare r) s → r.dest ≠ 0 →
      exec (.unknownOp (.house r)) s = .next (answered r.tag [5, 1] (houseTaken s))) ∧
    (ServiceTakes (svcBare v) s → v.params = op :: ps →
      op ∉ ([0x01, 0x0A, 0x0B, 0x0C, 0x11, 0x12] : List Byte) → exec (.unknownOp (.field v)) s =
        .next (serviceAnswered (svcBare v) [5, 5] (fieldInHand (svcBare v) v.time s))) ∧
    (s.powered = true → s.ports.fieldRx = [] → s.ports.fde = true →
      ∀ c ∈ ([.read (.field v), .claimSelect (.field v), .claimTest (.field v), .claimRelease (.field v),
        .serviceReset v, .clearHard v, .unknownOp (.field v)] : List Instr), exec c s = .next (s.reach v.time)) ∧
    (HouseTakes f s → f.kind ≠ 0x21 → f.kind ≠ 0x22 → exec (.houseKindDrop f) s =
      .next ((houseTaken s).onMgmt fun m => { m with houseKind := min 65535 (m.houseKind + 1) })) ∧
    (∀ x ∈ ([(.read (.house r), 0x01, 3, 3), (.write r, 0x02, 3, 15), (.commitStrap r, 0x03, 0, 0),
        (.discardStrap r, 0x04, 0, 0), (.save r, 0x05, 0, 0), (.reload r, 0x06, 0, 0), (.restart r, 0x07, 0, 0),
        (.post r, 0x08, 6, 6), (.withdraw r, 0x09, 2, 2), (.claimSelect (.house r), 0x0A, 2, 2),
        (.claimTest (.house r), 0x0B, 2, 2), (.claimRelease (.house r), 0x0C, 2, 2), (.remoteReset r, 0x0D, 0, 0),
        (.attnClear r, 0x0E, 2, 2), (.logRead r, 0x0F, 2, 2), (.status r, 0x10, 0, 0)] : List (Instr × Byte × Nat × Nat)),
      HouseTakes (houseFrame x.2.1 r) s →
      (r.dest ≠ 0 → exec x.1 s = .next (answered r.tag [5, 1] (houseTaken s))) ∧
      (r.dest = 0 → (r.params.length < x.2.2.1 ∨ x.2.2.2 < r.params.length) →
        exec x.1 s = .next (answered r.tag (if x.2.1 = 0x01 then [] else [5, 4]) (houseTaken s))))

/-- R171 to R173, R178: a WRITE of the start limit and the runout limit stores each at its nearest limit and tells the
first that was clamped; so does one of any other numeric setting that is no event of its block (R58, R78, R96, R118,
R138). R132: a WRITE of the pending strapping table, an entry's depth or its volume alone being one field by the
model's reading (log 13). R18: a WRITE of an address map entry is REFUSED VALUE for a class that names none or a match
or mask above 63. A place that takes no write is REFUSED ADDRESS, with offset 0 where the WRITE starts at a field's
first byte or at a byte of no field; half of a two-byte setting is REFUSED LENGTH; a counter takes 0 alone; the enable
takes any value; ATTN_CLEAR clears the bits of its mask. Model's choices: log 3, log 8, log 14. -/
def Obligations.TableIsWritten : Prop :=
  ∀ (r : HouseReq) (tag lo hi a b : Byte) (v : BitVec 16) (s : State), r.dest = 0 →
    let t := houseTaken s
    let start := lo.toNat + 256 * hi.toNat
    let m := nearest 20 180 a.toNat
    let n := nearest 10 120 b.toNat
    (HouseTakes (houseFrame 0x02 r) s → s.store.save = none → r.params = [0xC0, 0x01, a, b] →
      exec (.write r) s = .next (answered r.tag
        (if a.toNat ≠ m then [1, 0, BitVec.ofNat 8 m] else if b.toNat ≠ n then [1, 1, BitVec.ofNat 8 n] else [0])
        (t.onBurner fun u => { u with startLimit := m, runoutLimit := n }))) ∧
    (HouseTakes (houseFrame 0x02 r) s → s.store.save = none → r.params = [lo, hi, a] →
      (start < 0x008 ∨ (0x00A ≤ start ∧ start < 0x040) ∨
        (0x080 ≤ start ∧ start < 0x180 ∧ (start % 32 = 11 ∨ 16 ≤ start % 32)) ∨ start = 0x183 ∨
        (0x186 ≤ start ∧ start < 0x1C0) ∨ (0x1D0 ≤ start ∧ start < 0x200) ∨ (0x20E ≤ start ∧ start < 0x280) ∨
        (0x2E8 ≤ start ∧ start < 0x300) ∨ (0x350 ≤ start ∧ start < 0x3F0) ∨ 0x3F2 ≤ start) →
      (insideField start = false → exec (.write r) s = .next (answered r.tag [5, 1, 0] t)) ∧
      (insideField start = true → ∃ offset : Byte, exec (.write r) s =
        .next (answered r.tag [5, 1, offset] { t with free := s.free + 1 }))) ∧
    (HouseTakes (houseFrame 0x02 r) s → s.store.save = none →
      r.params = [0x84, 0x01, a] → exec (.write r) s = .next (answered r.tag [5, 4, 0] t)) ∧
    (HouseTakes (houseFrame 0x02 r) s → s.store.save = none →
      let oneByte (place least most : Nat) (put : Nat → State) : Prop := r.params = leBytes 2 place ++ [a] →
        exec (.write r) s = .next (answered r.tag (numericAnswer 1 a.toNat (nearest least most a.toNat))
          (put (nearest least most a.toNat)))
      let word := a.toNat + 256 * b.toNat
      let twoBytes (place least most : Nat) (put : Nat → State) : Prop := r.params = leBytes 2 place ++ [a, b] →
        exec (.write r) s = .next (answered r.tag (numericAnswer 2 word (nearest least most word))
          (put (nearest least most word)))
      oneByte 0x182 10 240 (fun x => t.onRot fun u => { u with travelTime := x }) ∧
      twoBytes 0x184 0 900 (fun x => t.onRot fun u => { u with overrunTime := x }) ∧
      twoBytes 0x1C2 60 1800 (fun x => t.onBurner fun u => { u with backOff := x }) ∧
      oneByte 0x1C5 0 5 (fun x => t.onRecov fun u => { u with budgetMax := x }) ∧
      oneByte 0x1C7 1 10 (fun x => t.onRecov fun u => { u with pulseLen := x }) ∧
      twoBytes 0x1C8 60 1800 (fun x => t.onRecov fun u => { u with coolOff := x }) ∧
      twoBytes 0x1CA 300 7200 (fun x => t.onRecov fun u => { u with spacingTime := x }) ∧
      oneByte 0x1CC 2 30 (fun x => t.onRecov fun u => { u with gapLen := x }) ∧
      oneByte 0x1CD 1 120 (fun x => t.onRecov fun u => { u with holdTime := x }) ∧
      twoBytes 0x200 10 600 (fun x => t.onGauge fun u => { u with interval := x }) ∧
      twoBytes 0x202 0 1000 (fun x => t.onGauge fun u => { u with zero := x }) ∧
      twoBytes 0x204 100 2000 (fun x => t.onGauge fun u => { u with scale := x }) ∧
      oneByte 0x206 0 5 (fun x => t.onGauge fun u => { u with shift := x }) ∧
      twoBytes 0x208 20 500 (fun x => t.onGauge fun u => { u with delivery := x }) ∧
      twoBytes 0x2E0 500 10000 (fun x => t.onOil fun u => { u with nozzle := x }) ∧
      oneByte 0x2E3 10 200 (fun x => t.onOil fun u => { u with idleLoss := x }) ∧
      twoBytes 0x2E4 20 500 (fun x => t.onOil fun u => { u with runLoss := x }) ∧
      twoBytes 0x2E6 50 1000 (fun x => t.onOil fun u => { u with deliveryLoss := x }) ∧
      (∀ i < 24, r.params = leBytes 2 (0x280 + 4 * i) ++ [a, b] → exec (.write r) s = .next (answered r.tag
        (if word = 0xFFFF ∨ word ≤ 3000 then [0] else 1 :: 0 :: leBytes 2 3000)
        (t.onGauge fun u => { u with pend := u.pend.modify i fun e =>
          { e with depth := if word = 0xFFFF then none else some (nearest 0 3000 word) } }))) ∧
      (∀ i < 24, r.params = leBytes 2 (0x282 + 4 * i) ++ [a, b] → exec (.write r) s = .next (answered r.tag [0]
        (t.onGauge fun u => { u with pend := u.pend.modify i fun e => { e with volume := word } })))) ∧
    (HouseTakes (houseFrame 0x02 r) s → s.store.save = none →
      ∀ i < 16, ∀ named : Byte, r.params = leBytes 2 (0x040 + 4 * i) ++ [lo, a, b, named] →
      let entry : MapEntry :=
        { valid := lo.getLsbD 0, forwardUp := lo.getLsbD 1, guard := lo.getLsbD 2, pattern := a, mask := b
          cls := if named = 0 then .room else if named = 1 then .listener else if named = 2 then .service else .blocked }
      exec (.write r) s = .next (if 3 < named ∨ 63 < a ∨ 63 < b then answered r.tag [5, 2, 0] t
        else answered r.tag [0] (t.onCls fun u => { u with entries := u.entries.set i entry }))) ∧
    (∀ i : Fin 40, HouseTakes (writeFrame tag (0x300 + 2 * i.val) (leBytes 2 v.toNat)) s → s.store.save = none →
      (v ≠ 0 → exec (.counterClear tag i v) s = .next (answered tag [5, 2, 0] t)) ∧
      (v = 0 → ∃ u, exec (.counterClear tag i v) s = .next (answered tag [0] u) ∧ (counterList u)[i.val]? = some 0 ∧
        (∀ j, j ≠ i.val → (counterList u)[j]? = (counterList s)[j]?) ∧
        u.recov = s.recov ∧ u.rot = s.rot ∧ u.oil = s.oil ∧ u.mgmt.attn = s.mgmt.attn ∧
        u.postbox.posts = s.postbox.posts ∧ u.store.mem = s.store.mem)) ∧
    (HouseTakes (writeFrame tag 0x3F0 (leBytes 2 v.toNat)) s → s.store.save = none →
      exec (.attentionEnableWrite tag v) s = .next (answered tag [0] (t.onMgmt fun u => { u with enable := v }))) ∧
    (HouseTakes (houseFrame 0x0E r) s → r.params = [a, b] → exec (.attnClear r) s =
      .next (answered r.tag [0] (t.onMgmt fun u => { u with attn := u.attn &&& ~~~((b ++ a : BitVec 16)) })))

/-- R169, R177: RESTART and RELOAD set the restart pending mark with their DONE, RELOAD is refused while the store is
absent, and the six requests that a SAVE in flight bars are answered BUSY. Model's choices: log 3. -/
def Obligations.RestartIsRequested : Prop :=
  ∀ (r : HouseReq) (s : State), r.dest = 0 →
    let t := houseTaken s
    let marked (k : RestartKind) := (t.onMgmt fun m => { m with restart := some { kind := k } }).onPorts fun p =>
      { p with houseTx := p.houseTx ++ [{ frame := answerFrame r.tag [0], restartAnswer := true }] }
    let busy := answered r.tag [4] t
    (HouseTakes (houseFrame 0x07 r) s → r.params = [] →
      exec (.restart r) s = .next (if s.store.save = none then marked .restart else busy)) ∧
    (HouseTakes (houseFrame 0x06 r) s → r.params = [] → exec (.reload r) s = .next
      (if s.store.save ≠ none then busy else if s.store.present then marked .reload else answered r.tag [5, 0x14] t)) ∧
    (s.store.save ≠ none →
      (HouseTakes (houseFrame 0x02 r) s → 3 ≤ r.params.length → exec (.write r) s = .next busy) ∧
      (HouseTakes (houseFrame 0x03 r) s → r.params = [] → exec (.commitStrap r) s = .next busy) ∧
      (HouseTakes (houseFrame 0x04 r) s → r.params = [] → exec (.discardStrap r) s = .next busy) ∧
      (HouseTakes (houseFrame 0x05 r) s → r.params = [] → exec (.save r) s = .next busy))

/-! ### The settings store (11) -/

/-- R182, R183: a SAVE takes its snapshot and loses the earlier image; each acknowledged phase writes its own bytes of
the image and no others, and an unacknowledged one fails the save and writes nothing; of the offset that its NOTICE
then carries the manual states nothing, and the statement holds for every value that the model's free word may have
(log 8). A SAVE that begins clears the mark of an image that failed its readback (log 9).
Model's choices: log 3, log 10. -/
def Obligations.SaveRuns : Prop :=
  ∀ (r : HouseReq) (s : State), StoreCanonical s →
    (HouseTakes (houseFrame 0x05 r) s → r.dest = 0 → r.params = [] → s.store.save = none →
      (s.store.present = false → exec (.save r) s = .next (answered r.tag [5, 0x14] (houseTaken s))) ∧
      (s.store.present = true → ∃ t, exec (.save r) s = .next (answered r.tag [0] t) ∧
        t.store.save = some ⟨.mark, imageOf (snapshot s)⟩ ∧
        (∀ x, Memory.read t.store.mem x = if x < 2 then 0 else Memory.read s.store.mem x) ∧
        t = { houseTaken s with store := { s.store with mem := t.store.mem, save := t.store.save, spoilt := false } })) ∧
    (∀ v, s.powered = true → s.store.save = some v → v.image.length = 774 →
      let goes (p : SavePhase) (from_ upto : Nat) := ∃ t, exec (.saveTransferDone true) s = .next t ∧
        t.store.save = some { v with phase := p } ∧
        (∀ x, Memory.read t.store.mem x =
          if from_ ≤ x ∧ x < upto then v.image.getD x 0 else Memory.read s.store.mem x) ∧
        t = { s with store := { s.store with mem := t.store.mem, save := t.store.save } }
      (v.phase = .mark → goes .body 0 0) ∧ (v.phase = .body → goes .header 4 774) ∧
      (v.phase = .header → goes .readback 0 4) ∧
      (v.phase ≠ .readback → ∃ value, exec (.saveTransferDone false) s = .next
        (raise { bit := .store, code := 0x0F, subject := v.phase.code, value1 := value }
          { s with
            free := s.free + 1
            store := { s.store with save := none, fault := true, failures := min 65535 (s.store.failures + 1) } })))

/-- R182: the readback ends the save: SAVE_DONE where every byte agrees, SAVE_FAIL with the offset of the first byte
that differs otherwise; after a SAVE_FAIL at the readback, acknowledged or not, the image is refused at every later
read; of an unacknowledged readback the manual states no offset, and the statement holds for every value the model's
free word may have (log 8). Model's choices: log 9. -/
def Obligations.SaveEnds : Prop :=
  ∀ (v : Save) (ds : List (Fin 774 × Byte)) (s : State), s.powered = true → StoreCanonical s →
    s.store.save = some v → v.phase = .readback →
    let differs (x : Nat) := ∃ d ∈ ds, d.1.val = x ∧ v.image.getD x 0 ≠ d.2
    ((∀ x, ¬differs x) → exec (.saveReadbackDone true ds) s = .next
      (raise { bit := .store, code := 0x0E, value1 := 774 }
        (s.onStore fun u => { u with save := none, fault := false }))) ∧
    (∀ x, differs x → (∀ y, differs y → x ≤ y) → ∃ t, exec (.saveReadbackDone true ds) s = .next
        (raise { bit := .store, code := 0x0F, subject := 4, value1 := x } t) ∧
      t.store.save = none ∧ t.store.fault = true ∧ t.store.failures = min 65535 (s.store.failures + 1) ∧
      (∀ y, ¬differs y → Memory.read t.store.mem y = Memory.read s.store.mem y) ∧
      (∀ ack, imageAccepted ack t.store = false) ∧ t = { s with store := t.store }) ∧
    (∃ offset t, exec (.saveReadbackDone false ds) s = .next
        (raise { bit := .store, code := 0x0F, subject := 4, value1 := offset } t) ∧
      t.store.save = none ∧ t.store.fault = true ∧ t.store.failures = min 65535 (s.store.failures + 1) ∧
      t.store.mem = s.store.mem ∧ (∀ ack, imageAccepted ack t.store = false) ∧
      t = { s with store := t.store, free := s.free + 1 })

/-- R2, R181, R182: the image that a SAVE builds of any body, once in the memory, is one that the next power-on or RELOAD
accepts, whatever else the memory holds. -/
def Obligations.SavedImageIsAccepted : Prop :=
  ∀ (body : List Byte) (t : Store), body.length = 768 → t.spoilt = false → Memory.wf t.mem →
    imageAccepted true { t with mem := t.mem.writeBytes 0 (imageOf body) } = true ∧
    imageBody { t with mem := t.mem.writeBytes 0 (imageOf body) } = body

/-! ### What every command keeps -/

/-- The settings memory stays in its canonical form (the model's own, log 6) at every command. -/
def Obligations.MemoryStaysCanonical : Prop :=
  ∀ s t : State, StoreCanonical s → step s = .next t → StoreCanonical t

/-- R111: the claim word is zero exactly when the claim side is NONE, after every command. -/
def Obligations.ClaimStaysCoherent : Prop :=
  ∀ s t : State, ClaimCoherent s → step s = .next t → ClaimCoherent t

/-- R82, R90: after every command DEMAND is energized in STARTING and FIRING alone and only while the demand conditions
hold, RESET in PULSE alone, and the two relays never together. -/
def Obligations.DemandStaysLawful : Prop :=
  ∀ s t : State, DemandLawful s → step s = .next t → DemandLawful t ∧ RelaysApart t

/-- R8, R9, R13, R62, R69, R102, R114, R150: the queues, the logs, the budget list and the grant set stay within their
places. R93, R139, R140: the counts of seconds and of oil stay within their 32 and 40 bits, at whose top all but the
total hold by the model's choice (log 37), and the burn remainder below 3,600. R153: the pool of posts keeps its laws.
R36, R37: an address stands in at most one slot, and slot 2 only behind slot 1. R18, R132: the address map keeps its
16 entries and each strapping table its 24. -/
def Obligations.QueuesStayWithinPlaces : Prop :=
  (∀ s t : State, WithinPlaces s → step s = .next t → WithinPlaces t) ∧
  (∀ s t : State, WithinWidths s → step s = .next t → WithinWidths t) ∧
  (∀ s t : State, PoolLawful s → step s = .next t → PoolLawful t) ∧
  (∀ s t : State, SlotsLawful s → step s = .next t → SlotsLawful t) ∧
  (∀ s t : State, TablesWhole s → step s = .next t → TablesWhole t)

/-- The laws hold right after reset: the state of reset is the power-on with the strap low, by the model's choice (log 5),
and the canonical form of its settings memory is the model's own (log 6). -/
def Obligations.LawsHoldAtReset : Prop :=
  StoreCanonical State.reset ∧ ClaimCoherent State.reset ∧ DemandLawful State.reset ∧ RelaysApart State.reset ∧
    WithinPlaces State.reset ∧ WithinWidths State.reset ∧ PoolLawful State.reset ∧ SlotsLawful State.reset ∧
    TablesWhole State.reset

end
end

