-- ==== Sys2Proof/Laws/State.lean ====
section
/-! SUPPORT. One lemma per field per update of the state, each true by `rfl` (refs/LEAN_PROOF_STRATEGIES.md 2.3). -/

namespace Sys2Proof.Machine

section onPorts

variable (f : Ports → Ports) (s : State)

@[simp] theorem State.onPorts_powered : (s.onPorts f).powered = s.powered := rfl
@[simp] theorem State.onPorts_free : (s.onPorts f).free = s.free := rfl
@[simp] theorem State.onPorts_tick : (s.onPorts f).tick = s.tick := rfl
@[simp] theorem State.onPorts_secTick : (s.onPorts f).secTick = s.secTick := rfl
@[simp] theorem State.onPorts_clock : (s.onPorts f).clock = s.clock := rfl
@[simp] theorem State.onPorts_ports : (s.onPorts f).ports = f s.ports := rfl
@[simp] theorem State.onPorts_cls : (s.onPorts f).cls = s.cls := rfl
@[simp] theorem State.onPorts_zones : (s.onPorts f).zones = s.zones := rfl
@[simp] theorem State.onPorts_rot : (s.onPorts f).rot = s.rot := rfl
@[simp] theorem State.onPorts_burner : (s.onPorts f).burner = s.burner := rfl
@[simp] theorem State.onPorts_recov : (s.onPorts f).recov = s.recov := rfl
@[simp] theorem State.onPorts_gauge : (s.onPorts f).gauge = s.gauge := rfl
@[simp] theorem State.onPorts_oil : (s.onPorts f).oil = s.oil := rfl
@[simp] theorem State.onPorts_postbox : (s.onPorts f).postbox = s.postbox := rfl
@[simp] theorem State.onPorts_mgmt : (s.onPorts f).mgmt = s.mgmt := rfl
@[simp] theorem State.onPorts_store : (s.onPorts f).store = s.store := rfl
@[simp] theorem State.onPorts_pending : (s.onPorts f).pending = s.pending := rfl

end onPorts

section onCls

variable (f : Classifier → Classifier) (s : State)

@[simp] theorem State.onCls_powered : (s.onCls f).powered = s.powered := rfl
@[simp] theorem State.onCls_free : (s.onCls f).free = s.free := rfl
@[simp] theorem State.onCls_tick : (s.onCls f).tick = s.tick := rfl
@[simp] theorem State.onCls_secTick : (s.onCls f).secTick = s.secTick := rfl
@[simp] theorem State.onCls_clock : (s.onCls f).clock = s.clock := rfl
@[simp] theorem State.onCls_ports : (s.onCls f).ports = s.ports := rfl
@[simp] theorem State.onCls_cls : (s.onCls f).cls = f s.cls := rfl
@[simp] theorem State.onCls_zones : (s.onCls f).zones = s.zones := rfl
@[simp] theorem State.onCls_rot : (s.onCls f).rot = s.rot := rfl
@[simp] theorem State.onCls_burner : (s.onCls f).burner = s.burner := rfl
@[simp] theorem State.onCls_recov : (s.onCls f).recov = s.recov := rfl
@[simp] theorem State.onCls_gauge : (s.onCls f).gauge = s.gauge := rfl
@[simp] theorem State.onCls_oil : (s.onCls f).oil = s.oil := rfl
@[simp] theorem State.onCls_postbox : (s.onCls f).postbox = s.postbox := rfl
@[simp] theorem State.onCls_mgmt : (s.onCls f).mgmt = s.mgmt := rfl
@[simp] theorem State.onCls_store : (s.onCls f).store = s.store := rfl
@[simp] theorem State.onCls_pending : (s.onCls f).pending = s.pending := rfl

end onCls

section onZones

variable (f : ZoneUnit → ZoneUnit) (s : State)

@[simp] theorem State.onZones_powered : (s.onZones f).powered = s.powered := rfl
@[simp] theorem State.onZones_free : (s.onZones f).free = s.free := rfl
@[simp] theorem State.onZones_tick : (s.onZones f).tick = s.tick := rfl
@[simp] theorem State.onZones_secTick : (s.onZones f).secTick = s.secTick := rfl
@[simp] theorem State.onZones_clock : (s.onZones f).clock = s.clock := rfl
@[simp] theorem State.onZones_ports : (s.onZones f).ports = s.ports := rfl
@[simp] theorem State.onZones_cls : (s.onZones f).cls = s.cls := rfl
@[simp] theorem State.onZones_zones : (s.onZones f).zones = f s.zones := rfl
@[simp] theorem State.onZones_rot : (s.onZones f).rot = s.rot := rfl
@[simp] theorem State.onZones_burner : (s.onZones f).burner = s.burner := rfl
@[simp] theorem State.onZones_recov : (s.onZones f).recov = s.recov := rfl
@[simp] theorem State.onZones_gauge : (s.onZones f).gauge = s.gauge := rfl
@[simp] theorem State.onZones_oil : (s.onZones f).oil = s.oil := rfl
@[simp] theorem State.onZones_postbox : (s.onZones f).postbox = s.postbox := rfl
@[simp] theorem State.onZones_mgmt : (s.onZones f).mgmt = s.mgmt := rfl
@[simp] theorem State.onZones_store : (s.onZones f).store = s.store := rfl
@[simp] theorem State.onZones_pending : (s.onZones f).pending = s.pending := rfl

end onZones

section onRot

variable (f : Rotation → Rotation) (s : State)

@[simp] theorem State.onRot_powered : (s.onRot f).powered = s.powered := rfl
@[simp] theorem State.onRot_free : (s.onRot f).free = s.free := rfl
@[simp] theorem State.onRot_tick : (s.onRot f).tick = s.tick := rfl
@[simp] theorem State.onRot_secTick : (s.onRot f).secTick = s.secTick := rfl
@[simp] theorem State.onRot_clock : (s.onRot f).clock = s.clock := rfl
@[simp] theorem State.onRot_ports : (s.onRot f).ports = s.ports := rfl
@[simp] theorem State.onRot_cls : (s.onRot f).cls = s.cls := rfl
@[simp] theorem State.onRot_zones : (s.onRot f).zones = s.zones := rfl
@[simp] theorem State.onRot_rot : (s.onRot f).rot = f s.rot := rfl
@[simp] theorem State.onRot_burner : (s.onRot f).burner = s.burner := rfl
@[simp] theorem State.onRot_recov : (s.onRot f).recov = s.recov := rfl
@[simp] theorem State.onRot_gauge : (s.onRot f).gauge = s.gauge := rfl
@[simp] theorem State.onRot_oil : (s.onRot f).oil = s.oil := rfl
@[simp] theorem State.onRot_postbox : (s.onRot f).postbox = s.postbox := rfl
@[simp] theorem State.onRot_mgmt : (s.onRot f).mgmt = s.mgmt := rfl
@[simp] theorem State.onRot_store : (s.onRot f).store = s.store := rfl
@[simp] theorem State.onRot_pending : (s.onRot f).pending = s.pending := rfl

end onRot

section onBurner

variable (f : Burner → Burner) (s : State)

@[simp] theorem State.onBurner_powered : (s.onBurner f).powered = s.powered := rfl
@[simp] theorem State.onBurner_free : (s.onBurner f).free = s.free := rfl
@[simp] theorem State.onBurner_tick : (s.onBurner f).tick = s.tick := rfl
@[simp] theorem State.onBurner_secTick : (s.onBurner f).secTick = s.secTick := rfl
@[simp] theorem State.onBurner_clock : (s.onBurner f).clock = s.clock := rfl
@[simp] theorem State.onBurner_ports : (s.onBurner f).ports = s.ports := rfl
@[simp] theorem State.onBurner_cls : (s.onBurner f).cls = s.cls := rfl
@[simp] theorem State.onBurner_zones : (s.onBurner f).zones = s.zones := rfl
@[simp] theorem State.onBurner_rot : (s.onBurner f).rot = s.rot := rfl
@[simp] theorem State.onBurner_burner : (s.onBurner f).burner = f s.burner := rfl
@[simp] theorem State.onBurner_recov : (s.onBurner f).recov = s.recov := rfl
@[simp] theorem State.onBurner_gauge : (s.onBurner f).gauge = s.gauge := rfl
@[simp] theorem State.onBurner_oil : (s.onBurner f).oil = s.oil := rfl
@[simp] theorem State.onBurner_postbox : (s.onBurner f).postbox = s.postbox := rfl
@[simp] theorem State.onBurner_mgmt : (s.onBurner f).mgmt = s.mgmt := rfl
@[simp] theorem State.onBurner_store : (s.onBurner f).store = s.store := rfl
@[simp] theorem State.onBurner_pending : (s.onBurner f).pending = s.pending := rfl

end onBurner

section onRecov

variable (f : Recovery → Recovery) (s : State)

@[simp] theorem State.onRecov_powered : (s.onRecov f).powered = s.powered := rfl
@[simp] theorem State.onRecov_free : (s.onRecov f).free = s.free := rfl
@[simp] theorem State.onRecov_tick : (s.onRecov f).tick = s.tick := rfl
@[simp] theorem State.onRecov_secTick : (s.onRecov f).secTick = s.secTick := rfl
@[simp] theorem State.onRecov_clock : (s.onRecov f).clock = s.clock := rfl
@[simp] theorem State.onRecov_ports : (s.onRecov f).ports = s.ports := rfl
@[simp] theorem State.onRecov_cls : (s.onRecov f).cls = s.cls := rfl
@[simp] theorem State.onRecov_zones : (s.onRecov f).zones = s.zones := rfl
@[simp] theorem State.onRecov_rot : (s.onRecov f).rot = s.rot := rfl
@[simp] theorem State.onRecov_burner : (s.onRecov f).burner = s.burner := rfl
@[simp] theorem State.onRecov_recov : (s.onRecov f).recov = f s.recov := rfl
@[simp] theorem State.onRecov_gauge : (s.onRecov f).gauge = s.gauge := rfl
@[simp] theorem State.onRecov_oil : (s.onRecov f).oil = s.oil := rfl
@[simp] theorem State.onRecov_postbox : (s.onRecov f).postbox = s.postbox := rfl
@[simp] theorem State.onRecov_mgmt : (s.onRecov f).mgmt = s.mgmt := rfl
@[simp] theorem State.onRecov_store : (s.onRecov f).store = s.store := rfl
@[simp] theorem State.onRecov_pending : (s.onRecov f).pending = s.pending := rfl

end onRecov

section onGauge

variable (f : Gauge → Gauge) (s : State)

@[simp] theorem State.onGauge_powered : (s.onGauge f).powered = s.powered := rfl
@[simp] theorem State.onGauge_free : (s.onGauge f).free = s.free := rfl
@[simp] theorem State.onGauge_tick : (s.onGauge f).tick = s.tick := rfl
@[simp] theorem State.onGauge_secTick : (s.onGauge f).secTick = s.secTick := rfl
@[simp] theorem State.onGauge_clock : (s.onGauge f).clock = s.clock := rfl
@[simp] theorem State.onGauge_ports : (s.onGauge f).ports = s.ports := rfl
@[simp] theorem State.onGauge_cls : (s.onGauge f).cls = s.cls := rfl
@[simp] theorem State.onGauge_zones : (s.onGauge f).zones = s.zones := rfl
@[simp] theorem State.onGauge_rot : (s.onGauge f).rot = s.rot := rfl
@[simp] theorem State.onGauge_burner : (s.onGauge f).burner = s.burner := rfl
@[simp] theorem State.onGauge_recov : (s.onGauge f).recov = s.recov := rfl
@[simp] theorem State.onGauge_gauge : (s.onGauge f).gauge = f s.gauge := rfl
@[simp] theorem State.onGauge_oil : (s.onGauge f).oil = s.oil := rfl
@[simp] theorem State.onGauge_postbox : (s.onGauge f).postbox = s.postbox := rfl
@[simp] theorem State.onGauge_mgmt : (s.onGauge f).mgmt = s.mgmt := rfl
@[simp] theorem State.onGauge_store : (s.onGauge f).store = s.store := rfl
@[simp] theorem State.onGauge_pending : (s.onGauge f).pending = s.pending := rfl

end onGauge

section onOil

variable (f : Oil → Oil) (s : State)

@[simp] theorem State.onOil_powered : (s.onOil f).powered = s.powered := rfl
@[simp] theorem State.onOil_free : (s.onOil f).free = s.free := rfl
@[simp] theorem State.onOil_tick : (s.onOil f).tick = s.tick := rfl
@[simp] theorem State.onOil_secTick : (s.onOil f).secTick = s.secTick := rfl
@[simp] theorem State.onOil_clock : (s.onOil f).clock = s.clock := rfl
@[simp] theorem State.onOil_ports : (s.onOil f).ports = s.ports := rfl
@[simp] theorem State.onOil_cls : (s.onOil f).cls = s.cls := rfl
@[simp] theorem State.onOil_zones : (s.onOil f).zones = s.zones := rfl
@[simp] theorem State.onOil_rot : (s.onOil f).rot = s.rot := rfl
@[simp] theorem State.onOil_burner : (s.onOil f).burner = s.burner := rfl
@[simp] theorem State.onOil_recov : (s.onOil f).recov = s.recov := rfl
@[simp] theorem State.onOil_gauge : (s.onOil f).gauge = s.gauge := rfl
@[simp] theorem State.onOil_oil : (s.onOil f).oil = f s.oil := rfl
@[simp] theorem State.onOil_postbox : (s.onOil f).postbox = s.postbox := rfl
@[simp] theorem State.onOil_mgmt : (s.onOil f).mgmt = s.mgmt := rfl
@[simp] theorem State.onOil_store : (s.onOil f).store = s.store := rfl
@[simp] theorem State.onOil_pending : (s.onOil f).pending = s.pending := rfl

end onOil

section onPostbox

variable (f : Postbox → Postbox) (s : State)

@[simp] theorem State.onPostbox_powered : (s.onPostbox f).powered = s.powered := rfl
@[simp] theorem State.onPostbox_free : (s.onPostbox f).free = s.free := rfl
@[simp] theorem State.onPostbox_tick : (s.onPostbox f).tick = s.tick := rfl
@[simp] theorem State.onPostbox_secTick : (s.onPostbox f).secTick = s.secTick := rfl
@[simp] theorem State.onPostbox_clock : (s.onPostbox f).clock = s.clock := rfl
@[simp] theorem State.onPostbox_ports : (s.onPostbox f).ports = s.ports := rfl
@[simp] theorem State.onPostbox_cls : (s.onPostbox f).cls = s.cls := rfl
@[simp] theorem State.onPostbox_zones : (s.onPostbox f).zones = s.zones := rfl
@[simp] theorem State.onPostbox_rot : (s.onPostbox f).rot = s.rot := rfl
@[simp] theorem State.onPostbox_burner : (s.onPostbox f).burner = s.burner := rfl
@[simp] theorem State.onPostbox_recov : (s.onPostbox f).recov = s.recov := rfl
@[simp] theorem State.onPostbox_gauge : (s.onPostbox f).gauge = s.gauge := rfl
@[simp] theorem State.onPostbox_oil : (s.onPostbox f).oil = s.oil := rfl
@[simp] theorem State.onPostbox_postbox : (s.onPostbox f).postbox = f s.postbox := rfl
@[simp] theorem State.onPostbox_mgmt : (s.onPostbox f).mgmt = s.mgmt := rfl
@[simp] theorem State.onPostbox_store : (s.onPostbox f).store = s.store := rfl
@[simp] theorem State.onPostbox_pending : (s.onPostbox f).pending = s.pending := rfl

end onPostbox

section onMgmt

variable (f : Management → Management) (s : State)

@[simp] theorem State.onMgmt_powered : (s.onMgmt f).powered = s.powered := rfl
@[simp] theorem State.onMgmt_free : (s.onMgmt f).free = s.free := rfl
@[simp] theorem State.onMgmt_tick : (s.onMgmt f).tick = s.tick := rfl
@[simp] theorem State.onMgmt_secTick : (s.onMgmt f).secTick = s.secTick := rfl
@[simp] theorem State.onMgmt_clock : (s.onMgmt f).clock = s.clock := rfl
@[simp] theorem State.onMgmt_ports : (s.onMgmt f).ports = s.ports := rfl
@[simp] theorem State.onMgmt_cls : (s.onMgmt f).cls = s.cls := rfl
@[simp] theorem State.onMgmt_zones : (s.onMgmt f).zones = s.zones := rfl
@[simp] theorem State.onMgmt_rot : (s.onMgmt f).rot = s.rot := rfl
@[simp] theorem State.onMgmt_burner : (s.onMgmt f).burner = s.burner := rfl
@[simp] theorem State.onMgmt_recov : (s.onMgmt f).recov = s.recov := rfl
@[simp] theorem State.onMgmt_gauge : (s.onMgmt f).gauge = s.gauge := rfl
@[simp] theorem State.onMgmt_oil : (s.onMgmt f).oil = s.oil := rfl
@[simp] theorem State.onMgmt_postbox : (s.onMgmt f).postbox = s.postbox := rfl
@[simp] theorem State.onMgmt_mgmt : (s.onMgmt f).mgmt = f s.mgmt := rfl
@[simp] theorem State.onMgmt_store : (s.onMgmt f).store = s.store := rfl
@[simp] theorem State.onMgmt_pending : (s.onMgmt f).pending = s.pending := rfl

end onMgmt

section onStore

variable (f : Store → Store) (s : State)

@[simp] theorem State.onStore_powered : (s.onStore f).powered = s.powered := rfl
@[simp] theorem State.onStore_free : (s.onStore f).free = s.free := rfl
@[simp] theorem State.onStore_tick : (s.onStore f).tick = s.tick := rfl
@[simp] theorem State.onStore_secTick : (s.onStore f).secTick = s.secTick := rfl
@[simp] theorem State.onStore_clock : (s.onStore f).clock = s.clock := rfl
@[simp] theorem State.onStore_ports : (s.onStore f).ports = s.ports := rfl
@[simp] theorem State.onStore_cls : (s.onStore f).cls = s.cls := rfl
@[simp] theorem State.onStore_zones : (s.onStore f).zones = s.zones := rfl
@[simp] theorem State.onStore_rot : (s.onStore f).rot = s.rot := rfl
@[simp] theorem State.onStore_burner : (s.onStore f).burner = s.burner := rfl
@[simp] theorem State.onStore_recov : (s.onStore f).recov = s.recov := rfl
@[simp] theorem State.onStore_gauge : (s.onStore f).gauge = s.gauge := rfl
@[simp] theorem State.onStore_oil : (s.onStore f).oil = s.oil := rfl
@[simp] theorem State.onStore_postbox : (s.onStore f).postbox = s.postbox := rfl
@[simp] theorem State.onStore_mgmt : (s.onStore f).mgmt = s.mgmt := rfl
@[simp] theorem State.onStore_store : (s.onStore f).store = f s.store := rfl
@[simp] theorem State.onStore_pending : (s.onStore f).pending = s.pending := rfl

end onStore

@[simp] theorem State.reach_powered (t : Tick) (s : State) : (s.reach t).powered = s.powered := rfl
@[simp] theorem State.reach_free (t : Tick) (s : State) : (s.reach t).free = s.free := rfl
@[simp] theorem State.reach_tick (t : Tick) (s : State) : (s.reach t).tick = max s.tick t := rfl
@[simp] theorem State.reach_secTick (t : Tick) (s : State) : (s.reach t).secTick = s.secTick := rfl
@[simp] theorem State.reach_clock (t : Tick) (s : State) : (s.reach t).clock = s.clock := rfl
@[simp] theorem State.reach_ports (t : Tick) (s : State) : (s.reach t).ports = s.ports := rfl
@[simp] theorem State.reach_cls (t : Tick) (s : State) : (s.reach t).cls = s.cls := rfl
@[simp] theorem State.reach_zones (t : Tick) (s : State) : (s.reach t).zones = s.zones := rfl
@[simp] theorem State.reach_rot (t : Tick) (s : State) : (s.reach t).rot = s.rot := rfl
@[simp] theorem State.reach_burner (t : Tick) (s : State) : (s.reach t).burner = s.burner := rfl
@[simp] theorem State.reach_recov (t : Tick) (s : State) : (s.reach t).recov = s.recov := rfl
@[simp] theorem State.reach_gauge (t : Tick) (s : State) : (s.reach t).gauge = s.gauge := rfl
@[simp] theorem State.reach_oil (t : Tick) (s : State) : (s.reach t).oil = s.oil := rfl
@[simp] theorem State.reach_postbox (t : Tick) (s : State) : (s.reach t).postbox = s.postbox := rfl
@[simp] theorem State.reach_mgmt (t : Tick) (s : State) : (s.reach t).mgmt = s.mgmt := rfl
@[simp] theorem State.reach_store (t : Tick) (s : State) : (s.reach t).store = s.store := rfl
@[simp] theorem State.reach_pending (t : Tick) (s : State) : (s.reach t).pending = s.pending := rfl

@[simp] theorem State.drawn_powered (s : State) : (s.drawn).powered = s.powered := rfl
@[simp] theorem State.drawn_free (s : State) : (s.drawn).free = s.free + 1 := rfl
@[simp] theorem State.drawn_tick (s : State) : (s.drawn).tick = s.tick := rfl
@[simp] theorem State.drawn_secTick (s : State) : (s.drawn).secTick = s.secTick := rfl
@[simp] theorem State.drawn_clock (s : State) : (s.drawn).clock = s.clock := rfl
@[simp] theorem State.drawn_ports (s : State) : (s.drawn).ports = s.ports := rfl
@[simp] theorem State.drawn_cls (s : State) : (s.drawn).cls = s.cls := rfl
@[simp] theorem State.drawn_zones (s : State) : (s.drawn).zones = s.zones := rfl
@[simp] theorem State.drawn_rot (s : State) : (s.drawn).rot = s.rot := rfl
@[simp] theorem State.drawn_burner (s : State) : (s.drawn).burner = s.burner := rfl
@[simp] theorem State.drawn_recov (s : State) : (s.drawn).recov = s.recov := rfl
@[simp] theorem State.drawn_gauge (s : State) : (s.drawn).gauge = s.gauge := rfl
@[simp] theorem State.drawn_oil (s : State) : (s.drawn).oil = s.oil := rfl
@[simp] theorem State.drawn_postbox (s : State) : (s.drawn).postbox = s.postbox := rfl
@[simp] theorem State.drawn_mgmt (s : State) : (s.drawn).mgmt = s.mgmt := rfl
@[simp] theorem State.drawn_store (s : State) : (s.drawn).store = s.store := rfl
@[simp] theorem State.drawn_pending (s : State) : (s.drawn).pending = s.pending := rfl

end Sys2Proof.Machine
end

