-- ==== Sys2Proof/Laws/Frames.lean ====
section
/-! SUPPORT. Frame lemmas: for each operation of the model, the parts of the state that it leaves as they were. Tagged
for `simp`, so that no later proof unfolds an operation to see what it does not touch. -/

set_option maxRecDepth 2000

namespace Sys2Proof.Machine

@[simp] theorem pushHouse_frame (e : HouseEntry) (s : State) :
  (pushHouse e s).powered = s.powered ∧ (pushHouse e s).free = s.free ∧ (pushHouse e s).tick = s.tick ∧
    (pushHouse e s).secTick = s.secTick ∧ (pushHouse e s).clock = s.clock ∧ (pushHouse e s).cls = s.cls ∧
    (pushHouse e s).zones = s.zones ∧ (pushHouse e s).rot = s.rot ∧ (pushHouse e s).burner = s.burner ∧
    (pushHouse e s).recov = s.recov ∧ (pushHouse e s).gauge = s.gauge ∧ (pushHouse e s).oil = s.oil ∧
    (pushHouse e s).postbox = s.postbox ∧ (pushHouse e s).mgmt = s.mgmt ∧ (pushHouse e s).store = s.store ∧
    (pushHouse e s).pending = s.pending ∧ (pushHouse e s).ports.fieldAsm = s.ports.fieldAsm ∧
    (pushHouse e s).ports.houseAsm = s.ports.houseAsm ∧ (pushHouse e s).ports.fieldRx = s.ports.fieldRx ∧
    (pushHouse e s).ports.houseRx = s.ports.houseRx ∧ (pushHouse e s).ports.fieldTx = s.ports.fieldTx ∧
    (pushHouse e s).ports.fde = s.ports.fde ∧ (pushHouse e s).ports.lastSeen = s.ports.lastSeen ∧
    (pushHouse e s).ports.houseOnLine = s.ports.houseOnLine ∧ (pushHouse e s).ports.rdy = s.ports.rdy := by
  unfold pushHouse
  (repeat' split) <;> simp

@[simp] theorem pushField_frame (e : TxEntry) (s : State) :
  (pushField e s).powered = s.powered ∧ (pushField e s).free = s.free ∧ (pushField e s).tick = s.tick ∧
    (pushField e s).secTick = s.secTick ∧ (pushField e s).clock = s.clock ∧ (pushField e s).cls = s.cls ∧
    (pushField e s).zones = s.zones ∧ (pushField e s).rot = s.rot ∧ (pushField e s).burner = s.burner ∧
    (pushField e s).recov = s.recov ∧ (pushField e s).gauge = s.gauge ∧ (pushField e s).oil = s.oil ∧
    (pushField e s).postbox = s.postbox ∧ (pushField e s).mgmt = s.mgmt ∧ (pushField e s).store = s.store ∧
    (pushField e s).pending = s.pending ∧ (pushField e s).ports.fieldAsm = s.ports.fieldAsm ∧
    (pushField e s).ports.houseAsm = s.ports.houseAsm ∧ (pushField e s).ports.fieldRx = s.ports.fieldRx ∧
    (pushField e s).ports.houseRx = s.ports.houseRx ∧ (pushField e s).ports.fde = s.ports.fde ∧
    (pushField e s).ports.lastSeen = s.ports.lastSeen ∧ (pushField e s).ports.houseOnLine = s.ports.houseOnLine ∧
    (pushField e s).ports.rdy = s.ports.rdy := by
  unfold pushField
  (repeat' split) <;> simp

@[simp] theorem setAttn_frame (b : AttnBit) (s : State) :
  (setAttn b s).powered = s.powered ∧ (setAttn b s).free = s.free ∧ (setAttn b s).tick = s.tick ∧
    (setAttn b s).secTick = s.secTick ∧ (setAttn b s).clock = s.clock ∧ (setAttn b s).ports = s.ports ∧
    (setAttn b s).cls = s.cls ∧ (setAttn b s).zones = s.zones ∧ (setAttn b s).rot = s.rot ∧
    (setAttn b s).burner = s.burner ∧ (setAttn b s).recov = s.recov ∧ (setAttn b s).gauge = s.gauge ∧
    (setAttn b s).oil = s.oil ∧ (setAttn b s).postbox = s.postbox ∧ (setAttn b s).store = s.store ∧
    (setAttn b s).pending = s.pending ∧ (setAttn b s).mgmt.enable = s.mgmt.enable ∧
    (setAttn b s).mgmt.restart = s.mgmt.restart := by
  unfold setAttn
  (repeat' split) <;> simp

@[simp] theorem loseNotice_frame (s : State) :
  (loseNotice s).powered = s.powered ∧ (loseNotice s).free = s.free ∧ (loseNotice s).tick = s.tick ∧
    (loseNotice s).secTick = s.secTick ∧ (loseNotice s).clock = s.clock ∧ (loseNotice s).ports = s.ports ∧
    (loseNotice s).cls = s.cls ∧ (loseNotice s).zones = s.zones ∧ (loseNotice s).rot = s.rot ∧
    (loseNotice s).burner = s.burner ∧ (loseNotice s).recov = s.recov ∧ (loseNotice s).gauge = s.gauge ∧
    (loseNotice s).oil = s.oil ∧ (loseNotice s).postbox = s.postbox ∧ (loseNotice s).store = s.store ∧
    (loseNotice s).pending = s.pending ∧ (loseNotice s).mgmt.enable = s.mgmt.enable ∧
    (loseNotice s).mgmt.restart = s.mgmt.restart := by
  unfold loseNotice
  (repeat' split) <;> simp

@[simp] theorem raise_frame (n : Notice) (s : State) :
  (raise n s).powered = s.powered ∧ (raise n s).free = s.free ∧ (raise n s).tick = s.tick ∧
    (raise n s).secTick = s.secTick ∧ (raise n s).clock = s.clock ∧ (raise n s).cls = s.cls ∧
    (raise n s).zones = s.zones ∧ (raise n s).rot = s.rot ∧ (raise n s).burner = s.burner ∧
    (raise n s).recov = s.recov ∧ (raise n s).gauge = s.gauge ∧ (raise n s).oil = s.oil ∧
    (raise n s).postbox = s.postbox ∧ (raise n s).store = s.store ∧ (raise n s).pending = s.pending ∧
    (raise n s).ports.fieldAsm = s.ports.fieldAsm ∧ (raise n s).ports.houseAsm = s.ports.houseAsm ∧
    (raise n s).ports.fieldRx = s.ports.fieldRx ∧ (raise n s).ports.houseRx = s.ports.houseRx ∧
    (raise n s).ports.fieldTx = s.ports.fieldTx ∧ (raise n s).ports.fde = s.ports.fde ∧
    (raise n s).ports.lastSeen = s.ports.lastSeen ∧ (raise n s).ports.houseOnLine = s.ports.houseOnLine ∧
    (raise n s).ports.rdy = s.ports.rdy ∧ (raise n s).mgmt.enable = s.mgmt.enable ∧
    (raise n s).mgmt.restart = s.mgmt.restart := by
  unfold raise
  (repeat' split) <;> simp

@[simp] theorem raiseAll_frame (ns : List Notice) (s : State) :
  (raiseAll ns s).powered = s.powered ∧ (raiseAll ns s).free = s.free ∧ (raiseAll ns s).tick = s.tick ∧
    (raiseAll ns s).secTick = s.secTick ∧ (raiseAll ns s).clock = s.clock ∧ (raiseAll ns s).cls = s.cls ∧
    (raiseAll ns s).zones = s.zones ∧ (raiseAll ns s).rot = s.rot ∧ (raiseAll ns s).burner = s.burner ∧
    (raiseAll ns s).recov = s.recov ∧ (raiseAll ns s).gauge = s.gauge ∧ (raiseAll ns s).oil = s.oil ∧
    (raiseAll ns s).postbox = s.postbox ∧ (raiseAll ns s).store = s.store ∧ (raiseAll ns s).pending = s.pending ∧
    (raiseAll ns s).ports.fieldAsm = s.ports.fieldAsm ∧ (raiseAll ns s).ports.houseAsm = s.ports.houseAsm ∧
    (raiseAll ns s).ports.fieldRx = s.ports.fieldRx ∧ (raiseAll ns s).ports.houseRx = s.ports.houseRx ∧
    (raiseAll ns s).ports.fieldTx = s.ports.fieldTx ∧ (raiseAll ns s).ports.fde = s.ports.fde ∧
    (raiseAll ns s).ports.lastSeen = s.ports.lastSeen ∧ (raiseAll ns s).ports.houseOnLine = s.ports.houseOnLine ∧
    (raiseAll ns s).ports.rdy = s.ports.rdy ∧ (raiseAll ns s).mgmt.enable = s.mgmt.enable ∧
    (raiseAll ns s).mgmt.restart = s.mgmt.restart := by
  unfold raiseAll
  induction ns generalizing s with
  | nil => simp
  | cons n ns ih => simpa using ih (raise n s)

@[simp] theorem oilTakes_frame (f : Oil → Oil × List Notice) (s : State) :
  (oilTakes f s).powered = s.powered ∧ (oilTakes f s).free = s.free ∧ (oilTakes f s).tick = s.tick ∧
    (oilTakes f s).secTick = s.secTick ∧ (oilTakes f s).clock = s.clock ∧ (oilTakes f s).cls = s.cls ∧
    (oilTakes f s).zones = s.zones ∧ (oilTakes f s).rot = s.rot ∧ (oilTakes f s).burner = s.burner ∧
    (oilTakes f s).recov = s.recov ∧ (oilTakes f s).gauge = s.gauge ∧ (oilTakes f s).postbox = s.postbox ∧
    (oilTakes f s).store = s.store ∧ (oilTakes f s).pending = s.pending ∧
    (oilTakes f s).ports.fieldAsm = s.ports.fieldAsm ∧ (oilTakes f s).ports.houseAsm = s.ports.houseAsm ∧
    (oilTakes f s).ports.fieldRx = s.ports.fieldRx ∧ (oilTakes f s).ports.houseRx = s.ports.houseRx ∧
    (oilTakes f s).ports.fieldTx = s.ports.fieldTx ∧ (oilTakes f s).ports.fde = s.ports.fde ∧
    (oilTakes f s).ports.lastSeen = s.ports.lastSeen ∧ (oilTakes f s).ports.houseOnLine = s.ports.houseOnLine ∧
    (oilTakes f s).ports.rdy = s.ports.rdy ∧ (oilTakes f s).mgmt.enable = s.mgmt.enable ∧
    (oilTakes f s).mgmt.restart = s.mgmt.restart := by
  unfold oilTakes
  (repeat' split) <;> simp

@[simp] theorem reconcileOrMark_frame (s : State) :
  (reconcileOrMark s).powered = s.powered ∧ (reconcileOrMark s).free = s.free ∧ (reconcileOrMark s).tick = s.tick ∧
    (reconcileOrMark s).secTick = s.secTick ∧ (reconcileOrMark s).clock = s.clock ∧ (reconcileOrMark s).cls = s.cls ∧
    (reconcileOrMark s).zones = s.zones ∧ (reconcileOrMark s).rot = s.rot ∧ (reconcileOrMark s).burner = s.burner ∧
    (reconcileOrMark s).recov = s.recov ∧ (reconcileOrMark s).gauge = s.gauge ∧
    (reconcileOrMark s).postbox = s.postbox ∧ (reconcileOrMark s).store = s.store ∧
    (reconcileOrMark s).pending = s.pending ∧ (reconcileOrMark s).ports.fieldAsm = s.ports.fieldAsm ∧
    (reconcileOrMark s).ports.houseAsm = s.ports.houseAsm ∧ (reconcileOrMark s).ports.fieldRx = s.ports.fieldRx ∧
    (reconcileOrMark s).ports.houseRx = s.ports.houseRx ∧ (reconcileOrMark s).ports.fieldTx = s.ports.fieldTx ∧
    (reconcileOrMark s).ports.fde = s.ports.fde ∧ (reconcileOrMark s).ports.lastSeen = s.ports.lastSeen ∧
    (reconcileOrMark s).ports.houseOnLine = s.ports.houseOnLine ∧ (reconcileOrMark s).ports.rdy = s.ports.rdy ∧
    (reconcileOrMark s).mgmt.enable = s.mgmt.enable ∧ (reconcileOrMark s).mgmt.restart = s.mgmt.restart := by
  unfold reconcileOrMark
  (repeat' split) <;> simp

@[simp] theorem reconcileAfterSample_frame (s : State) :
  (reconcileAfterSample s).powered = s.powered ∧ (reconcileAfterSample s).free = s.free ∧
    (reconcileAfterSample s).tick = s.tick ∧ (reconcileAfterSample s).secTick = s.secTick ∧
    (reconcileAfterSample s).clock = s.clock ∧ (reconcileAfterSample s).cls = s.cls ∧
    (reconcileAfterSample s).zones = s.zones ∧ (reconcileAfterSample s).rot = s.rot ∧
    (reconcileAfterSample s).burner = s.burner ∧ (reconcileAfterSample s).recov = s.recov ∧
    (reconcileAfterSample s).gauge = s.gauge ∧ (reconcileAfterSample s).postbox = s.postbox ∧
    (reconcileAfterSample s).store = s.store ∧ (reconcileAfterSample s).pending = s.pending ∧
    (reconcileAfterSample s).ports.fieldAsm = s.ports.fieldAsm ∧
    (reconcileAfterSample s).ports.houseAsm = s.ports.houseAsm ∧
    (reconcileAfterSample s).ports.fieldRx = s.ports.fieldRx ∧
    (reconcileAfterSample s).ports.houseRx = s.ports.houseRx ∧
    (reconcileAfterSample s).ports.fieldTx = s.ports.fieldTx ∧ (reconcileAfterSample s).ports.fde = s.ports.fde ∧
    (reconcileAfterSample s).ports.lastSeen = s.ports.lastSeen ∧
    (reconcileAfterSample s).ports.houseOnLine = s.ports.houseOnLine ∧
    (reconcileAfterSample s).ports.rdy = s.ports.rdy ∧ (reconcileAfterSample s).mgmt.enable = s.mgmt.enable ∧
    (reconcileAfterSample s).mgmt.restart = s.mgmt.restart := by
  unfold reconcileAfterSample
  (repeat' split) <;> simp

@[simp] theorem reconcileTimerExpires_frame (s : State) :
  (reconcileTimerExpires s).powered = s.powered ∧ (reconcileTimerExpires s).free = s.free ∧
    (reconcileTimerExpires s).tick = s.tick ∧ (reconcileTimerExpires s).secTick = s.secTick ∧
    (reconcileTimerExpires s).clock = s.clock ∧ (reconcileTimerExpires s).cls = s.cls ∧
    (reconcileTimerExpires s).zones = s.zones ∧ (reconcileTimerExpires s).rot = s.rot ∧
    (reconcileTimerExpires s).burner = s.burner ∧ (reconcileTimerExpires s).recov = s.recov ∧
    (reconcileTimerExpires s).gauge = s.gauge ∧ (reconcileTimerExpires s).postbox = s.postbox ∧
    (reconcileTimerExpires s).store = s.store ∧ (reconcileTimerExpires s).pending = s.pending ∧
    (reconcileTimerExpires s).ports.fieldAsm = s.ports.fieldAsm ∧
    (reconcileTimerExpires s).ports.houseAsm = s.ports.houseAsm ∧
    (reconcileTimerExpires s).ports.fieldRx = s.ports.fieldRx ∧
    (reconcileTimerExpires s).ports.houseRx = s.ports.houseRx ∧
    (reconcileTimerExpires s).ports.fieldTx = s.ports.fieldTx ∧ (reconcileTimerExpires s).ports.fde = s.ports.fde ∧
    (reconcileTimerExpires s).ports.lastSeen = s.ports.lastSeen ∧
    (reconcileTimerExpires s).ports.houseOnLine = s.ports.houseOnLine ∧
    (reconcileTimerExpires s).ports.rdy = s.ports.rdy ∧ (reconcileTimerExpires s).mgmt.enable = s.mgmt.enable ∧
    (reconcileTimerExpires s).mgmt.restart = s.mgmt.restart := by
  unfold reconcileTimerExpires
  (repeat' split) <;> simp

@[simp] theorem dailyRingRoll_frame (beforeSecond : Bool) (s : State) :
  (dailyRingRoll beforeSecond s).powered = s.powered ∧ (dailyRingRoll beforeSecond s).free = s.free ∧
    (dailyRingRoll beforeSecond s).tick = s.tick ∧ (dailyRingRoll beforeSecond s).secTick = s.secTick ∧
    (dailyRingRoll beforeSecond s).clock = s.clock ∧ (dailyRingRoll beforeSecond s).ports = s.ports ∧
    (dailyRingRoll beforeSecond s).cls = s.cls ∧ (dailyRingRoll beforeSecond s).zones = s.zones ∧
    (dailyRingRoll beforeSecond s).rot = s.rot ∧ (dailyRingRoll beforeSecond s).burner = s.burner ∧
    (dailyRingRoll beforeSecond s).recov = s.recov ∧ (dailyRingRoll beforeSecond s).gauge = s.gauge ∧
    (dailyRingRoll beforeSecond s).postbox = s.postbox ∧ (dailyRingRoll beforeSecond s).mgmt = s.mgmt ∧
    (dailyRingRoll beforeSecond s).store = s.store ∧ (dailyRingRoll beforeSecond s).pending = s.pending := by
  unfold dailyRingRoll
  (repeat' split) <;> simp

@[simp] theorem leaveFiring_frame (s : State) :
  (leaveFiring s).powered = s.powered ∧ (leaveFiring s).free = s.free ∧ (leaveFiring s).tick = s.tick ∧
    (leaveFiring s).secTick = s.secTick ∧ (leaveFiring s).clock = s.clock ∧ (leaveFiring s).ports = s.ports ∧
    (leaveFiring s).cls = s.cls ∧ (leaveFiring s).zones = s.zones ∧ (leaveFiring s).rot = s.rot ∧
    (leaveFiring s).recov = s.recov ∧ (leaveFiring s).gauge = s.gauge ∧ (leaveFiring s).postbox = s.postbox ∧
    (leaveFiring s).mgmt = s.mgmt ∧ (leaveFiring s).store = s.store ∧ (leaveFiring s).pending = s.pending := by
  unfold leaveFiring
  (repeat' split) <;> simp

@[simp] theorem enterFiring_frame (s : State) :
  (enterFiring s).powered = s.powered ∧ (enterFiring s).free = s.free ∧ (enterFiring s).tick = s.tick ∧
    (enterFiring s).secTick = s.secTick ∧ (enterFiring s).clock = s.clock ∧ (enterFiring s).ports = s.ports ∧
    (enterFiring s).cls = s.cls ∧ (enterFiring s).zones = s.zones ∧ (enterFiring s).rot = s.rot ∧
    (enterFiring s).recov = s.recov ∧ (enterFiring s).gauge = s.gauge ∧ (enterFiring s).postbox = s.postbox ∧
    (enterFiring s).mgmt = s.mgmt ∧ (enterFiring s).store = s.store ∧ (enterFiring s).pending = s.pending := by
  unfold enterFiring
  (repeat' split) <;> simp

@[simp] theorem judgeDemand_frame (s : State) :
  (judgeDemand s).powered = s.powered ∧ (judgeDemand s).free = s.free ∧ (judgeDemand s).tick = s.tick ∧
    (judgeDemand s).secTick = s.secTick ∧ (judgeDemand s).clock = s.clock ∧ (judgeDemand s).ports = s.ports ∧
    (judgeDemand s).cls = s.cls ∧ (judgeDemand s).zones = s.zones ∧ (judgeDemand s).rot = s.rot ∧
    (judgeDemand s).recov = s.recov ∧ (judgeDemand s).gauge = s.gauge ∧ (judgeDemand s).postbox = s.postbox ∧
    (judgeDemand s).mgmt = s.mgmt ∧ (judgeDemand s).store = s.store ∧ (judgeDemand s).pending = s.pending := by
  unfold judgeDemand
  (repeat' split) <;> simp

@[simp] theorem enterIdle_frame (s : State) :
  (enterIdle s).powered = s.powered ∧ (enterIdle s).free = s.free ∧ (enterIdle s).tick = s.tick ∧
    (enterIdle s).secTick = s.secTick ∧ (enterIdle s).clock = s.clock ∧ (enterIdle s).ports = s.ports ∧
    (enterIdle s).cls = s.cls ∧ (enterIdle s).zones = s.zones ∧ (enterIdle s).rot = s.rot ∧
    (enterIdle s).recov = s.recov ∧ (enterIdle s).gauge = s.gauge ∧ (enterIdle s).postbox = s.postbox ∧
    (enterIdle s).mgmt = s.mgmt ∧ (enterIdle s).store = s.store ∧ (enterIdle s).pending = s.pending := by
  unfold enterIdle
  (repeat' split) <;> simp

@[simp] theorem enterSenseFault_frame (left : BurnerState) (s : State) :
  (enterSenseFault left s).powered = s.powered ∧ (enterSenseFault left s).free = s.free ∧
    (enterSenseFault left s).tick = s.tick ∧ (enterSenseFault left s).secTick = s.secTick ∧
    (enterSenseFault left s).clock = s.clock ∧ (enterSenseFault left s).cls = s.cls ∧
    (enterSenseFault left s).zones = s.zones ∧ (enterSenseFault left s).rot = s.rot ∧
    (enterSenseFault left s).recov = s.recov ∧ (enterSenseFault left s).gauge = s.gauge ∧
    (enterSenseFault left s).oil = s.oil ∧ (enterSenseFault left s).postbox = s.postbox ∧
    (enterSenseFault left s).store = s.store ∧ (enterSenseFault left s).pending = s.pending ∧
    (enterSenseFault left s).ports.fieldAsm = s.ports.fieldAsm ∧
    (enterSenseFault left s).ports.houseAsm = s.ports.houseAsm ∧
    (enterSenseFault left s).ports.fieldRx = s.ports.fieldRx ∧
    (enterSenseFault left s).ports.houseRx = s.ports.houseRx ∧
    (enterSenseFault left s).ports.fieldTx = s.ports.fieldTx ∧ (enterSenseFault left s).ports.fde = s.ports.fde ∧
    (enterSenseFault left s).ports.lastSeen = s.ports.lastSeen ∧
    (enterSenseFault left s).ports.houseOnLine = s.ports.houseOnLine ∧
    (enterSenseFault left s).ports.rdy = s.ports.rdy ∧ (enterSenseFault left s).mgmt.enable = s.mgmt.enable ∧
    (enterSenseFault left s).mgmt.restart = s.mgmt.restart ∧ (enterSenseFault left s).burner.run = s.burner.run ∧
    (enterSenseFault left s).burner.lock = s.burner.lock ∧ (enterSenseFault left s).burner.reset = s.burner.reset ∧
    (enterSenseFault left s).burner.gap = s.burner.gap ∧
    (enterSenseFault left s).burner.dryStop = s.burner.dryStop := by
  unfold enterSenseFault
  (repeat' split) <;> simp

@[simp] theorem startLimitExpires_frame (s : State) :
  (startLimitExpires s).powered = s.powered ∧ (startLimitExpires s).free = s.free ∧
    (startLimitExpires s).tick = s.tick ∧ (startLimitExpires s).secTick = s.secTick ∧
    (startLimitExpires s).clock = s.clock ∧ (startLimitExpires s).ports = s.ports ∧
    (startLimitExpires s).cls = s.cls ∧ (startLimitExpires s).zones = s.zones ∧ (startLimitExpires s).rot = s.rot ∧
    (startLimitExpires s).recov = s.recov ∧ (startLimitExpires s).gauge = s.gauge ∧
    (startLimitExpires s).oil = s.oil ∧ (startLimitExpires s).postbox = s.postbox ∧
    (startLimitExpires s).mgmt = s.mgmt ∧ (startLimitExpires s).store = s.store ∧
    (startLimitExpires s).pending = s.pending ∧ (startLimitExpires s).burner.run = s.burner.run ∧
    (startLimitExpires s).burner.lock = s.burner.lock ∧ (startLimitExpires s).burner.reset = s.burner.reset ∧
    (startLimitExpires s).burner.gap = s.burner.gap ∧ (startLimitExpires s).burner.dryStop = s.burner.dryStop := by
  unfold startLimitExpires
  (repeat' split) <;> simp

@[simp] theorem runoutLimitExpires_frame (s : State) :
  (runoutLimitExpires s).powered = s.powered ∧ (runoutLimitExpires s).free = s.free ∧
    (runoutLimitExpires s).tick = s.tick ∧ (runoutLimitExpires s).secTick = s.secTick ∧
    (runoutLimitExpires s).clock = s.clock ∧ (runoutLimitExpires s).cls = s.cls ∧
    (runoutLimitExpires s).zones = s.zones ∧ (runoutLimitExpires s).rot = s.rot ∧
    (runoutLimitExpires s).recov = s.recov ∧ (runoutLimitExpires s).gauge = s.gauge ∧
    (runoutLimitExpires s).postbox = s.postbox ∧ (runoutLimitExpires s).store = s.store ∧
    (runoutLimitExpires s).pending = s.pending ∧ (runoutLimitExpires s).ports.fieldAsm = s.ports.fieldAsm ∧
    (runoutLimitExpires s).ports.houseAsm = s.ports.houseAsm ∧
    (runoutLimitExpires s).ports.fieldRx = s.ports.fieldRx ∧ (runoutLimitExpires s).ports.houseRx = s.ports.houseRx ∧
    (runoutLimitExpires s).ports.fieldTx = s.ports.fieldTx ∧ (runoutLimitExpires s).ports.fde = s.ports.fde ∧
    (runoutLimitExpires s).ports.lastSeen = s.ports.lastSeen ∧
    (runoutLimitExpires s).ports.houseOnLine = s.ports.houseOnLine ∧ (runoutLimitExpires s).ports.rdy = s.ports.rdy ∧
    (runoutLimitExpires s).mgmt.enable = s.mgmt.enable ∧ (runoutLimitExpires s).mgmt.restart = s.mgmt.restart := by
  unfold runoutLimitExpires
  (repeat' split) <;> simp

@[simp] theorem backOffExpires_frame (s : State) :
  (backOffExpires s).powered = s.powered ∧ (backOffExpires s).free = s.free ∧ (backOffExpires s).tick = s.tick ∧
    (backOffExpires s).secTick = s.secTick ∧ (backOffExpires s).clock = s.clock ∧
    (backOffExpires s).ports = s.ports ∧ (backOffExpires s).cls = s.cls ∧ (backOffExpires s).zones = s.zones ∧
    (backOffExpires s).rot = s.rot ∧ (backOffExpires s).recov = s.recov ∧ (backOffExpires s).gauge = s.gauge ∧
    (backOffExpires s).postbox = s.postbox ∧ (backOffExpires s).mgmt = s.mgmt ∧ (backOffExpires s).store = s.store ∧
    (backOffExpires s).pending = s.pending := by
  unfold backOffExpires
  (repeat' split) <;> simp

@[simp] theorem clearTimerExpires_frame (s : State) :
  (clearTimerExpires s).powered = s.powered ∧ (clearTimerExpires s).free = s.free ∧
    (clearTimerExpires s).tick = s.tick ∧ (clearTimerExpires s).secTick = s.secTick ∧
    (clearTimerExpires s).clock = s.clock ∧ (clearTimerExpires s).ports = s.ports ∧
    (clearTimerExpires s).cls = s.cls ∧ (clearTimerExpires s).zones = s.zones ∧ (clearTimerExpires s).rot = s.rot ∧
    (clearTimerExpires s).recov = s.recov ∧ (clearTimerExpires s).gauge = s.gauge ∧
    (clearTimerExpires s).postbox = s.postbox ∧ (clearTimerExpires s).mgmt = s.mgmt ∧
    (clearTimerExpires s).store = s.store ∧ (clearTimerExpires s).pending = s.pending := by
  unfold clearTimerExpires
  (repeat' split) <;> simp

@[simp] theorem resetGapEnds_frame (s : State) :
  (resetGapEnds s).powered = s.powered ∧ (resetGapEnds s).free = s.free ∧ (resetGapEnds s).tick = s.tick ∧
    (resetGapEnds s).secTick = s.secTick ∧ (resetGapEnds s).clock = s.clock ∧ (resetGapEnds s).ports = s.ports ∧
    (resetGapEnds s).cls = s.cls ∧ (resetGapEnds s).zones = s.zones ∧ (resetGapEnds s).rot = s.rot ∧
    (resetGapEnds s).recov = s.recov ∧ (resetGapEnds s).gauge = s.gauge ∧ (resetGapEnds s).postbox = s.postbox ∧
    (resetGapEnds s).mgmt = s.mgmt ∧ (resetGapEnds s).store = s.store ∧ (resetGapEnds s).pending = s.pending := by
  unfold resetGapEnds
  (repeat' split) <;> simp

@[simp] theorem givePermit_frame (old : Bool) (s : State) :
  (givePermit old s).powered = s.powered ∧ (givePermit old s).free = s.free ∧ (givePermit old s).tick = s.tick ∧
    (givePermit old s).secTick = s.secTick ∧ (givePermit old s).clock = s.clock ∧
    (givePermit old s).ports = s.ports ∧ (givePermit old s).cls = s.cls ∧ (givePermit old s).zones = s.zones ∧
    (givePermit old s).rot = s.rot ∧ (givePermit old s).recov = s.recov ∧ (givePermit old s).gauge = s.gauge ∧
    (givePermit old s).postbox = s.postbox ∧ (givePermit old s).mgmt = s.mgmt ∧ (givePermit old s).store = s.store ∧
    (givePermit old s).pending = s.pending := by
  unfold givePermit
  (repeat' split) <;> simp

@[simp] theorem rotationEvent_frame (f : Rotation → Rotation) (s : State) :
  (rotationEvent f s).powered = s.powered ∧ (rotationEvent f s).free = s.free ∧ (rotationEvent f s).tick = s.tick ∧
    (rotationEvent f s).secTick = s.secTick ∧ (rotationEvent f s).clock = s.clock ∧
    (rotationEvent f s).ports = s.ports ∧ (rotationEvent f s).cls = s.cls ∧ (rotationEvent f s).zones = s.zones ∧
    (rotationEvent f s).recov = s.recov ∧ (rotationEvent f s).gauge = s.gauge ∧
    (rotationEvent f s).postbox = s.postbox ∧ (rotationEvent f s).mgmt = s.mgmt ∧
    (rotationEvent f s).store = s.store ∧ (rotationEvent f s).pending = s.pending := by
  unfold rotationEvent
  (repeat' split) <;> simp

@[simp] theorem handOver_frame (z : Fin 8) (old new : Option Nat) (s : State) :
  (handOver z old new s).powered = s.powered ∧ (handOver z old new s).free = s.free ∧
    (handOver z old new s).tick = s.tick ∧ (handOver z old new s).secTick = s.secTick ∧
    (handOver z old new s).clock = s.clock ∧ (handOver z old new s).ports = s.ports ∧
    (handOver z old new s).cls = s.cls ∧ (handOver z old new s).zones = s.zones ∧
    (handOver z old new s).recov = s.recov ∧ (handOver z old new s).gauge = s.gauge ∧
    (handOver z old new s).postbox = s.postbox ∧ (handOver z old new s).mgmt = s.mgmt ∧
    (handOver z old new s).store = s.store ∧ (handOver z old new s).pending = s.pending := by
  unfold handOver
  (repeat' split) <;> simp

@[simp] theorem routeChange_frame (z : Fin 8) (s : State) :
  (routeChange z s).powered = s.powered ∧ (routeChange z s).free = s.free ∧ (routeChange z s).tick = s.tick ∧
    (routeChange z s).secTick = s.secTick ∧ (routeChange z s).clock = s.clock ∧ (routeChange z s).ports = s.ports ∧
    (routeChange z s).cls = s.cls ∧ (routeChange z s).zones = s.zones ∧ (routeChange z s).recov = s.recov ∧
    (routeChange z s).gauge = s.gauge ∧ (routeChange z s).postbox = s.postbox ∧ (routeChange z s).mgmt = s.mgmt ∧
    (routeChange z s).store = s.store ∧ (routeChange z s).pending = s.pending := by
  unfold routeChange
  (repeat' split) <;> simp

@[simp] theorem turnExpires_frame (z : Fin 8) (s : State) :
  (turnExpires z s).powered = s.powered ∧ (turnExpires z s).free = s.free ∧ (turnExpires z s).tick = s.tick ∧
    (turnExpires z s).secTick = s.secTick ∧ (turnExpires z s).clock = s.clock ∧ (turnExpires z s).ports = s.ports ∧
    (turnExpires z s).cls = s.cls ∧ (turnExpires z s).zones = s.zones ∧ (turnExpires z s).recov = s.recov ∧
    (turnExpires z s).gauge = s.gauge ∧ (turnExpires z s).postbox = s.postbox ∧ (turnExpires z s).mgmt = s.mgmt ∧
    (turnExpires z s).store = s.store ∧ (turnExpires z s).pending = s.pending := by
  unfold turnExpires
  (repeat' split) <;> simp

@[simp] theorem valveTravelEnd_frame (i : Fin 8) (s : State) :
  (valveTravelEnd i s).powered = s.powered ∧ (valveTravelEnd i s).free = s.free ∧
    (valveTravelEnd i s).tick = s.tick ∧ (valveTravelEnd i s).secTick = s.secTick ∧
    (valveTravelEnd i s).clock = s.clock ∧ (valveTravelEnd i s).ports = s.ports ∧ (valveTravelEnd i s).cls = s.cls ∧
    (valveTravelEnd i s).zones = s.zones ∧ (valveTravelEnd i s).recov = s.recov ∧
    (valveTravelEnd i s).gauge = s.gauge ∧ (valveTravelEnd i s).postbox = s.postbox ∧
    (valveTravelEnd i s).mgmt = s.mgmt ∧ (valveTravelEnd i s).store = s.store ∧
    (valveTravelEnd i s).pending = s.pending := by
  unfold valveTravelEnd
  (repeat' split) <;> simp

@[simp] theorem overrunEnds_frame (s : State) :
  (overrunEnds s).powered = s.powered ∧ (overrunEnds s).free = s.free ∧ (overrunEnds s).tick = s.tick ∧
    (overrunEnds s).secTick = s.secTick ∧ (overrunEnds s).clock = s.clock ∧ (overrunEnds s).ports = s.ports ∧
    (overrunEnds s).cls = s.cls ∧ (overrunEnds s).zones = s.zones ∧ (overrunEnds s).recov = s.recov ∧
    (overrunEnds s).gauge = s.gauge ∧ (overrunEnds s).postbox = s.postbox ∧ (overrunEnds s).mgmt = s.mgmt ∧
    (overrunEnds s).store = s.store ∧ (overrunEnds s).pending = s.pending := by
  unfold overrunEnds
  (repeat' split) <;> simp

@[simp] theorem setPump_frame (s : State) :
  (setPump s).powered = s.powered ∧ (setPump s).free = s.free ∧ (setPump s).tick = s.tick ∧
    (setPump s).secTick = s.secTick ∧ (setPump s).clock = s.clock ∧ (setPump s).ports = s.ports ∧
    (setPump s).cls = s.cls ∧ (setPump s).zones = s.zones ∧ (setPump s).burner = s.burner ∧
    (setPump s).recov = s.recov ∧ (setPump s).gauge = s.gauge ∧ (setPump s).oil = s.oil ∧
    (setPump s).postbox = s.postbox ∧ (setPump s).mgmt = s.mgmt ∧ (setPump s).store = s.store ∧
    (setPump s).pending = s.pending := by
  unfold setPump
  (repeat' split) <;> simp

@[simp] theorem State.onZone_frame (i : Fin 8) (f : Zone → Zone) (s : State) :
  (State.onZone i f s).powered = s.powered ∧ (State.onZone i f s).free = s.free ∧
    (State.onZone i f s).tick = s.tick ∧ (State.onZone i f s).secTick = s.secTick ∧
    (State.onZone i f s).clock = s.clock ∧ (State.onZone i f s).ports = s.ports ∧ (State.onZone i f s).cls = s.cls ∧
    (State.onZone i f s).rot = s.rot ∧ (State.onZone i f s).burner = s.burner ∧
    (State.onZone i f s).recov = s.recov ∧ (State.onZone i f s).gauge = s.gauge ∧ (State.onZone i f s).oil = s.oil ∧
    (State.onZone i f s).postbox = s.postbox ∧ (State.onZone i f s).mgmt = s.mgmt ∧
    (State.onZone i f s).store = s.store ∧ (State.onZone i f s).pending = s.pending := by
  unfold State.onZone
  (repeat' split) <;> simp

@[simp] theorem storeEvaluated_frame (i : Fin 8) (z : Zone) (s : State) :
  (storeEvaluated i z s).powered = s.powered ∧ (storeEvaluated i z s).free = s.free ∧
    (storeEvaluated i z s).tick = s.tick ∧ (storeEvaluated i z s).secTick = s.secTick ∧
    (storeEvaluated i z s).clock = s.clock ∧ (storeEvaluated i z s).ports = s.ports ∧
    (storeEvaluated i z s).cls = s.cls ∧ (storeEvaluated i z s).rot = s.rot ∧
    (storeEvaluated i z s).burner = s.burner ∧ (storeEvaluated i z s).recov = s.recov ∧
    (storeEvaluated i z s).gauge = s.gauge ∧ (storeEvaluated i z s).oil = s.oil ∧
    (storeEvaluated i z s).postbox = s.postbox ∧ (storeEvaluated i z s).mgmt = s.mgmt ∧
    (storeEvaluated i z s).store = s.store ∧ (storeEvaluated i z s).pending = s.pending := by
  unfold storeEvaluated
  (repeat' split) <;> simp

@[simp] theorem zoneAttention_frame (i : Fin 8) (old new : ZoneState) (s : State) :
  (zoneAttention i old new s).powered = s.powered ∧ (zoneAttention i old new s).free = s.free ∧
    (zoneAttention i old new s).tick = s.tick ∧ (zoneAttention i old new s).secTick = s.secTick ∧
    (zoneAttention i old new s).clock = s.clock ∧ (zoneAttention i old new s).cls = s.cls ∧
    (zoneAttention i old new s).zones = s.zones ∧ (zoneAttention i old new s).rot = s.rot ∧
    (zoneAttention i old new s).burner = s.burner ∧ (zoneAttention i old new s).recov = s.recov ∧
    (zoneAttention i old new s).gauge = s.gauge ∧ (zoneAttention i old new s).oil = s.oil ∧
    (zoneAttention i old new s).postbox = s.postbox ∧ (zoneAttention i old new s).store = s.store ∧
    (zoneAttention i old new s).pending = s.pending ∧ (zoneAttention i old new s).ports.fieldAsm = s.ports.fieldAsm ∧
    (zoneAttention i old new s).ports.houseAsm = s.ports.houseAsm ∧
    (zoneAttention i old new s).ports.fieldRx = s.ports.fieldRx ∧
    (zoneAttention i old new s).ports.houseRx = s.ports.houseRx ∧
    (zoneAttention i old new s).ports.fieldTx = s.ports.fieldTx ∧
    (zoneAttention i old new s).ports.fde = s.ports.fde ∧
    (zoneAttention i old new s).ports.lastSeen = s.ports.lastSeen ∧
    (zoneAttention i old new s).ports.houseOnLine = s.ports.houseOnLine ∧
    (zoneAttention i old new s).ports.rdy = s.ports.rdy ∧ (zoneAttention i old new s).mgmt.enable = s.mgmt.enable ∧
    (zoneAttention i old new s).mgmt.restart = s.mgmt.restart := by
  unfold zoneAttention
  (repeat' split) <;> simp

@[simp] theorem finishZone_frame (i : Fin 8) (old : ZoneState) (handed : Option Nat) (z : Zone) (s : State) :
  (finishZone i old handed z s).powered = s.powered ∧ (finishZone i old handed z s).free = s.free ∧
    (finishZone i old handed z s).tick = s.tick ∧ (finishZone i old handed z s).secTick = s.secTick ∧
    (finishZone i old handed z s).clock = s.clock ∧ (finishZone i old handed z s).cls = s.cls ∧
    (finishZone i old handed z s).recov = s.recov ∧ (finishZone i old handed z s).gauge = s.gauge ∧
    (finishZone i old handed z s).postbox = s.postbox ∧ (finishZone i old handed z s).store = s.store ∧
    (finishZone i old handed z s).pending = s.pending ∧
    (finishZone i old handed z s).ports.fieldAsm = s.ports.fieldAsm ∧
    (finishZone i old handed z s).ports.houseAsm = s.ports.houseAsm ∧
    (finishZone i old handed z s).ports.fieldRx = s.ports.fieldRx ∧
    (finishZone i old handed z s).ports.houseRx = s.ports.houseRx ∧
    (finishZone i old handed z s).ports.fieldTx = s.ports.fieldTx ∧
    (finishZone i old handed z s).ports.fde = s.ports.fde ∧
    (finishZone i old handed z s).ports.lastSeen = s.ports.lastSeen ∧
    (finishZone i old handed z s).ports.houseOnLine = s.ports.houseOnLine ∧
    (finishZone i old handed z s).ports.rdy = s.ports.rdy ∧
    (finishZone i old handed z s).mgmt.enable = s.mgmt.enable ∧
    (finishZone i old handed z s).mgmt.restart = s.mgmt.restart := by
  unfold finishZone
  (repeat' split) <;> simp

@[simp] theorem evaluateZone_frame (i : Fin 8) (s : State) :
  (evaluateZone i s).powered = s.powered ∧ (evaluateZone i s).free = s.free ∧ (evaluateZone i s).tick = s.tick ∧
    (evaluateZone i s).secTick = s.secTick ∧ (evaluateZone i s).clock = s.clock ∧ (evaluateZone i s).cls = s.cls ∧
    (evaluateZone i s).recov = s.recov ∧ (evaluateZone i s).gauge = s.gauge ∧
    (evaluateZone i s).postbox = s.postbox ∧ (evaluateZone i s).store = s.store ∧
    (evaluateZone i s).pending = s.pending ∧ (evaluateZone i s).ports.fieldAsm = s.ports.fieldAsm ∧
    (evaluateZone i s).ports.houseAsm = s.ports.houseAsm ∧ (evaluateZone i s).ports.fieldRx = s.ports.fieldRx ∧
    (evaluateZone i s).ports.houseRx = s.ports.houseRx ∧ (evaluateZone i s).ports.fieldTx = s.ports.fieldTx ∧
    (evaluateZone i s).ports.fde = s.ports.fde ∧ (evaluateZone i s).ports.lastSeen = s.ports.lastSeen ∧
    (evaluateZone i s).ports.houseOnLine = s.ports.houseOnLine ∧ (evaluateZone i s).ports.rdy = s.ports.rdy ∧
    (evaluateZone i s).mgmt.enable = s.mgmt.enable ∧ (evaluateZone i s).mgmt.restart = s.mgmt.restart := by
  unfold evaluateZone
  (repeat' split) <;> simp

@[simp] theorem zoneEvent_frame (i : Fin 8) (f : Zone → Zone) (s : State) :
  (zoneEvent i f s).powered = s.powered ∧ (zoneEvent i f s).free = s.free ∧ (zoneEvent i f s).tick = s.tick ∧
    (zoneEvent i f s).secTick = s.secTick ∧ (zoneEvent i f s).clock = s.clock ∧ (zoneEvent i f s).cls = s.cls ∧
    (zoneEvent i f s).recov = s.recov ∧ (zoneEvent i f s).gauge = s.gauge ∧ (zoneEvent i f s).postbox = s.postbox ∧
    (zoneEvent i f s).store = s.store ∧ (zoneEvent i f s).pending = s.pending ∧
    (zoneEvent i f s).ports.fieldAsm = s.ports.fieldAsm ∧ (zoneEvent i f s).ports.houseAsm = s.ports.houseAsm ∧
    (zoneEvent i f s).ports.fieldRx = s.ports.fieldRx ∧ (zoneEvent i f s).ports.houseRx = s.ports.houseRx ∧
    (zoneEvent i f s).ports.fieldTx = s.ports.fieldTx ∧ (zoneEvent i f s).ports.fde = s.ports.fde ∧
    (zoneEvent i f s).ports.lastSeen = s.ports.lastSeen ∧ (zoneEvent i f s).ports.houseOnLine = s.ports.houseOnLine ∧
    (zoneEvent i f s).ports.rdy = s.ports.rdy ∧ (zoneEvent i f s).mgmt.enable = s.mgmt.enable ∧
    (zoneEvent i f s).mgmt.restart = s.mgmt.restart := by
  unfold zoneEvent
  (repeat' split) <;> simp

@[simp] theorem evaluateAll_frame (s : State) :
  (evaluateAll s).powered = s.powered ∧ (evaluateAll s).free = s.free ∧ (evaluateAll s).tick = s.tick ∧
    (evaluateAll s).secTick = s.secTick ∧ (evaluateAll s).clock = s.clock ∧ (evaluateAll s).cls = s.cls ∧
    (evaluateAll s).recov = s.recov ∧ (evaluateAll s).gauge = s.gauge ∧ (evaluateAll s).postbox = s.postbox ∧
    (evaluateAll s).store = s.store ∧ (evaluateAll s).pending = s.pending ∧
    (evaluateAll s).ports.fieldAsm = s.ports.fieldAsm ∧ (evaluateAll s).ports.houseAsm = s.ports.houseAsm ∧
    (evaluateAll s).ports.fieldRx = s.ports.fieldRx ∧ (evaluateAll s).ports.houseRx = s.ports.houseRx ∧
    (evaluateAll s).ports.fieldTx = s.ports.fieldTx ∧ (evaluateAll s).ports.fde = s.ports.fde ∧
    (evaluateAll s).ports.lastSeen = s.ports.lastSeen ∧ (evaluateAll s).ports.houseOnLine = s.ports.houseOnLine ∧
    (evaluateAll s).ports.rdy = s.ports.rdy ∧ (evaluateAll s).mgmt.enable = s.mgmt.enable ∧
    (evaluateAll s).mgmt.restart = s.mgmt.restart := by simp [evaluateAll, eightNumbers]

@[simp] theorem takeReport_frame (a : Byte) (r : Report) (s : State) :
  (takeReport a r s).powered = s.powered ∧ (takeReport a r s).free = s.free ∧ (takeReport a r s).tick = s.tick ∧
    (takeReport a r s).secTick = s.secTick ∧ (takeReport a r s).clock = s.clock ∧ (takeReport a r s).cls = s.cls ∧
    (takeReport a r s).recov = s.recov ∧ (takeReport a r s).gauge = s.gauge ∧
    (takeReport a r s).postbox = s.postbox ∧ (takeReport a r s).store = s.store ∧
    (takeReport a r s).pending = s.pending ∧ (takeReport a r s).ports.fieldAsm = s.ports.fieldAsm ∧
    (takeReport a r s).ports.houseAsm = s.ports.houseAsm ∧ (takeReport a r s).ports.fieldRx = s.ports.fieldRx ∧
    (takeReport a r s).ports.houseRx = s.ports.houseRx ∧ (takeReport a r s).ports.fieldTx = s.ports.fieldTx ∧
    (takeReport a r s).ports.fde = s.ports.fde ∧ (takeReport a r s).ports.lastSeen = s.ports.lastSeen ∧
    (takeReport a r s).ports.houseOnLine = s.ports.houseOnLine ∧ (takeReport a r s).ports.rdy = s.ports.rdy ∧
    (takeReport a r s).mgmt.enable = s.mgmt.enable ∧ (takeReport a r s).mgmt.restart = s.mgmt.restart := by
  unfold takeReport
  (repeat' split) <;> simp

@[simp] theorem zoneDelivered_frame (a : Byte) (kind : PostKind) (value : Nat) (s : State) :
  (zoneDelivered a kind value s).powered = s.powered ∧ (zoneDelivered a kind value s).free = s.free ∧
    (zoneDelivered a kind value s).tick = s.tick ∧ (zoneDelivered a kind value s).secTick = s.secTick ∧
    (zoneDelivered a kind value s).clock = s.clock ∧ (zoneDelivered a kind value s).cls = s.cls ∧
    (zoneDelivered a kind value s).recov = s.recov ∧ (zoneDelivered a kind value s).gauge = s.gauge ∧
    (zoneDelivered a kind value s).postbox = s.postbox ∧ (zoneDelivered a kind value s).store = s.store ∧
    (zoneDelivered a kind value s).pending = s.pending ∧
    (zoneDelivered a kind value s).ports.fieldAsm = s.ports.fieldAsm ∧
    (zoneDelivered a kind value s).ports.houseAsm = s.ports.houseAsm ∧
    (zoneDelivered a kind value s).ports.fieldRx = s.ports.fieldRx ∧
    (zoneDelivered a kind value s).ports.houseRx = s.ports.houseRx ∧
    (zoneDelivered a kind value s).ports.fieldTx = s.ports.fieldTx ∧
    (zoneDelivered a kind value s).ports.fde = s.ports.fde ∧
    (zoneDelivered a kind value s).ports.lastSeen = s.ports.lastSeen ∧
    (zoneDelivered a kind value s).ports.houseOnLine = s.ports.houseOnLine ∧
    (zoneDelivered a kind value s).ports.rdy = s.ports.rdy ∧
    (zoneDelivered a kind value s).mgmt.enable = s.mgmt.enable ∧
    (zoneDelivered a kind value s).mgmt.restart = s.mgmt.restart := by
  unfold zoneDelivered
  (repeat' split) <;> simp

@[simp] theorem readingAgesOut_frame (i : Fin 8) (n : SlotNo) (s : State) :
  (readingAgesOut i n s).powered = s.powered ∧ (readingAgesOut i n s).free = s.free ∧
    (readingAgesOut i n s).tick = s.tick ∧ (readingAgesOut i n s).secTick = s.secTick ∧
    (readingAgesOut i n s).clock = s.clock ∧ (readingAgesOut i n s).cls = s.cls ∧
    (readingAgesOut i n s).recov = s.recov ∧ (readingAgesOut i n s).gauge = s.gauge ∧
    (readingAgesOut i n s).postbox = s.postbox ∧ (readingAgesOut i n s).store = s.store ∧
    (readingAgesOut i n s).pending = s.pending ∧ (readingAgesOut i n s).ports.fieldAsm = s.ports.fieldAsm ∧
    (readingAgesOut i n s).ports.houseAsm = s.ports.houseAsm ∧
    (readingAgesOut i n s).ports.fieldRx = s.ports.fieldRx ∧ (readingAgesOut i n s).ports.houseRx = s.ports.houseRx ∧
    (readingAgesOut i n s).ports.fieldTx = s.ports.fieldTx ∧ (readingAgesOut i n s).ports.fde = s.ports.fde ∧
    (readingAgesOut i n s).ports.lastSeen = s.ports.lastSeen ∧
    (readingAgesOut i n s).ports.houseOnLine = s.ports.houseOnLine ∧ (readingAgesOut i n s).ports.rdy = s.ports.rdy ∧
    (readingAgesOut i n s).mgmt.enable = s.mgmt.enable ∧ (readingAgesOut i n s).mgmt.restart = s.mgmt.restart := by
  unfold readingAgesOut
  (repeat' split) <;> simp

@[simp] theorem overrideExpires_frame (i : Fin 8) (s : State) :
  (overrideExpires i s).powered = s.powered ∧ (overrideExpires i s).free = s.free ∧
    (overrideExpires i s).tick = s.tick ∧ (overrideExpires i s).secTick = s.secTick ∧
    (overrideExpires i s).clock = s.clock ∧ (overrideExpires i s).cls = s.cls ∧
    (overrideExpires i s).recov = s.recov ∧ (overrideExpires i s).gauge = s.gauge ∧
    (overrideExpires i s).postbox = s.postbox ∧ (overrideExpires i s).store = s.store ∧
    (overrideExpires i s).pending = s.pending ∧ (overrideExpires i s).ports.fieldAsm = s.ports.fieldAsm ∧
    (overrideExpires i s).ports.houseAsm = s.ports.houseAsm ∧ (overrideExpires i s).ports.fieldRx = s.ports.fieldRx ∧
    (overrideExpires i s).ports.houseRx = s.ports.houseRx ∧ (overrideExpires i s).ports.fieldTx = s.ports.fieldTx ∧
    (overrideExpires i s).ports.fde = s.ports.fde ∧ (overrideExpires i s).ports.lastSeen = s.ports.lastSeen ∧
    (overrideExpires i s).ports.houseOnLine = s.ports.houseOnLine ∧ (overrideExpires i s).ports.rdy = s.ports.rdy ∧
    (overrideExpires i s).mgmt.enable = s.mgmt.enable ∧ (overrideExpires i s).mgmt.restart = s.mgmt.restart := by
  unfold overrideExpires
  (repeat' split) <;> simp

@[simp] theorem fallbackPhaseChange_frame (i : Fin 8) (s : State) :
  (fallbackPhaseChange i s).powered = s.powered ∧ (fallbackPhaseChange i s).free = s.free ∧
    (fallbackPhaseChange i s).tick = s.tick ∧ (fallbackPhaseChange i s).secTick = s.secTick ∧
    (fallbackPhaseChange i s).clock = s.clock ∧ (fallbackPhaseChange i s).cls = s.cls ∧
    (fallbackPhaseChange i s).recov = s.recov ∧ (fallbackPhaseChange i s).gauge = s.gauge ∧
    (fallbackPhaseChange i s).postbox = s.postbox ∧ (fallbackPhaseChange i s).store = s.store ∧
    (fallbackPhaseChange i s).pending = s.pending ∧ (fallbackPhaseChange i s).ports.fieldAsm = s.ports.fieldAsm ∧
    (fallbackPhaseChange i s).ports.houseAsm = s.ports.houseAsm ∧
    (fallbackPhaseChange i s).ports.fieldRx = s.ports.fieldRx ∧
    (fallbackPhaseChange i s).ports.houseRx = s.ports.houseRx ∧
    (fallbackPhaseChange i s).ports.fieldTx = s.ports.fieldTx ∧ (fallbackPhaseChange i s).ports.fde = s.ports.fde ∧
    (fallbackPhaseChange i s).ports.lastSeen = s.ports.lastSeen ∧
    (fallbackPhaseChange i s).ports.houseOnLine = s.ports.houseOnLine ∧
    (fallbackPhaseChange i s).ports.rdy = s.ports.rdy ∧ (fallbackPhaseChange i s).mgmt.enable = s.mgmt.enable ∧
    (fallbackPhaseChange i s).mgmt.restart = s.mgmt.restart := by
  unfold fallbackPhaseChange
  (repeat' split) <;> simp

@[simp] theorem resolve_frame (p : Post) (o : PostOutcome) (s : State) :
  (resolve p o s).powered = s.powered ∧ (resolve p o s).free = s.free ∧ (resolve p o s).tick = s.tick ∧
    (resolve p o s).secTick = s.secTick ∧ (resolve p o s).clock = s.clock ∧ (resolve p o s).cls = s.cls ∧
    (resolve p o s).zones = s.zones ∧ (resolve p o s).rot = s.rot ∧ (resolve p o s).burner = s.burner ∧
    (resolve p o s).recov = s.recov ∧ (resolve p o s).gauge = s.gauge ∧ (resolve p o s).oil = s.oil ∧
    (resolve p o s).postbox = s.postbox ∧ (resolve p o s).store = s.store ∧ (resolve p o s).pending = s.pending ∧
    (resolve p o s).ports.fieldAsm = s.ports.fieldAsm ∧ (resolve p o s).ports.houseAsm = s.ports.houseAsm ∧
    (resolve p o s).ports.fieldRx = s.ports.fieldRx ∧ (resolve p o s).ports.houseRx = s.ports.houseRx ∧
    (resolve p o s).ports.fieldTx = s.ports.fieldTx ∧ (resolve p o s).ports.fde = s.ports.fde ∧
    (resolve p o s).ports.lastSeen = s.ports.lastSeen ∧ (resolve p o s).ports.houseOnLine = s.ports.houseOnLine ∧
    (resolve p o s).ports.rdy = s.ports.rdy ∧ (resolve p o s).mgmt.enable = s.mgmt.enable ∧
    (resolve p o s).mgmt.restart = s.mgmt.restart := by
  unfold resolve
  (repeat' split) <;> simp

@[simp] theorem dropPost_frame (q : Post → Bool) (s : State) :
  (dropPost q s).powered = s.powered ∧ (dropPost q s).free = s.free ∧ (dropPost q s).tick = s.tick ∧
    (dropPost q s).secTick = s.secTick ∧ (dropPost q s).clock = s.clock ∧ (dropPost q s).ports = s.ports ∧
    (dropPost q s).cls = s.cls ∧ (dropPost q s).zones = s.zones ∧ (dropPost q s).rot = s.rot ∧
    (dropPost q s).burner = s.burner ∧ (dropPost q s).recov = s.recov ∧ (dropPost q s).gauge = s.gauge ∧
    (dropPost q s).oil = s.oil ∧ (dropPost q s).mgmt = s.mgmt ∧ (dropPost q s).store = s.store ∧
    (dropPost q s).pending = s.pending := by
  unfold dropPost
  (repeat' split) <;> simp

@[simp] theorem changePost_frame (q : Post → Bool) (f : Post → Post) (s : State) :
  (changePost q f s).powered = s.powered ∧ (changePost q f s).free = s.free ∧ (changePost q f s).tick = s.tick ∧
    (changePost q f s).secTick = s.secTick ∧ (changePost q f s).clock = s.clock ∧
    (changePost q f s).ports = s.ports ∧ (changePost q f s).cls = s.cls ∧ (changePost q f s).zones = s.zones ∧
    (changePost q f s).rot = s.rot ∧ (changePost q f s).burner = s.burner ∧ (changePost q f s).recov = s.recov ∧
    (changePost q f s).gauge = s.gauge ∧ (changePost q f s).oil = s.oil ∧ (changePost q f s).mgmt = s.mgmt ∧
    (changePost q f s).store = s.store ∧ (changePost q f s).pending = s.pending := by
  unfold changePost
  (repeat' split) <;> simp

@[simp] theorem postInternal_frame (n : Internal) (s : State) :
  (postInternal n s).powered = s.powered ∧ (postInternal n s).free = s.free ∧ (postInternal n s).tick = s.tick ∧
    (postInternal n s).secTick = s.secTick ∧ (postInternal n s).clock = s.clock ∧
    (postInternal n s).ports = s.ports ∧ (postInternal n s).cls = s.cls ∧ (postInternal n s).zones = s.zones ∧
    (postInternal n s).rot = s.rot ∧ (postInternal n s).burner = s.burner ∧ (postInternal n s).recov = s.recov ∧
    (postInternal n s).gauge = s.gauge ∧ (postInternal n s).oil = s.oil ∧ (postInternal n s).mgmt = s.mgmt ∧
    (postInternal n s).store = s.store ∧ (postInternal n s).pending = s.pending := by
  unfold postInternal
  (repeat' split) <;> simp

@[simp] theorem meetOutstanding_frame (d : Byte) (taken : Option Nat) (s : State) :
  (meetOutstanding d taken s).powered = s.powered ∧ (meetOutstanding d taken s).free = s.free ∧
    (meetOutstanding d taken s).tick = s.tick ∧ (meetOutstanding d taken s).secTick = s.secTick ∧
    (meetOutstanding d taken s).clock = s.clock ∧ (meetOutstanding d taken s).cls = s.cls ∧
    (meetOutstanding d taken s).recov = s.recov ∧ (meetOutstanding d taken s).gauge = s.gauge ∧
    (meetOutstanding d taken s).store = s.store ∧ (meetOutstanding d taken s).pending = s.pending ∧
    (meetOutstanding d taken s).ports.fieldAsm = s.ports.fieldAsm ∧
    (meetOutstanding d taken s).ports.houseAsm = s.ports.houseAsm ∧
    (meetOutstanding d taken s).ports.fieldRx = s.ports.fieldRx ∧
    (meetOutstanding d taken s).ports.houseRx = s.ports.houseRx ∧
    (meetOutstanding d taken s).ports.fieldTx = s.ports.fieldTx ∧
    (meetOutstanding d taken s).ports.fde = s.ports.fde ∧
    (meetOutstanding d taken s).ports.lastSeen = s.ports.lastSeen ∧
    (meetOutstanding d taken s).ports.houseOnLine = s.ports.houseOnLine ∧
    (meetOutstanding d taken s).ports.rdy = s.ports.rdy ∧ (meetOutstanding d taken s).mgmt.enable = s.mgmt.enable ∧
    (meetOutstanding d taken s).mgmt.restart = s.mgmt.restart := by
  unfold meetOutstanding
  (repeat' split) <;> simp

@[simp] theorem offerReply_frame (d : Byte) (endTime : Tick) (s : State) :
  (offerReply d endTime s).powered = s.powered ∧ (offerReply d endTime s).free = s.free ∧
    (offerReply d endTime s).tick = s.tick ∧ (offerReply d endTime s).secTick = s.secTick ∧
    (offerReply d endTime s).clock = s.clock ∧ (offerReply d endTime s).cls = s.cls ∧
    (offerReply d endTime s).zones = s.zones ∧ (offerReply d endTime s).rot = s.rot ∧
    (offerReply d endTime s).burner = s.burner ∧ (offerReply d endTime s).recov = s.recov ∧
    (offerReply d endTime s).gauge = s.gauge ∧ (offerReply d endTime s).oil = s.oil ∧
    (offerReply d endTime s).mgmt = s.mgmt ∧ (offerReply d endTime s).store = s.store ∧
    (offerReply d endTime s).pending = s.pending ∧ (offerReply d endTime s).ports.fieldAsm = s.ports.fieldAsm ∧
    (offerReply d endTime s).ports.houseAsm = s.ports.houseAsm ∧
    (offerReply d endTime s).ports.fieldRx = s.ports.fieldRx ∧
    (offerReply d endTime s).ports.houseRx = s.ports.houseRx ∧ (offerReply d endTime s).ports.fde = s.ports.fde ∧
    (offerReply d endTime s).ports.lastSeen = s.ports.lastSeen ∧
    (offerReply d endTime s).ports.houseOnLine = s.ports.houseOnLine ∧
    (offerReply d endTime s).ports.rdy = s.ports.rdy := by
  unfold offerReply
  (repeat' split) <;> simp

@[simp] theorem wake_frame (d : Byte) (taken : Option Nat) (endTime : Tick) (s : State) :
  (wake d taken endTime s).powered = s.powered ∧ (wake d taken endTime s).free = s.free ∧
    (wake d taken endTime s).tick = s.tick ∧ (wake d taken endTime s).secTick = s.secTick ∧
    (wake d taken endTime s).clock = s.clock ∧ (wake d taken endTime s).cls = s.cls ∧
    (wake d taken endTime s).recov = s.recov ∧ (wake d taken endTime s).gauge = s.gauge ∧
    (wake d taken endTime s).store = s.store ∧ (wake d taken endTime s).pending = s.pending ∧
    (wake d taken endTime s).ports.fieldAsm = s.ports.fieldAsm ∧
    (wake d taken endTime s).ports.houseAsm = s.ports.houseAsm ∧
    (wake d taken endTime s).ports.fieldRx = s.ports.fieldRx ∧
    (wake d taken endTime s).ports.houseRx = s.ports.houseRx ∧ (wake d taken endTime s).ports.fde = s.ports.fde ∧
    (wake d taken endTime s).ports.lastSeen = s.ports.lastSeen ∧
    (wake d taken endTime s).ports.houseOnLine = s.ports.houseOnLine ∧
    (wake d taken endTime s).ports.rdy = s.ports.rdy ∧ (wake d taken endTime s).mgmt.enable = s.mgmt.enable ∧
    (wake d taken endTime s).mgmt.restart = s.mgmt.restart := by
  unfold wake
  (repeat' split) <;> simp

@[simp] theorem reportOutcome_frame (e : TxEntry) (o : TxOutcome) (s : State) :
  (reportOutcome e o s).powered = s.powered ∧ (reportOutcome e o s).free = s.free ∧
    (reportOutcome e o s).tick = s.tick ∧ (reportOutcome e o s).secTick = s.secTick ∧
    (reportOutcome e o s).clock = s.clock ∧ (reportOutcome e o s).ports = s.ports ∧
    (reportOutcome e o s).cls = s.cls ∧ (reportOutcome e o s).zones = s.zones ∧ (reportOutcome e o s).rot = s.rot ∧
    (reportOutcome e o s).burner = s.burner ∧ (reportOutcome e o s).recov = s.recov ∧
    (reportOutcome e o s).gauge = s.gauge ∧ (reportOutcome e o s).oil = s.oil ∧ (reportOutcome e o s).mgmt = s.mgmt ∧
    (reportOutcome e o s).store = s.store ∧ (reportOutcome e o s).pending = s.pending := by
  unfold reportOutcome
  (repeat' split) <;> simp

@[simp] theorem postExpires_frame (d : Byte) (tag : Nat) (s : State) :
  (postExpires d tag s).powered = s.powered ∧ (postExpires d tag s).free = s.free ∧
    (postExpires d tag s).tick = s.tick ∧ (postExpires d tag s).secTick = s.secTick ∧
    (postExpires d tag s).clock = s.clock ∧ (postExpires d tag s).cls = s.cls ∧
    (postExpires d tag s).zones = s.zones ∧ (postExpires d tag s).rot = s.rot ∧
    (postExpires d tag s).burner = s.burner ∧ (postExpires d tag s).recov = s.recov ∧
    (postExpires d tag s).gauge = s.gauge ∧ (postExpires d tag s).oil = s.oil ∧
    (postExpires d tag s).store = s.store ∧ (postExpires d tag s).pending = s.pending ∧
    (postExpires d tag s).ports.fieldAsm = s.ports.fieldAsm ∧
    (postExpires d tag s).ports.houseAsm = s.ports.houseAsm ∧ (postExpires d tag s).ports.fieldRx = s.ports.fieldRx ∧
    (postExpires d tag s).ports.houseRx = s.ports.houseRx ∧ (postExpires d tag s).ports.fieldTx = s.ports.fieldTx ∧
    (postExpires d tag s).ports.fde = s.ports.fde ∧ (postExpires d tag s).ports.lastSeen = s.ports.lastSeen ∧
    (postExpires d tag s).ports.houseOnLine = s.ports.houseOnLine ∧ (postExpires d tag s).ports.rdy = s.ports.rdy ∧
    (postExpires d tag s).mgmt.enable = s.mgmt.enable ∧ (postExpires d tag s).mgmt.restart = s.mgmt.restart := by
  unfold postExpires
  (repeat' split) <;> simp

@[simp] theorem recovTo_frame (st : RecState) (timer : Option Nat) (s : State) :
  (recovTo st timer s).powered = s.powered ∧ (recovTo st timer s).free = s.free ∧
    (recovTo st timer s).tick = s.tick ∧ (recovTo st timer s).secTick = s.secTick ∧
    (recovTo st timer s).clock = s.clock ∧ (recovTo st timer s).ports = s.ports ∧ (recovTo st timer s).cls = s.cls ∧
    (recovTo st timer s).zones = s.zones ∧ (recovTo st timer s).rot = s.rot ∧ (recovTo st timer s).gauge = s.gauge ∧
    (recovTo st timer s).postbox = s.postbox ∧ (recovTo st timer s).mgmt = s.mgmt ∧
    (recovTo st timer s).store = s.store ∧ (recovTo st timer s).pending = s.pending ∧
    (recovTo st timer s).recov.word = s.recov.word ∧ (recovTo st timer s).recov.side = s.recov.side ∧
    (recovTo st timer s).recov.hold = s.recov.hold := by
  unfold recovTo
  (repeat' split) <;> simp

@[simp] theorem addRecord_frame (begin : Clock) (c : Cause) (o : RecOutcome) (s : State) :
  (addRecord begin c o s).powered = s.powered ∧ (addRecord begin c o s).free = s.free ∧
    (addRecord begin c o s).tick = s.tick ∧ (addRecord begin c o s).secTick = s.secTick ∧
    (addRecord begin c o s).clock = s.clock ∧ (addRecord begin c o s).ports = s.ports ∧
    (addRecord begin c o s).cls = s.cls ∧ (addRecord begin c o s).zones = s.zones ∧
    (addRecord begin c o s).rot = s.rot ∧ (addRecord begin c o s).burner = s.burner ∧
    (addRecord begin c o s).gauge = s.gauge ∧ (addRecord begin c o s).oil = s.oil ∧
    (addRecord begin c o s).postbox = s.postbox ∧ (addRecord begin c o s).mgmt = s.mgmt ∧
    (addRecord begin c o s).store = s.store ∧ (addRecord begin c o s).pending = s.pending ∧
    (addRecord begin c o s).recov.word = s.recov.word ∧ (addRecord begin c o s).recov.side = s.recov.side ∧
    (addRecord begin c o s).recov.hold = s.recov.hold := by
  unfold addRecord
  (repeat' split) <;> simp

@[simp] theorem closeRecord_frame (o : RecOutcome) (s : State) :
  (closeRecord o s).powered = s.powered ∧ (closeRecord o s).free = s.free ∧ (closeRecord o s).tick = s.tick ∧
    (closeRecord o s).secTick = s.secTick ∧ (closeRecord o s).clock = s.clock ∧ (closeRecord o s).ports = s.ports ∧
    (closeRecord o s).cls = s.cls ∧ (closeRecord o s).zones = s.zones ∧ (closeRecord o s).rot = s.rot ∧
    (closeRecord o s).burner = s.burner ∧ (closeRecord o s).gauge = s.gauge ∧ (closeRecord o s).oil = s.oil ∧
    (closeRecord o s).postbox = s.postbox ∧ (closeRecord o s).mgmt = s.mgmt ∧ (closeRecord o s).store = s.store ∧
    (closeRecord o s).pending = s.pending ∧ (closeRecord o s).recov.word = s.recov.word ∧
    (closeRecord o s).recov.side = s.recov.side ∧ (closeRecord o s).recov.hold = s.recov.hold := by
  unfold closeRecord
  (repeat' split) <;> simp

@[simp] theorem addBudget_frame (t : Clock) (s : State) :
  (addBudget t s).powered = s.powered ∧ (addBudget t s).free = s.free ∧ (addBudget t s).tick = s.tick ∧
    (addBudget t s).secTick = s.secTick ∧ (addBudget t s).clock = s.clock ∧ (addBudget t s).ports = s.ports ∧
    (addBudget t s).cls = s.cls ∧ (addBudget t s).zones = s.zones ∧ (addBudget t s).rot = s.rot ∧
    (addBudget t s).burner = s.burner ∧ (addBudget t s).gauge = s.gauge ∧ (addBudget t s).oil = s.oil ∧
    (addBudget t s).postbox = s.postbox ∧ (addBudget t s).mgmt = s.mgmt ∧ (addBudget t s).store = s.store ∧
    (addBudget t s).pending = s.pending ∧ (addBudget t s).recov.word = s.recov.word ∧
    (addBudget t s).recov.side = s.recov.side ∧ (addBudget t s).recov.hold = s.recov.hold := by
  unfold addBudget
  (repeat' split) <;> simp

@[simp] theorem beginPulse_frame (c : Cause) (s : State) :
  (beginPulse c s).powered = s.powered ∧ (beginPulse c s).free = s.free ∧ (beginPulse c s).tick = s.tick ∧
    (beginPulse c s).secTick = s.secTick ∧ (beginPulse c s).clock = s.clock ∧ (beginPulse c s).ports = s.ports ∧
    (beginPulse c s).cls = s.cls ∧ (beginPulse c s).zones = s.zones ∧ (beginPulse c s).rot = s.rot ∧
    (beginPulse c s).gauge = s.gauge ∧ (beginPulse c s).postbox = s.postbox ∧ (beginPulse c s).mgmt = s.mgmt ∧
    (beginPulse c s).store = s.store ∧ (beginPulse c s).pending = s.pending ∧
    (beginPulse c s).recov.word = s.recov.word ∧ (beginPulse c s).recov.side = s.recov.side ∧
    (beginPulse c s).recov.hold = s.recov.hold := by
  unfold beginPulse
  (repeat' split) <;> simp

@[simp] theorem toCooling_frame (s : State) :
  (toCooling s).powered = s.powered ∧ (toCooling s).free = s.free ∧ (toCooling s).tick = s.tick ∧
    (toCooling s).secTick = s.secTick ∧ (toCooling s).clock = s.clock ∧ (toCooling s).ports = s.ports ∧
    (toCooling s).cls = s.cls ∧ (toCooling s).zones = s.zones ∧ (toCooling s).rot = s.rot ∧
    (toCooling s).gauge = s.gauge ∧ (toCooling s).postbox = s.postbox ∧ (toCooling s).mgmt = s.mgmt ∧
    (toCooling s).store = s.store ∧ (toCooling s).pending = s.pending ∧ (toCooling s).recov.word = s.recov.word ∧
    (toCooling s).recov.side = s.recov.side ∧ (toCooling s).recov.hold = s.recov.hold := by
  unfold toCooling
  (repeat' split) <;> simp

@[simp] theorem enterWait_frame (st : RecState) (s : State) :
  (enterWait st s).powered = s.powered ∧ (enterWait st s).free = s.free ∧ (enterWait st s).tick = s.tick ∧
    (enterWait st s).secTick = s.secTick ∧ (enterWait st s).clock = s.clock ∧ (enterWait st s).cls = s.cls ∧
    (enterWait st s).zones = s.zones ∧ (enterWait st s).rot = s.rot ∧ (enterWait st s).gauge = s.gauge ∧
    (enterWait st s).postbox = s.postbox ∧ (enterWait st s).store = s.store ∧ (enterWait st s).pending = s.pending ∧
    (enterWait st s).ports.fieldAsm = s.ports.fieldAsm ∧ (enterWait st s).ports.houseAsm = s.ports.houseAsm ∧
    (enterWait st s).ports.fieldRx = s.ports.fieldRx ∧ (enterWait st s).ports.houseRx = s.ports.houseRx ∧
    (enterWait st s).ports.fieldTx = s.ports.fieldTx ∧ (enterWait st s).ports.fde = s.ports.fde ∧
    (enterWait st s).ports.lastSeen = s.ports.lastSeen ∧ (enterWait st s).ports.houseOnLine = s.ports.houseOnLine ∧
    (enterWait st s).ports.rdy = s.ports.rdy ∧ (enterWait st s).mgmt.enable = s.mgmt.enable ∧
    (enterWait st s).mgmt.restart = s.mgmt.restart ∧ (enterWait st s).recov.word = s.recov.word ∧
    (enterWait st s).recov.side = s.recov.side ∧ (enterWait st s).recov.hold = s.recov.hold := by
  unfold enterWait
  (repeat' split) <;> simp

@[simp] theorem enterHard_frame (s : State) :
  (enterHard s).powered = s.powered ∧ (enterHard s).free = s.free ∧ (enterHard s).tick = s.tick ∧
    (enterHard s).secTick = s.secTick ∧ (enterHard s).clock = s.clock ∧ (enterHard s).cls = s.cls ∧
    (enterHard s).zones = s.zones ∧ (enterHard s).rot = s.rot ∧ (enterHard s).gauge = s.gauge ∧
    (enterHard s).store = s.store ∧ (enterHard s).pending = s.pending ∧
    (enterHard s).ports.fieldAsm = s.ports.fieldAsm ∧ (enterHard s).ports.houseAsm = s.ports.houseAsm ∧
    (enterHard s).ports.fieldRx = s.ports.fieldRx ∧ (enterHard s).ports.houseRx = s.ports.houseRx ∧
    (enterHard s).ports.fieldTx = s.ports.fieldTx ∧ (enterHard s).ports.fde = s.ports.fde ∧
    (enterHard s).ports.lastSeen = s.ports.lastSeen ∧ (enterHard s).ports.houseOnLine = s.ports.houseOnLine ∧
    (enterHard s).ports.rdy = s.ports.rdy ∧ (enterHard s).mgmt.enable = s.mgmt.enable ∧
    (enterHard s).mgmt.restart = s.mgmt.restart ∧ (enterHard s).recov.word = s.recov.word ∧
    (enterHard s).recov.side = s.recov.side ∧ (enterHard s).recov.hold = s.recov.hold := by
  unfold enterHard
  (repeat' split) <;> simp

@[simp] theorem dueCheck_frame (s : State) :
  (dueCheck s).powered = s.powered ∧ (dueCheck s).free = s.free ∧ (dueCheck s).tick = s.tick ∧
    (dueCheck s).secTick = s.secTick ∧ (dueCheck s).clock = s.clock ∧ (dueCheck s).cls = s.cls ∧
    (dueCheck s).zones = s.zones ∧ (dueCheck s).rot = s.rot ∧ (dueCheck s).gauge = s.gauge ∧
    (dueCheck s).store = s.store ∧ (dueCheck s).pending = s.pending ∧
    (dueCheck s).ports.fieldAsm = s.ports.fieldAsm ∧ (dueCheck s).ports.houseAsm = s.ports.houseAsm ∧
    (dueCheck s).ports.fieldRx = s.ports.fieldRx ∧ (dueCheck s).ports.houseRx = s.ports.houseRx ∧
    (dueCheck s).ports.fieldTx = s.ports.fieldTx ∧ (dueCheck s).ports.fde = s.ports.fde ∧
    (dueCheck s).ports.lastSeen = s.ports.lastSeen ∧ (dueCheck s).ports.houseOnLine = s.ports.houseOnLine ∧
    (dueCheck s).ports.rdy = s.ports.rdy ∧ (dueCheck s).mgmt.enable = s.mgmt.enable ∧
    (dueCheck s).mgmt.restart = s.mgmt.restart ∧ (dueCheck s).recov.word = s.recov.word ∧
    (dueCheck s).recov.side = s.recov.side ∧ (dueCheck s).recov.hold = s.recov.hold := by
  unfold dueCheck
  (repeat' split) <;> simp

@[simp] theorem dueTrigger_frame (s : State) :
  (dueTrigger s).powered = s.powered ∧ (dueTrigger s).free = s.free ∧ (dueTrigger s).tick = s.tick ∧
    (dueTrigger s).secTick = s.secTick ∧ (dueTrigger s).clock = s.clock ∧ (dueTrigger s).cls = s.cls ∧
    (dueTrigger s).zones = s.zones ∧ (dueTrigger s).rot = s.rot ∧ (dueTrigger s).gauge = s.gauge ∧
    (dueTrigger s).store = s.store ∧ (dueTrigger s).pending = s.pending ∧
    (dueTrigger s).ports.fieldAsm = s.ports.fieldAsm ∧ (dueTrigger s).ports.houseAsm = s.ports.houseAsm ∧
    (dueTrigger s).ports.fieldRx = s.ports.fieldRx ∧ (dueTrigger s).ports.houseRx = s.ports.houseRx ∧
    (dueTrigger s).ports.fieldTx = s.ports.fieldTx ∧ (dueTrigger s).ports.fde = s.ports.fde ∧
    (dueTrigger s).ports.lastSeen = s.ports.lastSeen ∧ (dueTrigger s).ports.houseOnLine = s.ports.houseOnLine ∧
    (dueTrigger s).ports.rdy = s.ports.rdy ∧ (dueTrigger s).mgmt.enable = s.mgmt.enable ∧
    (dueTrigger s).mgmt.restart = s.mgmt.restart ∧ (dueTrigger s).recov.word = s.recov.word ∧
    (dueTrigger s).recov.side = s.recov.side ∧ (dueTrigger s).recov.hold = s.recov.hold := by
  unfold dueTrigger
  (repeat' split) <;> simp

@[simp] theorem proveAttempt_frame (s : State) :
  (proveAttempt s).powered = s.powered ∧ (proveAttempt s).free = s.free ∧ (proveAttempt s).tick = s.tick ∧
    (proveAttempt s).secTick = s.secTick ∧ (proveAttempt s).clock = s.clock ∧ (proveAttempt s).cls = s.cls ∧
    (proveAttempt s).zones = s.zones ∧ (proveAttempt s).rot = s.rot ∧ (proveAttempt s).gauge = s.gauge ∧
    (proveAttempt s).store = s.store ∧ (proveAttempt s).pending = s.pending ∧
    (proveAttempt s).ports.fieldAsm = s.ports.fieldAsm ∧ (proveAttempt s).ports.houseAsm = s.ports.houseAsm ∧
    (proveAttempt s).ports.fieldRx = s.ports.fieldRx ∧ (proveAttempt s).ports.houseRx = s.ports.houseRx ∧
    (proveAttempt s).ports.fieldTx = s.ports.fieldTx ∧ (proveAttempt s).ports.fde = s.ports.fde ∧
    (proveAttempt s).ports.lastSeen = s.ports.lastSeen ∧ (proveAttempt s).ports.houseOnLine = s.ports.houseOnLine ∧
    (proveAttempt s).ports.rdy = s.ports.rdy ∧ (proveAttempt s).mgmt.enable = s.mgmt.enable ∧
    (proveAttempt s).mgmt.restart = s.mgmt.restart ∧ (proveAttempt s).recov.word = s.recov.word ∧
    (proveAttempt s).recov.side = s.recov.side ∧ (proveAttempt s).recov.hold = s.recov.hold := by
  unfold proveAttempt
  (repeat' split) <;> simp

@[simp] theorem manualReset_frame (s : State) :
  (manualReset s).powered = s.powered ∧ (manualReset s).free = s.free ∧ (manualReset s).tick = s.tick ∧
    (manualReset s).secTick = s.secTick ∧ (manualReset s).clock = s.clock ∧ (manualReset s).cls = s.cls ∧
    (manualReset s).zones = s.zones ∧ (manualReset s).rot = s.rot ∧ (manualReset s).gauge = s.gauge ∧
    (manualReset s).store = s.store ∧ (manualReset s).pending = s.pending ∧
    (manualReset s).ports.fieldAsm = s.ports.fieldAsm ∧ (manualReset s).ports.houseAsm = s.ports.houseAsm ∧
    (manualReset s).ports.fieldRx = s.ports.fieldRx ∧ (manualReset s).ports.houseRx = s.ports.houseRx ∧
    (manualReset s).ports.fieldTx = s.ports.fieldTx ∧ (manualReset s).ports.fde = s.ports.fde ∧
    (manualReset s).ports.lastSeen = s.ports.lastSeen ∧ (manualReset s).ports.houseOnLine = s.ports.houseOnLine ∧
    (manualReset s).ports.rdy = s.ports.rdy ∧ (manualReset s).mgmt.enable = s.mgmt.enable ∧
    (manualReset s).mgmt.restart = s.mgmt.restart ∧ (manualReset s).recov.word = s.recov.word ∧
    (manualReset s).recov.side = s.recov.side ∧ (manualReset s).recov.hold = s.recov.hold := by
  unfold manualReset
  (repeat' split) <;> simp

@[simp] theorem powerOnPenalty_frame (s : State) :
  (powerOnPenalty s).powered = s.powered ∧ (powerOnPenalty s).free = s.free ∧ (powerOnPenalty s).tick = s.tick ∧
    (powerOnPenalty s).secTick = s.secTick ∧ (powerOnPenalty s).clock = s.clock ∧
    (powerOnPenalty s).ports = s.ports ∧ (powerOnPenalty s).cls = s.cls ∧ (powerOnPenalty s).zones = s.zones ∧
    (powerOnPenalty s).rot = s.rot ∧ (powerOnPenalty s).burner = s.burner ∧ (powerOnPenalty s).gauge = s.gauge ∧
    (powerOnPenalty s).oil = s.oil ∧ (powerOnPenalty s).postbox = s.postbox ∧ (powerOnPenalty s).mgmt = s.mgmt ∧
    (powerOnPenalty s).store = s.store ∧ (powerOnPenalty s).pending = s.pending ∧
    (powerOnPenalty s).recov.word = s.recov.word ∧ (powerOnPenalty s).recov.side = s.recov.side ∧
    (powerOnPenalty s).recov.hold = s.recov.hold := by
  unfold powerOnPenalty
  (repeat' split) <;> simp

@[simp] theorem takeLockout_frame (present : Bool) (left : BurnerState) (s : State) :
  (takeLockout present left s).powered = s.powered ∧ (takeLockout present left s).free = s.free ∧
    (takeLockout present left s).tick = s.tick ∧ (takeLockout present left s).secTick = s.secTick ∧
    (takeLockout present left s).clock = s.clock ∧ (takeLockout present left s).cls = s.cls ∧
    (takeLockout present left s).zones = s.zones ∧ (takeLockout present left s).rot = s.rot ∧
    (takeLockout present left s).gauge = s.gauge ∧ (takeLockout present left s).store = s.store ∧
    (takeLockout present left s).pending = s.pending ∧
    (takeLockout present left s).ports.fieldAsm = s.ports.fieldAsm ∧
    (takeLockout present left s).ports.houseAsm = s.ports.houseAsm ∧
    (takeLockout present left s).ports.fieldRx = s.ports.fieldRx ∧
    (takeLockout present left s).ports.houseRx = s.ports.houseRx ∧
    (takeLockout present left s).ports.fieldTx = s.ports.fieldTx ∧
    (takeLockout present left s).ports.fde = s.ports.fde ∧
    (takeLockout present left s).ports.lastSeen = s.ports.lastSeen ∧
    (takeLockout present left s).ports.houseOnLine = s.ports.houseOnLine ∧
    (takeLockout present left s).ports.rdy = s.ports.rdy ∧ (takeLockout present left s).mgmt.enable = s.mgmt.enable ∧
    (takeLockout present left s).mgmt.restart = s.mgmt.restart ∧
    (takeLockout present left s).recov.word = s.recov.word ∧ (takeLockout present left s).recov.side = s.recov.side ∧
    (takeLockout present left s).recov.hold = s.recov.hold := by
  unfold takeLockout
  (repeat' split) <;> simp

@[simp] theorem toProving_frame (s : State) :
  (toProving s).powered = s.powered ∧ (toProving s).free = s.free ∧ (toProving s).tick = s.tick ∧
    (toProving s).secTick = s.secTick ∧ (toProving s).clock = s.clock ∧ (toProving s).ports = s.ports ∧
    (toProving s).cls = s.cls ∧ (toProving s).zones = s.zones ∧ (toProving s).rot = s.rot ∧
    (toProving s).gauge = s.gauge ∧ (toProving s).postbox = s.postbox ∧ (toProving s).mgmt = s.mgmt ∧
    (toProving s).store = s.store ∧ (toProving s).pending = s.pending ∧ (toProving s).recov.word = s.recov.word ∧
    (toProving s).recov.side = s.recov.side ∧ (toProving s).recov.hold = s.recov.hold := by
  unfold toProving
  (repeat' split) <;> simp

@[simp] theorem takeLockClear_frame (s : State) :
  (takeLockClear s).powered = s.powered ∧ (takeLockClear s).free = s.free ∧ (takeLockClear s).tick = s.tick ∧
    (takeLockClear s).secTick = s.secTick ∧ (takeLockClear s).clock = s.clock ∧ (takeLockClear s).cls = s.cls ∧
    (takeLockClear s).zones = s.zones ∧ (takeLockClear s).rot = s.rot ∧ (takeLockClear s).gauge = s.gauge ∧
    (takeLockClear s).store = s.store ∧ (takeLockClear s).pending = s.pending ∧
    (takeLockClear s).ports.fieldAsm = s.ports.fieldAsm ∧ (takeLockClear s).ports.houseAsm = s.ports.houseAsm ∧
    (takeLockClear s).ports.fieldRx = s.ports.fieldRx ∧ (takeLockClear s).ports.houseRx = s.ports.houseRx ∧
    (takeLockClear s).ports.fieldTx = s.ports.fieldTx ∧ (takeLockClear s).ports.fde = s.ports.fde ∧
    (takeLockClear s).ports.lastSeen = s.ports.lastSeen ∧ (takeLockClear s).ports.houseOnLine = s.ports.houseOnLine ∧
    (takeLockClear s).ports.rdy = s.ports.rdy ∧ (takeLockClear s).mgmt.enable = s.mgmt.enable ∧
    (takeLockClear s).mgmt.restart = s.mgmt.restart ∧ (takeLockClear s).recov.word = s.recov.word ∧
    (takeLockClear s).recov.side = s.recov.side ∧ (takeLockClear s).recov.hold = s.recov.hold := by
  unfold takeLockClear
  (repeat' split) <;> simp

@[simp] theorem coolOffExpires_frame (s : State) :
  (coolOffExpires s).powered = s.powered ∧ (coolOffExpires s).free = s.free ∧ (coolOffExpires s).tick = s.tick ∧
    (coolOffExpires s).secTick = s.secTick ∧ (coolOffExpires s).clock = s.clock ∧ (coolOffExpires s).cls = s.cls ∧
    (coolOffExpires s).zones = s.zones ∧ (coolOffExpires s).rot = s.rot ∧ (coolOffExpires s).gauge = s.gauge ∧
    (coolOffExpires s).store = s.store ∧ (coolOffExpires s).pending = s.pending ∧
    (coolOffExpires s).ports.fieldAsm = s.ports.fieldAsm ∧ (coolOffExpires s).ports.houseAsm = s.ports.houseAsm ∧
    (coolOffExpires s).ports.fieldRx = s.ports.fieldRx ∧ (coolOffExpires s).ports.houseRx = s.ports.houseRx ∧
    (coolOffExpires s).ports.fieldTx = s.ports.fieldTx ∧ (coolOffExpires s).ports.fde = s.ports.fde ∧
    (coolOffExpires s).ports.lastSeen = s.ports.lastSeen ∧
    (coolOffExpires s).ports.houseOnLine = s.ports.houseOnLine ∧ (coolOffExpires s).ports.rdy = s.ports.rdy ∧
    (coolOffExpires s).mgmt.enable = s.mgmt.enable ∧ (coolOffExpires s).mgmt.restart = s.mgmt.restart ∧
    (coolOffExpires s).recov.word = s.recov.word ∧ (coolOffExpires s).recov.side = s.recov.side ∧
    (coolOffExpires s).recov.hold = s.recov.hold := by
  unfold coolOffExpires
  (repeat' split) <;> simp

@[simp] theorem spacingExpires_frame (s : State) :
  (spacingExpires s).powered = s.powered ∧ (spacingExpires s).free = s.free ∧ (spacingExpires s).tick = s.tick ∧
    (spacingExpires s).secTick = s.secTick ∧ (spacingExpires s).clock = s.clock ∧ (spacingExpires s).cls = s.cls ∧
    (spacingExpires s).zones = s.zones ∧ (spacingExpires s).rot = s.rot ∧ (spacingExpires s).gauge = s.gauge ∧
    (spacingExpires s).store = s.store ∧ (spacingExpires s).pending = s.pending ∧
    (spacingExpires s).ports.fieldAsm = s.ports.fieldAsm ∧ (spacingExpires s).ports.houseAsm = s.ports.houseAsm ∧
    (spacingExpires s).ports.fieldRx = s.ports.fieldRx ∧ (spacingExpires s).ports.houseRx = s.ports.houseRx ∧
    (spacingExpires s).ports.fieldTx = s.ports.fieldTx ∧ (spacingExpires s).ports.fde = s.ports.fde ∧
    (spacingExpires s).ports.lastSeen = s.ports.lastSeen ∧
    (spacingExpires s).ports.houseOnLine = s.ports.houseOnLine ∧ (spacingExpires s).ports.rdy = s.ports.rdy ∧
    (spacingExpires s).mgmt.enable = s.mgmt.enable ∧ (spacingExpires s).mgmt.restart = s.mgmt.restart ∧
    (spacingExpires s).recov.word = s.recov.word ∧ (spacingExpires s).recov.side = s.recov.side ∧
    (spacingExpires s).recov.hold = s.recov.hold := by
  unfold spacingExpires
  (repeat' split) <;> simp

@[simp] theorem budgetEntryAgesOut_frame (s : State) :
  (budgetEntryAgesOut s).powered = s.powered ∧ (budgetEntryAgesOut s).free = s.free ∧
    (budgetEntryAgesOut s).tick = s.tick ∧ (budgetEntryAgesOut s).secTick = s.secTick ∧
    (budgetEntryAgesOut s).clock = s.clock ∧ (budgetEntryAgesOut s).ports = s.ports ∧
    (budgetEntryAgesOut s).cls = s.cls ∧ (budgetEntryAgesOut s).zones = s.zones ∧
    (budgetEntryAgesOut s).rot = s.rot ∧ (budgetEntryAgesOut s).burner = s.burner ∧
    (budgetEntryAgesOut s).gauge = s.gauge ∧ (budgetEntryAgesOut s).oil = s.oil ∧
    (budgetEntryAgesOut s).postbox = s.postbox ∧ (budgetEntryAgesOut s).mgmt = s.mgmt ∧
    (budgetEntryAgesOut s).store = s.store ∧ (budgetEntryAgesOut s).pending = s.pending := by
  unfold budgetEntryAgesOut
  (repeat' split) <;> simp

@[simp] theorem pregapEnds_frame (s : State) :
  (pregapEnds s).powered = s.powered ∧ (pregapEnds s).free = s.free ∧ (pregapEnds s).tick = s.tick ∧
    (pregapEnds s).secTick = s.secTick ∧ (pregapEnds s).clock = s.clock ∧ (pregapEnds s).ports = s.ports ∧
    (pregapEnds s).cls = s.cls ∧ (pregapEnds s).zones = s.zones ∧ (pregapEnds s).rot = s.rot ∧
    (pregapEnds s).gauge = s.gauge ∧ (pregapEnds s).postbox = s.postbox ∧ (pregapEnds s).mgmt = s.mgmt ∧
    (pregapEnds s).store = s.store ∧ (pregapEnds s).pending = s.pending ∧ (pregapEnds s).recov.word = s.recov.word ∧
    (pregapEnds s).recov.side = s.recov.side ∧ (pregapEnds s).recov.hold = s.recov.hold := by
  unfold pregapEnds
  (repeat' split) <;> simp

@[simp] theorem pulseEnds_frame (s : State) :
  (pulseEnds s).powered = s.powered ∧ (pulseEnds s).free = s.free ∧ (pulseEnds s).tick = s.tick ∧
    (pulseEnds s).secTick = s.secTick ∧ (pulseEnds s).clock = s.clock ∧ (pulseEnds s).ports = s.ports ∧
    (pulseEnds s).cls = s.cls ∧ (pulseEnds s).zones = s.zones ∧ (pulseEnds s).rot = s.rot ∧
    (pulseEnds s).gauge = s.gauge ∧ (pulseEnds s).postbox = s.postbox ∧ (pulseEnds s).mgmt = s.mgmt ∧
    (pulseEnds s).store = s.store ∧ (pulseEnds s).pending = s.pending ∧ (pulseEnds s).recov.word = s.recov.word ∧
    (pulseEnds s).recov.side = s.recov.side ∧ (pulseEnds s).recov.hold = s.recov.hold := by
  unfold pulseEnds
  (repeat' split) <;> simp

@[simp] theorem postgapEnds_frame (s : State) :
  (postgapEnds s).powered = s.powered ∧ (postgapEnds s).free = s.free ∧ (postgapEnds s).tick = s.tick ∧
    (postgapEnds s).secTick = s.secTick ∧ (postgapEnds s).clock = s.clock ∧ (postgapEnds s).ports = s.ports ∧
    (postgapEnds s).cls = s.cls ∧ (postgapEnds s).zones = s.zones ∧ (postgapEnds s).rot = s.rot ∧
    (postgapEnds s).gauge = s.gauge ∧ (postgapEnds s).postbox = s.postbox ∧ (postgapEnds s).mgmt = s.mgmt ∧
    (postgapEnds s).store = s.store ∧ (postgapEnds s).pending = s.pending ∧
    (postgapEnds s).recov.word = s.recov.word ∧ (postgapEnds s).recov.side = s.recov.side ∧
    (postgapEnds s).recov.hold = s.recov.hold := by
  unfold postgapEnds
  (repeat' split) <;> simp

@[simp] theorem checkingExpires_frame (s : State) :
  (checkingExpires s).powered = s.powered ∧ (checkingExpires s).free = s.free ∧ (checkingExpires s).tick = s.tick ∧
    (checkingExpires s).secTick = s.secTick ∧ (checkingExpires s).clock = s.clock ∧
    (checkingExpires s).ports = s.ports ∧ (checkingExpires s).cls = s.cls ∧ (checkingExpires s).zones = s.zones ∧
    (checkingExpires s).rot = s.rot ∧ (checkingExpires s).gauge = s.gauge ∧ (checkingExpires s).postbox = s.postbox ∧
    (checkingExpires s).mgmt = s.mgmt ∧ (checkingExpires s).store = s.store ∧
    (checkingExpires s).pending = s.pending ∧ (checkingExpires s).recov.word = s.recov.word ∧
    (checkingExpires s).recov.side = s.recov.side ∧ (checkingExpires s).recov.hold = s.recov.hold := by
  unfold checkingExpires
  (repeat' split) <;> simp

@[simp] theorem provedEvent_frame (s : State) :
  (provedEvent s).powered = s.powered ∧ (provedEvent s).free = s.free ∧ (provedEvent s).tick = s.tick ∧
    (provedEvent s).secTick = s.secTick ∧ (provedEvent s).clock = s.clock ∧ (provedEvent s).cls = s.cls ∧
    (provedEvent s).zones = s.zones ∧ (provedEvent s).rot = s.rot ∧ (provedEvent s).gauge = s.gauge ∧
    (provedEvent s).store = s.store ∧ (provedEvent s).pending = s.pending ∧
    (provedEvent s).ports.fieldAsm = s.ports.fieldAsm ∧ (provedEvent s).ports.houseAsm = s.ports.houseAsm ∧
    (provedEvent s).ports.fieldRx = s.ports.fieldRx ∧ (provedEvent s).ports.houseRx = s.ports.houseRx ∧
    (provedEvent s).ports.fieldTx = s.ports.fieldTx ∧ (provedEvent s).ports.fde = s.ports.fde ∧
    (provedEvent s).ports.lastSeen = s.ports.lastSeen ∧ (provedEvent s).ports.houseOnLine = s.ports.houseOnLine ∧
    (provedEvent s).ports.rdy = s.ports.rdy ∧ (provedEvent s).mgmt.enable = s.mgmt.enable ∧
    (provedEvent s).mgmt.restart = s.mgmt.restart ∧ (provedEvent s).recov.word = s.recov.word ∧
    (provedEvent s).recov.side = s.recov.side ∧ (provedEvent s).recov.hold = s.recov.hold := by
  unfold provedEvent
  (repeat' split) <;> simp

@[simp] theorem claimHoldExpires_frame (s : State) :
  (claimHoldExpires s).powered = s.powered ∧ (claimHoldExpires s).free = s.free ∧
    (claimHoldExpires s).tick = s.tick ∧ (claimHoldExpires s).secTick = s.secTick ∧
    (claimHoldExpires s).clock = s.clock ∧ (claimHoldExpires s).cls = s.cls ∧ (claimHoldExpires s).zones = s.zones ∧
    (claimHoldExpires s).rot = s.rot ∧ (claimHoldExpires s).gauge = s.gauge ∧ (claimHoldExpires s).store = s.store ∧
    (claimHoldExpires s).pending = s.pending ∧ (claimHoldExpires s).ports.fieldAsm = s.ports.fieldAsm ∧
    (claimHoldExpires s).ports.houseAsm = s.ports.houseAsm ∧ (claimHoldExpires s).ports.fieldRx = s.ports.fieldRx ∧
    (claimHoldExpires s).ports.houseRx = s.ports.houseRx ∧ (claimHoldExpires s).ports.fieldTx = s.ports.fieldTx ∧
    (claimHoldExpires s).ports.fde = s.ports.fde ∧ (claimHoldExpires s).ports.lastSeen = s.ports.lastSeen ∧
    (claimHoldExpires s).ports.houseOnLine = s.ports.houseOnLine ∧ (claimHoldExpires s).ports.rdy = s.ports.rdy ∧
    (claimHoldExpires s).mgmt.enable = s.mgmt.enable ∧ (claimHoldExpires s).mgmt.restart = s.mgmt.restart := by
  unfold claimHoldExpires
  (repeat' split) <;> simp

@[simp] theorem remoteReset_frame (s : State) :
  (remoteReset s).2.powered = s.powered ∧ (remoteReset s).2.free = s.free ∧ (remoteReset s).2.tick = s.tick ∧
    (remoteReset s).2.secTick = s.secTick ∧ (remoteReset s).2.clock = s.clock ∧ (remoteReset s).2.ports = s.ports ∧
    (remoteReset s).2.cls = s.cls ∧ (remoteReset s).2.zones = s.zones ∧ (remoteReset s).2.rot = s.rot ∧
    (remoteReset s).2.gauge = s.gauge ∧ (remoteReset s).2.postbox = s.postbox ∧ (remoteReset s).2.mgmt = s.mgmt ∧
    (remoteReset s).2.store = s.store ∧ (remoteReset s).2.pending = s.pending ∧
    (remoteReset s).2.recov.word = s.recov.word ∧ (remoteReset s).2.recov.side = s.recov.side ∧
    (remoteReset s).2.recov.hold = s.recov.hold := by
  unfold remoteReset
  (repeat' split) <;> simp

@[simp] theorem serviceReset_frame (w : BitVec 16) (s : State) :
  (serviceReset w s).2.powered = s.powered ∧ (serviceReset w s).2.free = s.free ∧
    (serviceReset w s).2.tick = s.tick ∧ (serviceReset w s).2.secTick = s.secTick ∧
    (serviceReset w s).2.clock = s.clock ∧ (serviceReset w s).2.ports = s.ports ∧ (serviceReset w s).2.cls = s.cls ∧
    (serviceReset w s).2.zones = s.zones ∧ (serviceReset w s).2.rot = s.rot ∧ (serviceReset w s).2.gauge = s.gauge ∧
    (serviceReset w s).2.postbox = s.postbox ∧ (serviceReset w s).2.mgmt = s.mgmt ∧
    (serviceReset w s).2.store = s.store ∧ (serviceReset w s).2.pending = s.pending ∧
    (serviceReset w s).2.recov.word = s.recov.word ∧ (serviceReset w s).2.recov.side = s.recov.side ∧
    (serviceReset w s).2.recov.hold = s.recov.hold := by
  unfold serviceReset
  (repeat' split) <;> simp

@[simp] theorem clearHard_frame (w : BitVec 16) (s : State) :
  (clearHard w s).2.powered = s.powered ∧ (clearHard w s).2.free = s.free ∧ (clearHard w s).2.tick = s.tick ∧
    (clearHard w s).2.secTick = s.secTick ∧ (clearHard w s).2.clock = s.clock ∧ (clearHard w s).2.cls = s.cls ∧
    (clearHard w s).2.zones = s.zones ∧ (clearHard w s).2.rot = s.rot ∧ (clearHard w s).2.gauge = s.gauge ∧
    (clearHard w s).2.store = s.store ∧ (clearHard w s).2.pending = s.pending ∧
    (clearHard w s).2.ports.fieldAsm = s.ports.fieldAsm ∧ (clearHard w s).2.ports.houseAsm = s.ports.houseAsm ∧
    (clearHard w s).2.ports.fieldRx = s.ports.fieldRx ∧ (clearHard w s).2.ports.houseRx = s.ports.houseRx ∧
    (clearHard w s).2.ports.fieldTx = s.ports.fieldTx ∧ (clearHard w s).2.ports.fde = s.ports.fde ∧
    (clearHard w s).2.ports.lastSeen = s.ports.lastSeen ∧ (clearHard w s).2.ports.houseOnLine = s.ports.houseOnLine ∧
    (clearHard w s).2.ports.rdy = s.ports.rdy ∧ (clearHard w s).2.mgmt.enable = s.mgmt.enable ∧
    (clearHard w s).2.mgmt.restart = s.mgmt.restart ∧ (clearHard w s).2.recov.word = s.recov.word ∧
    (clearHard w s).2.recov.side = s.recov.side ∧ (clearHard w s).2.recov.hold = s.recov.hold := by
  unfold clearHard
  (repeat' split) <;> simp

@[simp] theorem claimSelect_frame (side : ClaimSide) (w : BitVec 16) (s : State) :
  (claimSelect side w s).2.powered = s.powered ∧ (claimSelect side w s).2.free = s.free ∧
    (claimSelect side w s).2.tick = s.tick ∧ (claimSelect side w s).2.secTick = s.secTick ∧
    (claimSelect side w s).2.clock = s.clock ∧ (claimSelect side w s).2.cls = s.cls ∧
    (claimSelect side w s).2.zones = s.zones ∧ (claimSelect side w s).2.rot = s.rot ∧
    (claimSelect side w s).2.gauge = s.gauge ∧ (claimSelect side w s).2.store = s.store ∧
    (claimSelect side w s).2.pending = s.pending ∧ (claimSelect side w s).2.ports.fieldAsm = s.ports.fieldAsm ∧
    (claimSelect side w s).2.ports.houseAsm = s.ports.houseAsm ∧
    (claimSelect side w s).2.ports.fieldRx = s.ports.fieldRx ∧
    (claimSelect side w s).2.ports.houseRx = s.ports.houseRx ∧
    (claimSelect side w s).2.ports.fieldTx = s.ports.fieldTx ∧ (claimSelect side w s).2.ports.fde = s.ports.fde ∧
    (claimSelect side w s).2.ports.lastSeen = s.ports.lastSeen ∧
    (claimSelect side w s).2.ports.houseOnLine = s.ports.houseOnLine ∧
    (claimSelect side w s).2.ports.rdy = s.ports.rdy ∧ (claimSelect side w s).2.mgmt.enable = s.mgmt.enable ∧
    (claimSelect side w s).2.mgmt.restart = s.mgmt.restart := by
  unfold claimSelect
  (repeat' split) <;> simp

@[simp] theorem claimTest_frame (w : BitVec 16) (s : State) :
  (claimTest w s).2.powered = s.powered ∧ (claimTest w s).2.free = s.free ∧ (claimTest w s).2.tick = s.tick ∧
    (claimTest w s).2.secTick = s.secTick ∧ (claimTest w s).2.clock = s.clock ∧ (claimTest w s).2.ports = s.ports ∧
    (claimTest w s).2.cls = s.cls ∧ (claimTest w s).2.zones = s.zones ∧ (claimTest w s).2.rot = s.rot ∧
    (claimTest w s).2.burner = s.burner ∧ (claimTest w s).2.gauge = s.gauge ∧ (claimTest w s).2.oil = s.oil ∧
    (claimTest w s).2.postbox = s.postbox ∧ (claimTest w s).2.mgmt = s.mgmt ∧ (claimTest w s).2.store = s.store ∧
    (claimTest w s).2.pending = s.pending ∧ (claimTest w s).2.recov.word = s.recov.word ∧
    (claimTest w s).2.recov.side = s.recov.side := by
  unfold claimTest
  (repeat' split) <;> simp

@[simp] theorem claimRelease_frame (w : BitVec 16) (s : State) :
  (claimRelease w s).2.powered = s.powered ∧ (claimRelease w s).2.free = s.free ∧
    (claimRelease w s).2.tick = s.tick ∧ (claimRelease w s).2.secTick = s.secTick ∧
    (claimRelease w s).2.clock = s.clock ∧ (claimRelease w s).2.cls = s.cls ∧ (claimRelease w s).2.zones = s.zones ∧
    (claimRelease w s).2.rot = s.rot ∧ (claimRelease w s).2.gauge = s.gauge ∧ (claimRelease w s).2.store = s.store ∧
    (claimRelease w s).2.pending = s.pending ∧ (claimRelease w s).2.ports.fieldAsm = s.ports.fieldAsm ∧
    (claimRelease w s).2.ports.houseAsm = s.ports.houseAsm ∧ (claimRelease w s).2.ports.fieldRx = s.ports.fieldRx ∧
    (claimRelease w s).2.ports.houseRx = s.ports.houseRx ∧ (claimRelease w s).2.ports.fieldTx = s.ports.fieldTx ∧
    (claimRelease w s).2.ports.fde = s.ports.fde ∧ (claimRelease w s).2.ports.lastSeen = s.ports.lastSeen ∧
    (claimRelease w s).2.ports.houseOnLine = s.ports.houseOnLine ∧ (claimRelease w s).2.ports.rdy = s.ports.rdy ∧
    (claimRelease w s).2.mgmt.enable = s.mgmt.enable ∧ (claimRelease w s).2.mgmt.restart = s.mgmt.restart := by
  unfold claimRelease
  (repeat' split) <;> simp

@[simp] theorem enterLocked_frame (present : Bool) (left : BurnerState) (s : State) :
  (enterLocked present left s).powered = s.powered ∧ (enterLocked present left s).free = s.free ∧
    (enterLocked present left s).tick = s.tick ∧ (enterLocked present left s).secTick = s.secTick ∧
    (enterLocked present left s).clock = s.clock ∧ (enterLocked present left s).cls = s.cls ∧
    (enterLocked present left s).zones = s.zones ∧ (enterLocked present left s).rot = s.rot ∧
    (enterLocked present left s).gauge = s.gauge ∧ (enterLocked present left s).store = s.store ∧
    (enterLocked present left s).pending = s.pending ∧
    (enterLocked present left s).ports.fieldAsm = s.ports.fieldAsm ∧
    (enterLocked present left s).ports.houseAsm = s.ports.houseAsm ∧
    (enterLocked present left s).ports.fieldRx = s.ports.fieldRx ∧
    (enterLocked present left s).ports.houseRx = s.ports.houseRx ∧
    (enterLocked present left s).ports.fieldTx = s.ports.fieldTx ∧
    (enterLocked present left s).ports.fde = s.ports.fde ∧
    (enterLocked present left s).ports.lastSeen = s.ports.lastSeen ∧
    (enterLocked present left s).ports.houseOnLine = s.ports.houseOnLine ∧
    (enterLocked present left s).ports.rdy = s.ports.rdy ∧ (enterLocked present left s).mgmt.enable = s.mgmt.enable ∧
    (enterLocked present left s).mgmt.restart = s.mgmt.restart ∧
    (enterLocked present left s).recov.word = s.recov.word ∧ (enterLocked present left s).recov.side = s.recov.side ∧
    (enterLocked present left s).recov.hold = s.recov.hold := by
  unfold enterLocked
  (repeat' split) <;> simp

@[simp] theorem handLockClear_frame (s : State) :
  (handLockClear s).powered = s.powered ∧ (handLockClear s).free = s.free ∧ (handLockClear s).tick = s.tick ∧
    (handLockClear s).secTick = s.secTick ∧ (handLockClear s).clock = s.clock ∧ (handLockClear s).cls = s.cls ∧
    (handLockClear s).zones = s.zones ∧ (handLockClear s).rot = s.rot ∧ (handLockClear s).gauge = s.gauge ∧
    (handLockClear s).store = s.store ∧ (handLockClear s).pending = s.pending ∧
    (handLockClear s).ports.fieldAsm = s.ports.fieldAsm ∧ (handLockClear s).ports.houseAsm = s.ports.houseAsm ∧
    (handLockClear s).ports.fieldRx = s.ports.fieldRx ∧ (handLockClear s).ports.houseRx = s.ports.houseRx ∧
    (handLockClear s).ports.fieldTx = s.ports.fieldTx ∧ (handLockClear s).ports.fde = s.ports.fde ∧
    (handLockClear s).ports.lastSeen = s.ports.lastSeen ∧ (handLockClear s).ports.houseOnLine = s.ports.houseOnLine ∧
    (handLockClear s).ports.rdy = s.ports.rdy ∧ (handLockClear s).mgmt.enable = s.mgmt.enable ∧
    (handLockClear s).mgmt.restart = s.mgmt.restart ∧ (handLockClear s).recov.word = s.recov.word ∧
    (handLockClear s).recov.side = s.recov.side ∧ (handLockClear s).recov.hold = s.recov.hold := by
  unfold handLockClear
  (repeat' split) <;> simp

@[simp] theorem startClearTimer_frame (s : State) :
  (startClearTimer s).powered = s.powered ∧ (startClearTimer s).free = s.free ∧ (startClearTimer s).tick = s.tick ∧
    (startClearTimer s).secTick = s.secTick ∧ (startClearTimer s).clock = s.clock ∧
    (startClearTimer s).ports = s.ports ∧ (startClearTimer s).cls = s.cls ∧ (startClearTimer s).zones = s.zones ∧
    (startClearTimer s).rot = s.rot ∧ (startClearTimer s).recov = s.recov ∧ (startClearTimer s).gauge = s.gauge ∧
    (startClearTimer s).oil = s.oil ∧ (startClearTimer s).postbox = s.postbox ∧ (startClearTimer s).mgmt = s.mgmt ∧
    (startClearTimer s).store = s.store ∧ (startClearTimer s).pending = s.pending ∧
    (startClearTimer s).burner.run = s.burner.run ∧ (startClearTimer s).burner.lock = s.burner.lock ∧
    (startClearTimer s).burner.reset = s.burner.reset ∧ (startClearTimer s).burner.gap = s.burner.gap ∧
    (startClearTimer s).burner.dryStop = s.burner.dryStop := by
  unfold startClearTimer
  (repeat' split) <;> simp

@[simp] theorem runAcceptedOn_frame (s : State) :
  (runAcceptedOn s).powered = s.powered ∧ (runAcceptedOn s).free = s.free ∧ (runAcceptedOn s).tick = s.tick ∧
    (runAcceptedOn s).secTick = s.secTick ∧ (runAcceptedOn s).clock = s.clock ∧ (runAcceptedOn s).cls = s.cls ∧
    (runAcceptedOn s).zones = s.zones ∧ (runAcceptedOn s).rot = s.rot ∧ (runAcceptedOn s).recov = s.recov ∧
    (runAcceptedOn s).gauge = s.gauge ∧ (runAcceptedOn s).postbox = s.postbox ∧ (runAcceptedOn s).store = s.store ∧
    (runAcceptedOn s).pending = s.pending ∧ (runAcceptedOn s).ports.fieldAsm = s.ports.fieldAsm ∧
    (runAcceptedOn s).ports.houseAsm = s.ports.houseAsm ∧ (runAcceptedOn s).ports.fieldRx = s.ports.fieldRx ∧
    (runAcceptedOn s).ports.houseRx = s.ports.houseRx ∧ (runAcceptedOn s).ports.fieldTx = s.ports.fieldTx ∧
    (runAcceptedOn s).ports.fde = s.ports.fde ∧ (runAcceptedOn s).ports.lastSeen = s.ports.lastSeen ∧
    (runAcceptedOn s).ports.houseOnLine = s.ports.houseOnLine ∧ (runAcceptedOn s).ports.rdy = s.ports.rdy ∧
    (runAcceptedOn s).mgmt.enable = s.mgmt.enable ∧ (runAcceptedOn s).mgmt.restart = s.mgmt.restart := by
  unfold runAcceptedOn
  (repeat' split) <;> simp

@[simp] theorem runAcceptedOff_frame (s : State) :
  (runAcceptedOff s).powered = s.powered ∧ (runAcceptedOff s).free = s.free ∧ (runAcceptedOff s).tick = s.tick ∧
    (runAcceptedOff s).secTick = s.secTick ∧ (runAcceptedOff s).clock = s.clock ∧ (runAcceptedOff s).cls = s.cls ∧
    (runAcceptedOff s).zones = s.zones ∧ (runAcceptedOff s).rot = s.rot ∧ (runAcceptedOff s).gauge = s.gauge ∧
    (runAcceptedOff s).store = s.store ∧ (runAcceptedOff s).pending = s.pending ∧
    (runAcceptedOff s).ports.fieldAsm = s.ports.fieldAsm ∧ (runAcceptedOff s).ports.houseAsm = s.ports.houseAsm ∧
    (runAcceptedOff s).ports.fieldRx = s.ports.fieldRx ∧ (runAcceptedOff s).ports.houseRx = s.ports.houseRx ∧
    (runAcceptedOff s).ports.fieldTx = s.ports.fieldTx ∧ (runAcceptedOff s).ports.fde = s.ports.fde ∧
    (runAcceptedOff s).ports.lastSeen = s.ports.lastSeen ∧
    (runAcceptedOff s).ports.houseOnLine = s.ports.houseOnLine ∧ (runAcceptedOff s).ports.rdy = s.ports.rdy ∧
    (runAcceptedOff s).mgmt.enable = s.mgmt.enable ∧ (runAcceptedOff s).mgmt.restart = s.mgmt.restart ∧
    (runAcceptedOff s).recov.word = s.recov.word ∧ (runAcceptedOff s).recov.side = s.recov.side ∧
    (runAcceptedOff s).recov.hold = s.recov.hold := by
  unfold runAcceptedOff
  (repeat' split) <;> simp

@[simp] theorem lockAcceptedOn_frame (s : State) :
  (lockAcceptedOn s).powered = s.powered ∧ (lockAcceptedOn s).free = s.free ∧ (lockAcceptedOn s).tick = s.tick ∧
    (lockAcceptedOn s).secTick = s.secTick ∧ (lockAcceptedOn s).clock = s.clock ∧ (lockAcceptedOn s).cls = s.cls ∧
    (lockAcceptedOn s).zones = s.zones ∧ (lockAcceptedOn s).rot = s.rot ∧ (lockAcceptedOn s).gauge = s.gauge ∧
    (lockAcceptedOn s).store = s.store ∧ (lockAcceptedOn s).pending = s.pending ∧
    (lockAcceptedOn s).ports.fieldAsm = s.ports.fieldAsm ∧ (lockAcceptedOn s).ports.houseAsm = s.ports.houseAsm ∧
    (lockAcceptedOn s).ports.fieldRx = s.ports.fieldRx ∧ (lockAcceptedOn s).ports.houseRx = s.ports.houseRx ∧
    (lockAcceptedOn s).ports.fieldTx = s.ports.fieldTx ∧ (lockAcceptedOn s).ports.fde = s.ports.fde ∧
    (lockAcceptedOn s).ports.lastSeen = s.ports.lastSeen ∧
    (lockAcceptedOn s).ports.houseOnLine = s.ports.houseOnLine ∧ (lockAcceptedOn s).ports.rdy = s.ports.rdy ∧
    (lockAcceptedOn s).mgmt.enable = s.mgmt.enable ∧ (lockAcceptedOn s).mgmt.restart = s.mgmt.restart ∧
    (lockAcceptedOn s).recov.word = s.recov.word ∧ (lockAcceptedOn s).recov.side = s.recov.side ∧
    (lockAcceptedOn s).recov.hold = s.recov.hold := by
  unfold lockAcceptedOn
  (repeat' split) <;> simp

@[simp] theorem lockAcceptedOff_frame (s : State) :
  (lockAcceptedOff s).powered = s.powered ∧ (lockAcceptedOff s).free = s.free ∧ (lockAcceptedOff s).tick = s.tick ∧
    (lockAcceptedOff s).secTick = s.secTick ∧ (lockAcceptedOff s).clock = s.clock ∧ (lockAcceptedOff s).cls = s.cls ∧
    (lockAcceptedOff s).zones = s.zones ∧ (lockAcceptedOff s).rot = s.rot ∧ (lockAcceptedOff s).gauge = s.gauge ∧
    (lockAcceptedOff s).store = s.store ∧ (lockAcceptedOff s).pending = s.pending ∧
    (lockAcceptedOff s).ports.fieldAsm = s.ports.fieldAsm ∧ (lockAcceptedOff s).ports.houseAsm = s.ports.houseAsm ∧
    (lockAcceptedOff s).ports.fieldRx = s.ports.fieldRx ∧ (lockAcceptedOff s).ports.houseRx = s.ports.houseRx ∧
    (lockAcceptedOff s).ports.fieldTx = s.ports.fieldTx ∧ (lockAcceptedOff s).ports.fde = s.ports.fde ∧
    (lockAcceptedOff s).ports.lastSeen = s.ports.lastSeen ∧
    (lockAcceptedOff s).ports.houseOnLine = s.ports.houseOnLine ∧ (lockAcceptedOff s).ports.rdy = s.ports.rdy ∧
    (lockAcceptedOff s).mgmt.enable = s.mgmt.enable ∧ (lockAcceptedOff s).mgmt.restart = s.mgmt.restart ∧
    (lockAcceptedOff s).recov.word = s.recov.word ∧ (lockAcceptedOff s).recov.side = s.recov.side ∧
    (lockAcceptedOff s).recov.hold = s.recov.hold := by
  unfold lockAcceptedOff
  (repeat' split) <;> simp

@[simp] theorem endSettling_frame (s : State) :
  (endSettling s).powered = s.powered ∧ (endSettling s).free = s.free ∧ (endSettling s).tick = s.tick ∧
    (endSettling s).secTick = s.secTick ∧ (endSettling s).clock = s.clock ∧ (endSettling s).cls = s.cls ∧
    (endSettling s).zones = s.zones ∧ (endSettling s).rot = s.rot ∧ (endSettling s).gauge = s.gauge ∧
    (endSettling s).store = s.store ∧ (endSettling s).pending = s.pending ∧
    (endSettling s).ports.fieldAsm = s.ports.fieldAsm ∧ (endSettling s).ports.houseAsm = s.ports.houseAsm ∧
    (endSettling s).ports.fieldRx = s.ports.fieldRx ∧ (endSettling s).ports.houseRx = s.ports.houseRx ∧
    (endSettling s).ports.fieldTx = s.ports.fieldTx ∧ (endSettling s).ports.fde = s.ports.fde ∧
    (endSettling s).ports.lastSeen = s.ports.lastSeen ∧ (endSettling s).ports.houseOnLine = s.ports.houseOnLine ∧
    (endSettling s).ports.rdy = s.ports.rdy ∧ (endSettling s).mgmt.enable = s.mgmt.enable ∧
    (endSettling s).mgmt.restart = s.mgmt.restart ∧ (endSettling s).recov.word = s.recov.word ∧
    (endSettling s).recov.side = s.recov.side ∧ (endSettling s).recov.hold = s.recov.hold := by
  unfold endSettling
  (repeat' split) <;> simp

@[simp] theorem actOnAcceptance_frame (input : Input) (level : Bool) (s : State) :
  (actOnAcceptance input level s).powered = s.powered ∧ (actOnAcceptance input level s).free = s.free ∧
    (actOnAcceptance input level s).tick = s.tick ∧ (actOnAcceptance input level s).secTick = s.secTick ∧
    (actOnAcceptance input level s).clock = s.clock ∧ (actOnAcceptance input level s).cls = s.cls ∧
    (actOnAcceptance input level s).zones = s.zones ∧ (actOnAcceptance input level s).rot = s.rot ∧
    (actOnAcceptance input level s).gauge = s.gauge ∧ (actOnAcceptance input level s).store = s.store ∧
    (actOnAcceptance input level s).pending = s.pending ∧
    (actOnAcceptance input level s).ports.fieldAsm = s.ports.fieldAsm ∧
    (actOnAcceptance input level s).ports.houseAsm = s.ports.houseAsm ∧
    (actOnAcceptance input level s).ports.fieldRx = s.ports.fieldRx ∧
    (actOnAcceptance input level s).ports.houseRx = s.ports.houseRx ∧
    (actOnAcceptance input level s).ports.fieldTx = s.ports.fieldTx ∧
    (actOnAcceptance input level s).ports.fde = s.ports.fde ∧
    (actOnAcceptance input level s).ports.lastSeen = s.ports.lastSeen ∧
    (actOnAcceptance input level s).ports.houseOnLine = s.ports.houseOnLine ∧
    (actOnAcceptance input level s).ports.rdy = s.ports.rdy ∧
    (actOnAcceptance input level s).mgmt.enable = s.mgmt.enable ∧
    (actOnAcceptance input level s).mgmt.restart = s.mgmt.restart ∧
    (actOnAcceptance input level s).recov.word = s.recov.word ∧
    (actOnAcceptance input level s).recov.side = s.recov.side ∧
    (actOnAcceptance input level s).recov.hold = s.recov.hold := by
  unfold actOnAcceptance
  (repeat' split) <;> simp

@[simp] theorem inputAccepted_frame (i : Input) (s : State) :
  (inputAccepted i s).powered = s.powered ∧ (inputAccepted i s).free = s.free ∧ (inputAccepted i s).tick = s.tick ∧
    (inputAccepted i s).secTick = s.secTick ∧ (inputAccepted i s).clock = s.clock ∧ (inputAccepted i s).cls = s.cls ∧
    (inputAccepted i s).zones = s.zones ∧ (inputAccepted i s).rot = s.rot ∧ (inputAccepted i s).gauge = s.gauge ∧
    (inputAccepted i s).store = s.store ∧ (inputAccepted i s).pending = s.pending ∧
    (inputAccepted i s).ports.fieldAsm = s.ports.fieldAsm ∧ (inputAccepted i s).ports.houseAsm = s.ports.houseAsm ∧
    (inputAccepted i s).ports.fieldRx = s.ports.fieldRx ∧ (inputAccepted i s).ports.houseRx = s.ports.houseRx ∧
    (inputAccepted i s).ports.fieldTx = s.ports.fieldTx ∧ (inputAccepted i s).ports.fde = s.ports.fde ∧
    (inputAccepted i s).ports.lastSeen = s.ports.lastSeen ∧
    (inputAccepted i s).ports.houseOnLine = s.ports.houseOnLine ∧ (inputAccepted i s).ports.rdy = s.ports.rdy ∧
    (inputAccepted i s).mgmt.enable = s.mgmt.enable ∧ (inputAccepted i s).mgmt.restart = s.mgmt.restart ∧
    (inputAccepted i s).recov.word = s.recov.word ∧ (inputAccepted i s).recov.side = s.recov.side ∧
    (inputAccepted i s).recov.hold = s.recov.hold := by
  unfold inputAccepted
  dsimp only
  (repeat' split) <;> simp

@[simp] theorem handFault_frame (old : Bool) (before : Option Nat) (k : Option InvalidKind) (s : State) :
  (handFault old before k s).powered = s.powered ∧ (handFault old before k s).free = s.free ∧
    (handFault old before k s).tick = s.tick ∧ (handFault old before k s).secTick = s.secTick ∧
    (handFault old before k s).clock = s.clock ∧ (handFault old before k s).cls = s.cls ∧
    (handFault old before k s).zones = s.zones ∧ (handFault old before k s).rot = s.rot ∧
    (handFault old before k s).burner = s.burner ∧ (handFault old before k s).recov = s.recov ∧
    (handFault old before k s).gauge = s.gauge ∧ (handFault old before k s).postbox = s.postbox ∧
    (handFault old before k s).store = s.store ∧ (handFault old before k s).pending = s.pending ∧
    (handFault old before k s).ports.fieldAsm = s.ports.fieldAsm ∧
    (handFault old before k s).ports.houseAsm = s.ports.houseAsm ∧
    (handFault old before k s).ports.fieldRx = s.ports.fieldRx ∧
    (handFault old before k s).ports.houseRx = s.ports.houseRx ∧
    (handFault old before k s).ports.fieldTx = s.ports.fieldTx ∧ (handFault old before k s).ports.fde = s.ports.fde ∧
    (handFault old before k s).ports.lastSeen = s.ports.lastSeen ∧
    (handFault old before k s).ports.houseOnLine = s.ports.houseOnLine ∧
    (handFault old before k s).ports.rdy = s.ports.rdy ∧ (handFault old before k s).mgmt.enable = s.mgmt.enable ∧
    (handFault old before k s).mgmt.restart = s.mgmt.restart := by
  unfold handFault
  (repeat' split) <;> simp

@[simp] theorem bandNotices_frame (s : State) :
  (bandNotices s).powered = s.powered ∧ (bandNotices s).free = s.free ∧ (bandNotices s).tick = s.tick ∧
    (bandNotices s).secTick = s.secTick ∧ (bandNotices s).clock = s.clock ∧ (bandNotices s).cls = s.cls ∧
    (bandNotices s).zones = s.zones ∧ (bandNotices s).rot = s.rot ∧ (bandNotices s).burner = s.burner ∧
    (bandNotices s).recov = s.recov ∧ (bandNotices s).gauge = s.gauge ∧ (bandNotices s).oil = s.oil ∧
    (bandNotices s).store = s.store ∧ (bandNotices s).pending = s.pending ∧
    (bandNotices s).ports.fieldAsm = s.ports.fieldAsm ∧ (bandNotices s).ports.houseAsm = s.ports.houseAsm ∧
    (bandNotices s).ports.fieldRx = s.ports.fieldRx ∧ (bandNotices s).ports.houseRx = s.ports.houseRx ∧
    (bandNotices s).ports.fieldTx = s.ports.fieldTx ∧ (bandNotices s).ports.fde = s.ports.fde ∧
    (bandNotices s).ports.lastSeen = s.ports.lastSeen ∧ (bandNotices s).ports.houseOnLine = s.ports.houseOnLine ∧
    (bandNotices s).ports.rdy = s.ports.rdy ∧ (bandNotices s).mgmt.enable = s.mgmt.enable ∧
    (bandNotices s).mgmt.restart = s.mgmt.restart := by
  unfold bandNotices
  (repeat' split) <;> simp

@[simp] theorem handBand_frame (old : Band) (s : State) :
  (handBand old s).powered = s.powered ∧ (handBand old s).free = s.free ∧ (handBand old s).tick = s.tick ∧
    (handBand old s).secTick = s.secTick ∧ (handBand old s).clock = s.clock ∧ (handBand old s).cls = s.cls ∧
    (handBand old s).store = s.store ∧ (handBand old s).pending = s.pending ∧
    (handBand old s).ports.fieldAsm = s.ports.fieldAsm ∧ (handBand old s).ports.houseAsm = s.ports.houseAsm ∧
    (handBand old s).ports.fieldRx = s.ports.fieldRx ∧ (handBand old s).ports.houseRx = s.ports.houseRx ∧
    (handBand old s).ports.fieldTx = s.ports.fieldTx ∧ (handBand old s).ports.fde = s.ports.fde ∧
    (handBand old s).ports.lastSeen = s.ports.lastSeen ∧ (handBand old s).ports.houseOnLine = s.ports.houseOnLine ∧
    (handBand old s).ports.rdy = s.ports.rdy ∧ (handBand old s).mgmt.enable = s.mgmt.enable ∧
    (handBand old s).mgmt.restart = s.mgmt.restart ∧ (handBand old s).recov.word = s.recov.word ∧
    (handBand old s).recov.side = s.recov.side ∧ (handBand old s).recov.hold = s.recov.hold := by
  unfold handBand
  (repeat' split) <;> simp

@[simp] theorem handReport_frame (h : Handoff) (s : State) :
  (handReport h s).powered = s.powered ∧ (handReport h s).free = s.free ∧ (handReport h s).tick = s.tick ∧
    (handReport h s).secTick = s.secTick ∧ (handReport h s).clock = s.clock ∧ (handReport h s).cls = s.cls ∧
    (handReport h s).zones = s.zones ∧ (handReport h s).rot = s.rot ∧ (handReport h s).burner = s.burner ∧
    (handReport h s).recov = s.recov ∧ (handReport h s).gauge = s.gauge ∧ (handReport h s).postbox = s.postbox ∧
    (handReport h s).store = s.store ∧ (handReport h s).pending = s.pending ∧
    (handReport h s).ports.fieldAsm = s.ports.fieldAsm ∧ (handReport h s).ports.houseAsm = s.ports.houseAsm ∧
    (handReport h s).ports.fieldRx = s.ports.fieldRx ∧ (handReport h s).ports.houseRx = s.ports.houseRx ∧
    (handReport h s).ports.fieldTx = s.ports.fieldTx ∧ (handReport h s).ports.fde = s.ports.fde ∧
    (handReport h s).ports.lastSeen = s.ports.lastSeen ∧ (handReport h s).ports.houseOnLine = s.ports.houseOnLine ∧
    (handReport h s).ports.rdy = s.ports.rdy ∧ (handReport h s).mgmt.enable = s.mgmt.enable ∧
    (handReport h s).mgmt.restart = s.mgmt.restart := by
  unfold handReport
  (repeat' split) <;> simp

@[simp] theorem handRise_frame (h : Handoff) (s : State) :
  (handRise h s).powered = s.powered ∧ (handRise h s).free = s.free ∧ (handRise h s).tick = s.tick ∧
    (handRise h s).secTick = s.secTick ∧ (handRise h s).clock = s.clock ∧ (handRise h s).cls = s.cls ∧
    (handRise h s).zones = s.zones ∧ (handRise h s).rot = s.rot ∧ (handRise h s).burner = s.burner ∧
    (handRise h s).recov = s.recov ∧ (handRise h s).gauge = s.gauge ∧ (handRise h s).postbox = s.postbox ∧
    (handRise h s).store = s.store ∧ (handRise h s).pending = s.pending ∧
    (handRise h s).ports.fieldAsm = s.ports.fieldAsm ∧ (handRise h s).ports.houseAsm = s.ports.houseAsm ∧
    (handRise h s).ports.fieldRx = s.ports.fieldRx ∧ (handRise h s).ports.houseRx = s.ports.houseRx ∧
    (handRise h s).ports.fieldTx = s.ports.fieldTx ∧ (handRise h s).ports.fde = s.ports.fde ∧
    (handRise h s).ports.lastSeen = s.ports.lastSeen ∧ (handRise h s).ports.houseOnLine = s.ports.houseOnLine ∧
    (handRise h s).ports.rdy = s.ports.rdy ∧ (handRise h s).mgmt.enable = s.mgmt.enable ∧
    (handRise h s).mgmt.restart = s.mgmt.restart := by
  unfold handRise
  (repeat' split) <;> simp

@[simp] theorem handGaugeReport_frame (k : Option InvalidKind) (s : State) :
  (handGaugeReport k s).powered = s.powered ∧ (handGaugeReport k s).free = s.free ∧
    (handGaugeReport k s).tick = s.tick ∧ (handGaugeReport k s).secTick = s.secTick ∧
    (handGaugeReport k s).clock = s.clock ∧ (handGaugeReport k s).cls = s.cls ∧
    (handGaugeReport k s).zones = s.zones ∧ (handGaugeReport k s).rot = s.rot ∧
    (handGaugeReport k s).burner = s.burner ∧ (handGaugeReport k s).recov = s.recov ∧
    (handGaugeReport k s).oil = s.oil ∧ (handGaugeReport k s).postbox = s.postbox ∧
    (handGaugeReport k s).mgmt = s.mgmt ∧ (handGaugeReport k s).store = s.store ∧
    (handGaugeReport k s).pending = s.pending ∧ (handGaugeReport k s).ports.fieldAsm = s.ports.fieldAsm ∧
    (handGaugeReport k s).ports.houseAsm = s.ports.houseAsm ∧ (handGaugeReport k s).ports.fieldRx = s.ports.fieldRx ∧
    (handGaugeReport k s).ports.houseRx = s.ports.houseRx ∧ (handGaugeReport k s).ports.fieldTx = s.ports.fieldTx ∧
    (handGaugeReport k s).ports.fde = s.ports.fde ∧ (handGaugeReport k s).ports.lastSeen = s.ports.lastSeen ∧
    (handGaugeReport k s).ports.houseOnLine = s.ports.houseOnLine ∧ (handGaugeReport k s).ports.rdy = s.ports.rdy := by
  unfold handGaugeReport
  (repeat' split) <;> simp

@[simp] theorem handSample_frame (old : Gauge) (h : Handoff) (s : State) :
  (handSample old h s).powered = s.powered ∧ (handSample old h s).free = s.free ∧
    (handSample old h s).tick = s.tick ∧ (handSample old h s).secTick = s.secTick ∧
    (handSample old h s).clock = s.clock ∧ (handSample old h s).cls = s.cls ∧ (handSample old h s).store = s.store ∧
    (handSample old h s).pending = s.pending ∧ (handSample old h s).ports.fieldAsm = s.ports.fieldAsm ∧
    (handSample old h s).ports.houseAsm = s.ports.houseAsm ∧ (handSample old h s).ports.fieldRx = s.ports.fieldRx ∧
    (handSample old h s).ports.houseRx = s.ports.houseRx ∧ (handSample old h s).ports.fieldTx = s.ports.fieldTx ∧
    (handSample old h s).ports.fde = s.ports.fde ∧ (handSample old h s).ports.lastSeen = s.ports.lastSeen ∧
    (handSample old h s).ports.houseOnLine = s.ports.houseOnLine ∧ (handSample old h s).ports.rdy = s.ports.rdy ∧
    (handSample old h s).mgmt.enable = s.mgmt.enable ∧ (handSample old h s).mgmt.restart = s.mgmt.restart ∧
    (handSample old h s).recov.word = s.recov.word ∧ (handSample old h s).recov.side = s.recov.side ∧
    (handSample old h s).recov.hold = s.recov.hold := by
  unfold handSample
  (repeat' split) <;> simp

@[simp] theorem sampleTimerExpires_frame (s : State) :
  (sampleTimerExpires s).powered = s.powered ∧ (sampleTimerExpires s).free = s.free ∧
    (sampleTimerExpires s).tick = s.tick ∧ (sampleTimerExpires s).secTick = s.secTick ∧
    (sampleTimerExpires s).clock = s.clock ∧ (sampleTimerExpires s).ports = s.ports ∧
    (sampleTimerExpires s).cls = s.cls ∧ (sampleTimerExpires s).zones = s.zones ∧
    (sampleTimerExpires s).rot = s.rot ∧ (sampleTimerExpires s).burner = s.burner ∧
    (sampleTimerExpires s).recov = s.recov ∧ (sampleTimerExpires s).oil = s.oil ∧
    (sampleTimerExpires s).postbox = s.postbox ∧ (sampleTimerExpires s).mgmt = s.mgmt ∧
    (sampleTimerExpires s).store = s.store ∧ (sampleTimerExpires s).pending = s.pending ∧
    (sampleTimerExpires s).gauge.live = s.gauge.live ∧ (sampleTimerExpires s).gauge.dryT = s.gauge.dryT ∧
    (sampleTimerExpires s).gauge.lowT = s.gauge.lowT ∧ (sampleTimerExpires s).gauge.band = s.gauge.band := by
  unfold sampleTimerExpires
  (repeat' split) <;> simp

@[simp] theorem supplyConversionDone_frame (count : BitVec 12) (s : State) :
  (supplyConversionDone count s).powered = s.powered ∧ (supplyConversionDone count s).free = s.free ∧
    (supplyConversionDone count s).tick = s.tick ∧ (supplyConversionDone count s).secTick = s.secTick ∧
    (supplyConversionDone count s).clock = s.clock ∧ (supplyConversionDone count s).ports = s.ports ∧
    (supplyConversionDone count s).cls = s.cls ∧ (supplyConversionDone count s).zones = s.zones ∧
    (supplyConversionDone count s).rot = s.rot ∧ (supplyConversionDone count s).burner = s.burner ∧
    (supplyConversionDone count s).recov = s.recov ∧ (supplyConversionDone count s).oil = s.oil ∧
    (supplyConversionDone count s).postbox = s.postbox ∧ (supplyConversionDone count s).mgmt = s.mgmt ∧
    (supplyConversionDone count s).store = s.store ∧ (supplyConversionDone count s).pending = s.pending ∧
    (supplyConversionDone count s).gauge.live = s.gauge.live ∧
    (supplyConversionDone count s).gauge.dryT = s.gauge.dryT ∧
    (supplyConversionDone count s).gauge.lowT = s.gauge.lowT ∧
    (supplyConversionDone count s).gauge.band = s.gauge.band := by
  unfold supplyConversionDone
  (repeat' split) <;> simp

@[simp] theorem sampleTaken_frame (count : BitVec 12) (s : State) :
  (sampleTaken count s).powered = s.powered ∧ (sampleTaken count s).free = s.free ∧
    (sampleTaken count s).tick = s.tick ∧ (sampleTaken count s).secTick = s.secTick ∧
    (sampleTaken count s).clock = s.clock ∧ (sampleTaken count s).cls = s.cls ∧
    (sampleTaken count s).store = s.store ∧ (sampleTaken count s).pending = s.pending ∧
    (sampleTaken count s).ports.fieldAsm = s.ports.fieldAsm ∧
    (sampleTaken count s).ports.houseAsm = s.ports.houseAsm ∧ (sampleTaken count s).ports.fieldRx = s.ports.fieldRx ∧
    (sampleTaken count s).ports.houseRx = s.ports.houseRx ∧ (sampleTaken count s).ports.fieldTx = s.ports.fieldTx ∧
    (sampleTaken count s).ports.fde = s.ports.fde ∧ (sampleTaken count s).ports.lastSeen = s.ports.lastSeen ∧
    (sampleTaken count s).ports.houseOnLine = s.ports.houseOnLine ∧ (sampleTaken count s).ports.rdy = s.ports.rdy ∧
    (sampleTaken count s).mgmt.enable = s.mgmt.enable ∧ (sampleTaken count s).mgmt.restart = s.mgmt.restart ∧
    (sampleTaken count s).recov.word = s.recov.word ∧ (sampleTaken count s).recov.side = s.recov.side ∧
    (sampleTaken count s).recov.hold = s.recov.hold := by
  unfold sampleTaken
  (repeat' split) <;> simp

@[simp] theorem gaugeReportDue_frame (s : State) :
  (gaugeReportDue s).powered = s.powered ∧ (gaugeReportDue s).free = s.free ∧ (gaugeReportDue s).tick = s.tick ∧
    (gaugeReportDue s).secTick = s.secTick ∧ (gaugeReportDue s).clock = s.clock ∧
    (gaugeReportDue s).ports = s.ports ∧ (gaugeReportDue s).cls = s.cls ∧ (gaugeReportDue s).zones = s.zones ∧
    (gaugeReportDue s).rot = s.rot ∧ (gaugeReportDue s).burner = s.burner ∧ (gaugeReportDue s).recov = s.recov ∧
    (gaugeReportDue s).oil = s.oil ∧ (gaugeReportDue s).postbox = s.postbox ∧ (gaugeReportDue s).mgmt = s.mgmt ∧
    (gaugeReportDue s).store = s.store ∧ (gaugeReportDue s).pending = s.pending ∧
    (gaugeReportDue s).gauge.live = s.gauge.live ∧ (gaugeReportDue s).gauge.dryT = s.gauge.dryT ∧
    (gaugeReportDue s).gauge.lowT = s.gauge.lowT ∧ (gaugeReportDue s).gauge.band = s.gauge.band := by
  unfold gaugeReportDue
  (repeat' split) <;> simp

@[simp] theorem rejudgeBand_frame (s : State) :
  (rejudgeBand s).powered = s.powered ∧ (rejudgeBand s).free = s.free ∧ (rejudgeBand s).tick = s.tick ∧
    (rejudgeBand s).secTick = s.secTick ∧ (rejudgeBand s).clock = s.clock ∧ (rejudgeBand s).cls = s.cls ∧
    (rejudgeBand s).store = s.store ∧ (rejudgeBand s).pending = s.pending ∧
    (rejudgeBand s).ports.fieldAsm = s.ports.fieldAsm ∧ (rejudgeBand s).ports.houseAsm = s.ports.houseAsm ∧
    (rejudgeBand s).ports.fieldRx = s.ports.fieldRx ∧ (rejudgeBand s).ports.houseRx = s.ports.houseRx ∧
    (rejudgeBand s).ports.fieldTx = s.ports.fieldTx ∧ (rejudgeBand s).ports.fde = s.ports.fde ∧
    (rejudgeBand s).ports.lastSeen = s.ports.lastSeen ∧ (rejudgeBand s).ports.houseOnLine = s.ports.houseOnLine ∧
    (rejudgeBand s).ports.rdy = s.ports.rdy ∧ (rejudgeBand s).mgmt.enable = s.mgmt.enable ∧
    (rejudgeBand s).mgmt.restart = s.mgmt.restart ∧ (rejudgeBand s).recov.word = s.recov.word ∧
    (rejudgeBand s).recov.side = s.recov.side ∧ (rejudgeBand s).recov.hold = s.recov.hold := by
  unfold rejudgeBand
  (repeat' split) <;> simp

@[simp] theorem writeReportInterval_frame (minutes : Nat) (s : State) :
  (writeReportInterval minutes s).powered = s.powered ∧ (writeReportInterval minutes s).free = s.free ∧
    (writeReportInterval minutes s).tick = s.tick ∧ (writeReportInterval minutes s).secTick = s.secTick ∧
    (writeReportInterval minutes s).clock = s.clock ∧ (writeReportInterval minutes s).ports = s.ports ∧
    (writeReportInterval minutes s).cls = s.cls ∧ (writeReportInterval minutes s).zones = s.zones ∧
    (writeReportInterval minutes s).rot = s.rot ∧ (writeReportInterval minutes s).burner = s.burner ∧
    (writeReportInterval minutes s).recov = s.recov ∧ (writeReportInterval minutes s).oil = s.oil ∧
    (writeReportInterval minutes s).postbox = s.postbox ∧ (writeReportInterval minutes s).mgmt = s.mgmt ∧
    (writeReportInterval minutes s).store = s.store ∧ (writeReportInterval minutes s).pending = s.pending := by
  unfold writeReportInterval
  (repeat' split) <;> simp

@[simp] theorem commitStrap_frame (s : State) :
  (commitStrap s).2.powered = s.powered ∧ (commitStrap s).2.free = s.free ∧ (commitStrap s).2.tick = s.tick ∧
    (commitStrap s).2.secTick = s.secTick ∧ (commitStrap s).2.clock = s.clock ∧ (commitStrap s).2.cls = s.cls ∧
    (commitStrap s).2.store = s.store ∧ (commitStrap s).2.pending = s.pending ∧
    (commitStrap s).2.ports.fieldAsm = s.ports.fieldAsm ∧ (commitStrap s).2.ports.houseAsm = s.ports.houseAsm ∧
    (commitStrap s).2.ports.fieldRx = s.ports.fieldRx ∧ (commitStrap s).2.ports.houseRx = s.ports.houseRx ∧
    (commitStrap s).2.ports.fieldTx = s.ports.fieldTx ∧ (commitStrap s).2.ports.fde = s.ports.fde ∧
    (commitStrap s).2.ports.lastSeen = s.ports.lastSeen ∧ (commitStrap s).2.ports.houseOnLine = s.ports.houseOnLine ∧
    (commitStrap s).2.ports.rdy = s.ports.rdy ∧ (commitStrap s).2.mgmt.enable = s.mgmt.enable ∧
    (commitStrap s).2.mgmt.restart = s.mgmt.restart ∧ (commitStrap s).2.recov.word = s.recov.word ∧
    (commitStrap s).2.recov.side = s.recov.side ∧ (commitStrap s).2.recov.hold = s.recov.hold := by
  unfold commitStrap
  (repeat' split) <;> simp

@[simp] theorem discardStrap_frame (s : State) :
  (discardStrap s).2.powered = s.powered ∧ (discardStrap s).2.free = s.free ∧ (discardStrap s).2.tick = s.tick ∧
    (discardStrap s).2.secTick = s.secTick ∧ (discardStrap s).2.clock = s.clock ∧
    (discardStrap s).2.ports = s.ports ∧ (discardStrap s).2.cls = s.cls ∧ (discardStrap s).2.zones = s.zones ∧
    (discardStrap s).2.rot = s.rot ∧ (discardStrap s).2.burner = s.burner ∧ (discardStrap s).2.recov = s.recov ∧
    (discardStrap s).2.oil = s.oil ∧ (discardStrap s).2.postbox = s.postbox ∧ (discardStrap s).2.mgmt = s.mgmt ∧
    (discardStrap s).2.store = s.store ∧ (discardStrap s).2.pending = s.pending ∧
    (discardStrap s).2.gauge.live = s.gauge.live ∧ (discardStrap s).2.gauge.dryT = s.gauge.dryT ∧
    (discardStrap s).2.gauge.lowT = s.gauge.lowT ∧ (discardStrap s).2.gauge.band = s.gauge.band := by
  unfold discardStrap
  (repeat' split) <;> simp

@[simp] theorem frameTruncated_frame (l : Line) (arriving : Bool) (s : State) :
  (frameTruncated l arriving s).powered = s.powered ∧ (frameTruncated l arriving s).free = s.free ∧
    (frameTruncated l arriving s).tick = s.tick ∧ (frameTruncated l arriving s).secTick = s.secTick ∧
    (frameTruncated l arriving s).clock = s.clock ∧ (frameTruncated l arriving s).cls = s.cls ∧ (frameTruncated l arriving s).zones = s.zones ∧
    (frameTruncated l arriving s).rot = s.rot ∧ (frameTruncated l arriving s).burner = s.burner ∧
    (frameTruncated l arriving s).recov = s.recov ∧ (frameTruncated l arriving s).gauge = s.gauge ∧ (frameTruncated l arriving s).oil = s.oil ∧
    (frameTruncated l arriving s).postbox = s.postbox ∧ (frameTruncated l arriving s).mgmt = s.mgmt ∧
    (frameTruncated l arriving s).store = s.store ∧ (frameTruncated l arriving s).pending = s.pending := by
  unfold frameTruncated
  (repeat' split) <;> simp

@[simp] theorem skipEnd_frame (l : Line) (arriving : Bool) (s : State) :
  (skipEnd l arriving s).powered = s.powered ∧ (skipEnd l arriving s).free = s.free ∧ (skipEnd l arriving s).tick = s.tick ∧
    (skipEnd l arriving s).secTick = s.secTick ∧ (skipEnd l arriving s).clock = s.clock ∧ (skipEnd l arriving s).cls = s.cls ∧
    (skipEnd l arriving s).zones = s.zones ∧ (skipEnd l arriving s).rot = s.rot ∧ (skipEnd l arriving s).burner = s.burner ∧
    (skipEnd l arriving s).recov = s.recov ∧ (skipEnd l arriving s).gauge = s.gauge ∧ (skipEnd l arriving s).oil = s.oil ∧
    (skipEnd l arriving s).postbox = s.postbox ∧ (skipEnd l arriving s).mgmt = s.mgmt ∧ (skipEnd l arriving s).store = s.store ∧
    (skipEnd l arriving s).pending = s.pending := by
  unfold skipEnd
  (repeat' split) <;> simp

@[simp] theorem fieldTransmitStart_frame (arriving : Bool) (s : State) :
  (fieldTransmitStart arriving s).powered = s.powered ∧ (fieldTransmitStart arriving s).free = s.free ∧
    (fieldTransmitStart arriving s).tick = s.tick ∧ (fieldTransmitStart arriving s).secTick = s.secTick ∧
    (fieldTransmitStart arriving s).clock = s.clock ∧ (fieldTransmitStart arriving s).cls = s.cls ∧
    (fieldTransmitStart arriving s).zones = s.zones ∧ (fieldTransmitStart arriving s).rot = s.rot ∧
    (fieldTransmitStart arriving s).burner = s.burner ∧ (fieldTransmitStart arriving s).recov = s.recov ∧
    (fieldTransmitStart arriving s).gauge = s.gauge ∧ (fieldTransmitStart arriving s).oil = s.oil ∧
    (fieldTransmitStart arriving s).postbox = s.postbox ∧ (fieldTransmitStart arriving s).mgmt = s.mgmt ∧
    (fieldTransmitStart arriving s).store = s.store ∧ (fieldTransmitStart arriving s).pending = s.pending ∧
    (fieldTransmitStart arriving s).ports.fieldAsm = s.ports.fieldAsm ∧
    (fieldTransmitStart arriving s).ports.houseAsm = s.ports.houseAsm ∧
    (fieldTransmitStart arriving s).ports.fieldRx = s.ports.fieldRx ∧ (fieldTransmitStart arriving s).ports.houseRx = s.ports.houseRx ∧
    (fieldTransmitStart arriving s).ports.lastSeen = s.ports.lastSeen ∧
    (fieldTransmitStart arriving s).ports.houseOnLine = s.ports.houseOnLine ∧
    (fieldTransmitStart arriving s).ports.rdy = s.ports.rdy := by
  unfold fieldTransmitStart
  (repeat' split) <;> simp

@[simp] theorem releaseLine_frame (now : Tick) (s : State) :
  (releaseLine now s).powered = s.powered ∧ (releaseLine now s).free = s.free ∧ (releaseLine now s).tick = s.tick ∧
    (releaseLine now s).secTick = s.secTick ∧ (releaseLine now s).clock = s.clock ∧ (releaseLine now s).cls = s.cls ∧
    (releaseLine now s).zones = s.zones ∧ (releaseLine now s).rot = s.rot ∧ (releaseLine now s).burner = s.burner ∧
    (releaseLine now s).recov = s.recov ∧ (releaseLine now s).gauge = s.gauge ∧ (releaseLine now s).oil = s.oil ∧
    (releaseLine now s).postbox = s.postbox ∧ (releaseLine now s).mgmt = s.mgmt ∧
    (releaseLine now s).store = s.store ∧ (releaseLine now s).pending = s.pending ∧
    (releaseLine now s).ports.fieldAsm = s.ports.fieldAsm ∧ (releaseLine now s).ports.houseAsm = s.ports.houseAsm ∧
    (releaseLine now s).ports.fieldRx = s.ports.fieldRx ∧ (releaseLine now s).ports.houseRx = s.ports.houseRx ∧
    (releaseLine now s).ports.fieldTx = s.ports.fieldTx ∧
    (releaseLine now s).ports.houseOnLine = s.ports.houseOnLine ∧ (releaseLine now s).ports.rdy = s.ports.rdy := by
  unfold releaseLine
  (repeat' split) <;> simp

@[simp] theorem frameSent_frame (e : TxEntry) (s : State) :
  (frameSent e s).powered = s.powered ∧ (frameSent e s).free = s.free ∧ (frameSent e s).tick = s.tick ∧
    (frameSent e s).secTick = s.secTick ∧ (frameSent e s).clock = s.clock ∧ (frameSent e s).cls = s.cls ∧
    (frameSent e s).zones = s.zones ∧ (frameSent e s).rot = s.rot ∧ (frameSent e s).burner = s.burner ∧
    (frameSent e s).recov = s.recov ∧ (frameSent e s).gauge = s.gauge ∧ (frameSent e s).oil = s.oil ∧
    (frameSent e s).mgmt = s.mgmt ∧ (frameSent e s).store = s.store ∧ (frameSent e s).pending = s.pending ∧
    (frameSent e s).ports.fieldAsm = s.ports.fieldAsm ∧ (frameSent e s).ports.houseAsm = s.ports.houseAsm ∧
    (frameSent e s).ports.fieldRx = s.ports.fieldRx ∧ (frameSent e s).ports.houseRx = s.ports.houseRx ∧
    (frameSent e s).ports.fde = s.ports.fde ∧ (frameSent e s).ports.lastSeen = s.ports.lastSeen ∧
    (frameSent e s).ports.houseOnLine = s.ports.houseOnLine ∧ (frameSent e s).ports.rdy = s.ports.rdy := by
  unfold frameSent
  (repeat' split) <;> simp

@[simp] theorem echoMismatch_frame (e : TxEntry) (s : State) :
  (echoMismatch e s).powered = s.powered ∧ (echoMismatch e s).free = s.free ∧ (echoMismatch e s).tick = s.tick ∧
    (echoMismatch e s).secTick = s.secTick ∧ (echoMismatch e s).clock = s.clock ∧ (echoMismatch e s).cls = s.cls ∧
    (echoMismatch e s).zones = s.zones ∧ (echoMismatch e s).rot = s.rot ∧ (echoMismatch e s).burner = s.burner ∧
    (echoMismatch e s).recov = s.recov ∧ (echoMismatch e s).gauge = s.gauge ∧ (echoMismatch e s).oil = s.oil ∧
    (echoMismatch e s).store = s.store ∧ (echoMismatch e s).pending = s.pending ∧
    (echoMismatch e s).ports.houseAsm = s.ports.houseAsm ∧ (echoMismatch e s).ports.fieldRx = s.ports.fieldRx ∧
    (echoMismatch e s).ports.houseRx = s.ports.houseRx ∧ (echoMismatch e s).ports.fde = s.ports.fde ∧
    (echoMismatch e s).ports.lastSeen = s.ports.lastSeen ∧
    (echoMismatch e s).ports.houseOnLine = s.ports.houseOnLine ∧ (echoMismatch e s).ports.rdy = s.ports.rdy ∧
    (echoMismatch e s).mgmt.enable = s.mgmt.enable ∧ (echoMismatch e s).mgmt.restart = s.mgmt.restart := by
  unfold echoMismatch
  (repeat' split) <;> simp

@[simp] theorem echoCheck_frame (c : LineChar) (s : State) :
  (echoCheck c s).powered = s.powered ∧ (echoCheck c s).free = s.free ∧
    (echoCheck c s).tick = s.tick ∧ (echoCheck c s).secTick = s.secTick ∧
    (echoCheck c s).clock = s.clock ∧ (echoCheck c s).cls = s.cls ∧
    (echoCheck c s).zones = s.zones ∧ (echoCheck c s).rot = s.rot ∧
    (echoCheck c s).burner = s.burner ∧ (echoCheck c s).recov = s.recov ∧
    (echoCheck c s).gauge = s.gauge ∧ (echoCheck c s).oil = s.oil ∧
    (echoCheck c s).store = s.store ∧ (echoCheck c s).pending = s.pending ∧
    (echoCheck c s).ports.houseAsm = s.ports.houseAsm ∧
    (echoCheck c s).ports.fieldRx = s.ports.fieldRx ∧
    (echoCheck c s).ports.houseRx = s.ports.houseRx ∧
    (echoCheck c s).ports.houseOnLine = s.ports.houseOnLine ∧
    (echoCheck c s).ports.rdy = s.ports.rdy ∧
    (echoCheck c s).mgmt.enable = s.mgmt.enable ∧
    (echoCheck c s).mgmt.restart = s.mgmt.restart := by
  unfold echoCheck
  (repeat' split) <;> simp

@[simp] theorem characterReceived_frame (l : Line) (c : LineChar) (s : State) :
  (characterReceived l c s).powered = s.powered ∧
    (characterReceived l c s).free = s.free ∧
    (characterReceived l c s).tick = s.tick ∧
    (characterReceived l c s).secTick = s.secTick ∧
    (characterReceived l c s).clock = s.clock ∧
    (characterReceived l c s).cls = s.cls ∧
    (characterReceived l c s).zones = s.zones ∧
    (characterReceived l c s).rot = s.rot ∧
    (characterReceived l c s).burner = s.burner ∧
    (characterReceived l c s).recov = s.recov ∧
    (characterReceived l c s).gauge = s.gauge ∧
    (characterReceived l c s).oil = s.oil ∧
    (characterReceived l c s).store = s.store ∧
    (characterReceived l c s).pending = s.pending ∧
    (characterReceived l c s).mgmt.enable = s.mgmt.enable ∧
    (characterReceived l c s).mgmt.restart = s.mgmt.restart := by
  unfold characterReceived
  (repeat' split) <;> simp

@[simp] theorem replyWithdrawn_frame (s : State) :
  (replyWithdrawn s).powered = s.powered ∧ (replyWithdrawn s).free = s.free ∧ (replyWithdrawn s).tick = s.tick ∧
    (replyWithdrawn s).secTick = s.secTick ∧ (replyWithdrawn s).clock = s.clock ∧ (replyWithdrawn s).cls = s.cls ∧
    (replyWithdrawn s).zones = s.zones ∧ (replyWithdrawn s).rot = s.rot ∧ (replyWithdrawn s).burner = s.burner ∧
    (replyWithdrawn s).recov = s.recov ∧ (replyWithdrawn s).gauge = s.gauge ∧ (replyWithdrawn s).oil = s.oil ∧
    (replyWithdrawn s).mgmt = s.mgmt ∧ (replyWithdrawn s).store = s.store ∧ (replyWithdrawn s).pending = s.pending ∧
    (replyWithdrawn s).ports.fieldAsm = s.ports.fieldAsm ∧ (replyWithdrawn s).ports.houseAsm = s.ports.houseAsm ∧
    (replyWithdrawn s).ports.fieldRx = s.ports.fieldRx ∧ (replyWithdrawn s).ports.houseRx = s.ports.houseRx ∧
    (replyWithdrawn s).ports.fde = s.ports.fde ∧ (replyWithdrawn s).ports.lastSeen = s.ports.lastSeen ∧
    (replyWithdrawn s).ports.houseOnLine = s.ports.houseOnLine ∧ (replyWithdrawn s).ports.rdy = s.ports.rdy := by
  unfold replyWithdrawn
  (repeat' split) <;> simp

@[simp] theorem rdyChange_frame (level : Bool) (s : State) :
  (rdyChange level s).powered = s.powered ∧ (rdyChange level s).free = s.free ∧ (rdyChange level s).tick = s.tick ∧
    (rdyChange level s).secTick = s.secTick ∧ (rdyChange level s).clock = s.clock ∧ (rdyChange level s).cls = s.cls ∧
    (rdyChange level s).zones = s.zones ∧ (rdyChange level s).rot = s.rot ∧ (rdyChange level s).burner = s.burner ∧
    (rdyChange level s).recov = s.recov ∧ (rdyChange level s).gauge = s.gauge ∧ (rdyChange level s).oil = s.oil ∧
    (rdyChange level s).postbox = s.postbox ∧ (rdyChange level s).mgmt = s.mgmt ∧
    (rdyChange level s).store = s.store ∧ (rdyChange level s).pending = s.pending ∧
    (rdyChange level s).ports.fieldAsm = s.ports.fieldAsm ∧ (rdyChange level s).ports.houseAsm = s.ports.houseAsm ∧
    (rdyChange level s).ports.fieldRx = s.ports.fieldRx ∧ (rdyChange level s).ports.houseRx = s.ports.houseRx ∧
    (rdyChange level s).ports.fieldTx = s.ports.fieldTx ∧ (rdyChange level s).ports.fde = s.ports.fde ∧
    (rdyChange level s).ports.lastSeen = s.ports.lastSeen ∧
    (rdyChange level s).ports.houseOnLine = s.ports.houseOnLine := by
  unfold rdyChange
  (repeat' split) <;> simp

@[simp] theorem houseTransmitStart_frame (s : State) :
  (houseTransmitStart s).powered = s.powered ∧ (houseTransmitStart s).free = s.free ∧
    (houseTransmitStart s).tick = s.tick ∧ (houseTransmitStart s).secTick = s.secTick ∧
    (houseTransmitStart s).clock = s.clock ∧ (houseTransmitStart s).cls = s.cls ∧
    (houseTransmitStart s).zones = s.zones ∧ (houseTransmitStart s).rot = s.rot ∧
    (houseTransmitStart s).burner = s.burner ∧ (houseTransmitStart s).recov = s.recov ∧
    (houseTransmitStart s).gauge = s.gauge ∧ (houseTransmitStart s).oil = s.oil ∧
    (houseTransmitStart s).postbox = s.postbox ∧ (houseTransmitStart s).mgmt = s.mgmt ∧
    (houseTransmitStart s).store = s.store ∧ (houseTransmitStart s).pending = s.pending ∧
    (houseTransmitStart s).ports.fieldAsm = s.ports.fieldAsm ∧
    (houseTransmitStart s).ports.houseAsm = s.ports.houseAsm ∧
    (houseTransmitStart s).ports.fieldRx = s.ports.fieldRx ∧ (houseTransmitStart s).ports.houseRx = s.ports.houseRx ∧
    (houseTransmitStart s).ports.fieldTx = s.ports.fieldTx ∧ (houseTransmitStart s).ports.fde = s.ports.fde ∧
    (houseTransmitStart s).ports.lastSeen = s.ports.lastSeen ∧ (houseTransmitStart s).ports.rdy = s.ports.rdy := by
  unfold houseTransmitStart
  (repeat' split) <;> simp

@[simp] theorem answerSent_frame (e : HouseEntry) (s : State) :
  (answerSent e s).powered = s.powered ∧ (answerSent e s).free = s.free ∧ (answerSent e s).tick = s.tick ∧
    (answerSent e s).secTick = s.secTick ∧ (answerSent e s).clock = s.clock ∧ (answerSent e s).ports = s.ports ∧
    (answerSent e s).cls = s.cls ∧ (answerSent e s).zones = s.zones ∧ (answerSent e s).rot = s.rot ∧
    (answerSent e s).burner = s.burner ∧ (answerSent e s).recov = s.recov ∧ (answerSent e s).gauge = s.gauge ∧
    (answerSent e s).oil = s.oil ∧ (answerSent e s).postbox = s.postbox ∧ (answerSent e s).store = s.store ∧
    (answerSent e s).pending = s.pending ∧ (answerSent e s).mgmt.enable = s.mgmt.enable := by
  unfold answerSent
  (repeat' split) <;> simp

@[simp] theorem houseFrameSent_frame (s : State) :
  (houseFrameSent s).powered = s.powered ∧ (houseFrameSent s).free = s.free ∧ (houseFrameSent s).tick = s.tick ∧
    (houseFrameSent s).secTick = s.secTick ∧ (houseFrameSent s).clock = s.clock ∧ (houseFrameSent s).cls = s.cls ∧
    (houseFrameSent s).zones = s.zones ∧ (houseFrameSent s).rot = s.rot ∧ (houseFrameSent s).burner = s.burner ∧
    (houseFrameSent s).recov = s.recov ∧ (houseFrameSent s).gauge = s.gauge ∧ (houseFrameSent s).oil = s.oil ∧
    (houseFrameSent s).postbox = s.postbox ∧ (houseFrameSent s).store = s.store ∧
    (houseFrameSent s).pending = s.pending ∧ (houseFrameSent s).ports.fieldAsm = s.ports.fieldAsm ∧
    (houseFrameSent s).ports.houseAsm = s.ports.houseAsm ∧ (houseFrameSent s).ports.fieldRx = s.ports.fieldRx ∧
    (houseFrameSent s).ports.houseRx = s.ports.houseRx ∧ (houseFrameSent s).ports.fieldTx = s.ports.fieldTx ∧
    (houseFrameSent s).ports.fde = s.ports.fde ∧ (houseFrameSent s).ports.lastSeen = s.ports.lastSeen ∧
    (houseFrameSent s).ports.rdy = s.ports.rdy ∧ (houseFrameSent s).mgmt.enable = s.mgmt.enable := by
  unfold houseFrameSent
  (repeat' split) <;> simp

@[simp] theorem Num.store_frame (f : Num) (v : Nat) (s : State) :
  (Num.store f v s).powered = s.powered ∧ (Num.store f v s).free = s.free ∧ (Num.store f v s).tick = s.tick ∧
    (Num.store f v s).secTick = s.secTick ∧ (Num.store f v s).clock = s.clock ∧ (Num.store f v s).ports = s.ports ∧
    (Num.store f v s).cls = s.cls ∧ (Num.store f v s).zones = s.zones ∧ (Num.store f v s).postbox = s.postbox ∧
    (Num.store f v s).mgmt = s.mgmt ∧ (Num.store f v s).store = s.store ∧ (Num.store f v s).pending = s.pending ∧
    (Num.store f v s).recov.word = s.recov.word ∧ (Num.store f v s).recov.side = s.recov.side ∧
    (Num.store f v s).recov.hold = s.recov.hold ∧ (Num.store f v s).burner.run = s.burner.run ∧
    (Num.store f v s).burner.lock = s.burner.lock ∧ (Num.store f v s).burner.reset = s.burner.reset ∧
    (Num.store f v s).burner.gap = s.burner.gap ∧ (Num.store f v s).burner.dryStop = s.burner.dryStop ∧
    (Num.store f v s).gauge.live = s.gauge.live ∧ (Num.store f v s).gauge.dryT = s.gauge.dryT ∧
    (Num.store f v s).gauge.lowT = s.gauge.lowT ∧ (Num.store f v s).gauge.band = s.gauge.band ∧
    (Num.store f v s).rot.permit = s.rot.permit := by
  unfold Num.store
  (repeat' split) <;> simp

@[simp] theorem rejudgeReconcile_frame (s : State) :
  (rejudgeReconcile s).powered = s.powered ∧ (rejudgeReconcile s).free = s.free ∧
    (rejudgeReconcile s).tick = s.tick ∧ (rejudgeReconcile s).secTick = s.secTick ∧
    (rejudgeReconcile s).clock = s.clock ∧ (rejudgeReconcile s).cls = s.cls ∧ (rejudgeReconcile s).zones = s.zones ∧
    (rejudgeReconcile s).rot = s.rot ∧ (rejudgeReconcile s).burner = s.burner ∧
    (rejudgeReconcile s).recov = s.recov ∧ (rejudgeReconcile s).gauge = s.gauge ∧
    (rejudgeReconcile s).postbox = s.postbox ∧ (rejudgeReconcile s).store = s.store ∧
    (rejudgeReconcile s).pending = s.pending ∧ (rejudgeReconcile s).ports.fieldAsm = s.ports.fieldAsm ∧
    (rejudgeReconcile s).ports.houseAsm = s.ports.houseAsm ∧ (rejudgeReconcile s).ports.fieldRx = s.ports.fieldRx ∧
    (rejudgeReconcile s).ports.houseRx = s.ports.houseRx ∧ (rejudgeReconcile s).ports.fieldTx = s.ports.fieldTx ∧
    (rejudgeReconcile s).ports.fde = s.ports.fde ∧ (rejudgeReconcile s).ports.lastSeen = s.ports.lastSeen ∧
    (rejudgeReconcile s).ports.houseOnLine = s.ports.houseOnLine ∧ (rejudgeReconcile s).ports.rdy = s.ports.rdy ∧
    (rejudgeReconcile s).mgmt.enable = s.mgmt.enable ∧ (rejudgeReconcile s).mgmt.restart = s.mgmt.restart := by
  unfold rejudgeReconcile
  (repeat' split) <;> simp

@[simp] theorem rejudgeProving_frame (s : State) :
  (rejudgeProving s).powered = s.powered ∧ (rejudgeProving s).free = s.free ∧ (rejudgeProving s).tick = s.tick ∧
    (rejudgeProving s).secTick = s.secTick ∧ (rejudgeProving s).clock = s.clock ∧ (rejudgeProving s).cls = s.cls ∧
    (rejudgeProving s).zones = s.zones ∧ (rejudgeProving s).rot = s.rot ∧ (rejudgeProving s).gauge = s.gauge ∧
    (rejudgeProving s).store = s.store ∧ (rejudgeProving s).pending = s.pending ∧
    (rejudgeProving s).ports.fieldAsm = s.ports.fieldAsm ∧ (rejudgeProving s).ports.houseAsm = s.ports.houseAsm ∧
    (rejudgeProving s).ports.fieldRx = s.ports.fieldRx ∧ (rejudgeProving s).ports.houseRx = s.ports.houseRx ∧
    (rejudgeProving s).ports.fieldTx = s.ports.fieldTx ∧ (rejudgeProving s).ports.fde = s.ports.fde ∧
    (rejudgeProving s).ports.lastSeen = s.ports.lastSeen ∧
    (rejudgeProving s).ports.houseOnLine = s.ports.houseOnLine ∧ (rejudgeProving s).ports.rdy = s.ports.rdy ∧
    (rejudgeProving s).mgmt.enable = s.mgmt.enable ∧ (rejudgeProving s).mgmt.restart = s.mgmt.restart ∧
    (rejudgeProving s).recov.word = s.recov.word ∧ (rejudgeProving s).recov.side = s.recov.side ∧
    (rejudgeProving s).recov.hold = s.recov.hold := by
  unfold rejudgeProving
  (repeat' split) <;> simp

@[simp] theorem Num.write_frame (f : Num) (v : Nat) (s : State) :
  (Num.write f v s).powered = s.powered ∧ (Num.write f v s).free = s.free ∧ (Num.write f v s).tick = s.tick ∧
    (Num.write f v s).secTick = s.secTick ∧ (Num.write f v s).clock = s.clock ∧ (Num.write f v s).cls = s.cls ∧
    (Num.write f v s).store = s.store ∧ (Num.write f v s).pending = s.pending ∧
    (Num.write f v s).ports.fieldAsm = s.ports.fieldAsm ∧ (Num.write f v s).ports.houseAsm = s.ports.houseAsm ∧
    (Num.write f v s).ports.fieldRx = s.ports.fieldRx ∧ (Num.write f v s).ports.houseRx = s.ports.houseRx ∧
    (Num.write f v s).ports.fieldTx = s.ports.fieldTx ∧ (Num.write f v s).ports.fde = s.ports.fde ∧
    (Num.write f v s).ports.lastSeen = s.ports.lastSeen ∧ (Num.write f v s).ports.houseOnLine = s.ports.houseOnLine ∧
    (Num.write f v s).ports.rdy = s.ports.rdy ∧ (Num.write f v s).mgmt.enable = s.mgmt.enable ∧
    (Num.write f v s).mgmt.restart = s.mgmt.restart := by
  unfold Num.write
  (repeat' split) <;> simp

@[simp] theorem storePartFlags_frame (v : Nat) (s : State) :
  (storePartFlags v s).powered = s.powered ∧ (storePartFlags v s).free = s.free ∧
    (storePartFlags v s).tick = s.tick ∧ (storePartFlags v s).secTick = s.secTick ∧
    (storePartFlags v s).clock = s.clock ∧ (storePartFlags v s).ports = s.ports ∧
    (storePartFlags v s).zones = s.zones ∧ (storePartFlags v s).gauge = s.gauge ∧ (storePartFlags v s).oil = s.oil ∧
    (storePartFlags v s).postbox = s.postbox ∧ (storePartFlags v s).mgmt = s.mgmt ∧
    (storePartFlags v s).store = s.store ∧ (storePartFlags v s).pending = s.pending ∧
    (storePartFlags v s).recov.word = s.recov.word ∧ (storePartFlags v s).recov.side = s.recov.side ∧
    (storePartFlags v s).recov.hold = s.recov.hold ∧ (storePartFlags v s).burner.run = s.burner.run ∧
    (storePartFlags v s).burner.lock = s.burner.lock ∧ (storePartFlags v s).burner.reset = s.burner.reset ∧
    (storePartFlags v s).burner.gap = s.burner.gap ∧ (storePartFlags v s).rot.limit = s.rot.limit ∧
    (storePartFlags v s).rot.permit = s.rot.permit ∧ (storePartFlags v s).cls.entries = s.cls.entries ∧
    (storePartFlags v s).cls.inHand = s.cls.inHand := by
  unfold storePartFlags
  (repeat' split) <;> simp

@[simp] theorem writePartFlags_frame (v : Nat) (s : State) :
  (writePartFlags v s).powered = s.powered ∧ (writePartFlags v s).free = s.free ∧
    (writePartFlags v s).tick = s.tick ∧ (writePartFlags v s).secTick = s.secTick ∧
    (writePartFlags v s).clock = s.clock ∧ (writePartFlags v s).zones = s.zones ∧
    (writePartFlags v s).gauge = s.gauge ∧ (writePartFlags v s).store = s.store ∧
    (writePartFlags v s).pending = s.pending ∧ (writePartFlags v s).ports.fieldAsm = s.ports.fieldAsm ∧
    (writePartFlags v s).ports.houseAsm = s.ports.houseAsm ∧ (writePartFlags v s).ports.fieldRx = s.ports.fieldRx ∧
    (writePartFlags v s).ports.houseRx = s.ports.houseRx ∧ (writePartFlags v s).ports.fieldTx = s.ports.fieldTx ∧
    (writePartFlags v s).ports.fde = s.ports.fde ∧ (writePartFlags v s).ports.lastSeen = s.ports.lastSeen ∧
    (writePartFlags v s).ports.houseOnLine = s.ports.houseOnLine ∧ (writePartFlags v s).ports.rdy = s.ports.rdy ∧
    (writePartFlags v s).mgmt.enable = s.mgmt.enable ∧ (writePartFlags v s).mgmt.restart = s.mgmt.restart ∧
    (writePartFlags v s).recov.word = s.recov.word ∧ (writePartFlags v s).recov.side = s.recov.side ∧
    (writePartFlags v s).recov.hold = s.recov.hold ∧ (writePartFlags v s).cls.entries = s.cls.entries ∧
    (writePartFlags v s).cls.inHand = s.cls.inHand := by
  unfold writePartFlags
  (repeat' split) <;> simp

@[simp] theorem writeEntry_frame (i v : Nat) (s : State) :
  (writeEntry i v s).2.powered = s.powered ∧ (writeEntry i v s).2.free = s.free ∧
    (writeEntry i v s).2.tick = s.tick ∧ (writeEntry i v s).2.secTick = s.secTick ∧
    (writeEntry i v s).2.clock = s.clock ∧ (writeEntry i v s).2.ports = s.ports ∧
    (writeEntry i v s).2.zones = s.zones ∧ (writeEntry i v s).2.rot = s.rot ∧
    (writeEntry i v s).2.burner = s.burner ∧ (writeEntry i v s).2.recov = s.recov ∧
    (writeEntry i v s).2.gauge = s.gauge ∧ (writeEntry i v s).2.oil = s.oil ∧
    (writeEntry i v s).2.postbox = s.postbox ∧ (writeEntry i v s).2.mgmt = s.mgmt ∧
    (writeEntry i v s).2.store = s.store ∧ (writeEntry i v s).2.pending = s.pending ∧
    (writeEntry i v s).2.cls.inHand = s.cls.inHand := by
  unfold writeEntry
  dsimp only
  (repeat' split) <;> simp

@[simp] theorem storeSlot_frame (z : Fin 8) (n : SlotNo) (a : Option Byte) (s : State) :
  (storeSlot z n a s).powered = s.powered ∧ (storeSlot z n a s).free = s.free ∧ (storeSlot z n a s).tick = s.tick ∧
    (storeSlot z n a s).secTick = s.secTick ∧ (storeSlot z n a s).clock = s.clock ∧ (storeSlot z n a s).cls = s.cls ∧
    (storeSlot z n a s).recov = s.recov ∧ (storeSlot z n a s).gauge = s.gauge ∧
    (storeSlot z n a s).postbox = s.postbox ∧ (storeSlot z n a s).store = s.store ∧
    (storeSlot z n a s).pending = s.pending ∧ (storeSlot z n a s).ports.fieldAsm = s.ports.fieldAsm ∧
    (storeSlot z n a s).ports.houseAsm = s.ports.houseAsm ∧ (storeSlot z n a s).ports.fieldRx = s.ports.fieldRx ∧
    (storeSlot z n a s).ports.houseRx = s.ports.houseRx ∧ (storeSlot z n a s).ports.fieldTx = s.ports.fieldTx ∧
    (storeSlot z n a s).ports.fde = s.ports.fde ∧ (storeSlot z n a s).ports.lastSeen = s.ports.lastSeen ∧
    (storeSlot z n a s).ports.houseOnLine = s.ports.houseOnLine ∧ (storeSlot z n a s).ports.rdy = s.ports.rdy ∧
    (storeSlot z n a s).mgmt.enable = s.mgmt.enable ∧ (storeSlot z n a s).mgmt.restart = s.mgmt.restart := by
  unfold storeSlot
  (repeat' split) <;> simp

@[simp] theorem writeSlot_frame (z : Fin 8) (n : SlotNo) (v : Nat) (s : State) :
  (writeSlot z n v s).2.powered = s.powered ∧ (writeSlot z n v s).2.free = s.free ∧
    (writeSlot z n v s).2.tick = s.tick ∧ (writeSlot z n v s).2.secTick = s.secTick ∧
    (writeSlot z n v s).2.clock = s.clock ∧ (writeSlot z n v s).2.cls = s.cls ∧
    (writeSlot z n v s).2.recov = s.recov ∧ (writeSlot z n v s).2.gauge = s.gauge ∧
    (writeSlot z n v s).2.postbox = s.postbox ∧ (writeSlot z n v s).2.store = s.store ∧
    (writeSlot z n v s).2.pending = s.pending ∧ (writeSlot z n v s).2.ports.fieldAsm = s.ports.fieldAsm ∧
    (writeSlot z n v s).2.ports.houseAsm = s.ports.houseAsm ∧ (writeSlot z n v s).2.ports.fieldRx = s.ports.fieldRx ∧
    (writeSlot z n v s).2.ports.houseRx = s.ports.houseRx ∧ (writeSlot z n v s).2.ports.fieldTx = s.ports.fieldTx ∧
    (writeSlot z n v s).2.ports.fde = s.ports.fde ∧ (writeSlot z n v s).2.ports.lastSeen = s.ports.lastSeen ∧
    (writeSlot z n v s).2.ports.houseOnLine = s.ports.houseOnLine ∧ (writeSlot z n v s).2.ports.rdy = s.ports.rdy ∧
    (writeSlot z n v s).2.mgmt.enable = s.mgmt.enable ∧ (writeSlot z n v s).2.mgmt.restart = s.mgmt.restart := by
  unfold writeSlot
  (repeat' split) <;> simp

@[simp] theorem storeRoute_frame (z : Fin 8) (r : Option (Fin 8)) (s : State) :
  (storeRoute z r s).powered = s.powered ∧ (storeRoute z r s).free = s.free ∧ (storeRoute z r s).tick = s.tick ∧
    (storeRoute z r s).secTick = s.secTick ∧ (storeRoute z r s).clock = s.clock ∧ (storeRoute z r s).cls = s.cls ∧
    (storeRoute z r s).recov = s.recov ∧ (storeRoute z r s).gauge = s.gauge ∧
    (storeRoute z r s).postbox = s.postbox ∧ (storeRoute z r s).store = s.store ∧
    (storeRoute z r s).pending = s.pending ∧ (storeRoute z r s).ports.fieldAsm = s.ports.fieldAsm ∧
    (storeRoute z r s).ports.houseAsm = s.ports.houseAsm ∧ (storeRoute z r s).ports.fieldRx = s.ports.fieldRx ∧
    (storeRoute z r s).ports.houseRx = s.ports.houseRx ∧ (storeRoute z r s).ports.fieldTx = s.ports.fieldTx ∧
    (storeRoute z r s).ports.fde = s.ports.fde ∧ (storeRoute z r s).ports.lastSeen = s.ports.lastSeen ∧
    (storeRoute z r s).ports.houseOnLine = s.ports.houseOnLine ∧ (storeRoute z r s).ports.rdy = s.ports.rdy ∧
    (storeRoute z r s).mgmt.enable = s.mgmt.enable ∧ (storeRoute z r s).mgmt.restart = s.mgmt.restart := by
  unfold storeRoute
  (repeat' split) <;> simp

@[simp] theorem storeEnabled_frame (z : Fin 8) (b : Bool) (s : State) :
  (storeEnabled z b s).powered = s.powered ∧ (storeEnabled z b s).free = s.free ∧
    (storeEnabled z b s).tick = s.tick ∧ (storeEnabled z b s).secTick = s.secTick ∧
    (storeEnabled z b s).clock = s.clock ∧ (storeEnabled z b s).cls = s.cls ∧ (storeEnabled z b s).recov = s.recov ∧
    (storeEnabled z b s).gauge = s.gauge ∧ (storeEnabled z b s).postbox = s.postbox ∧
    (storeEnabled z b s).store = s.store ∧ (storeEnabled z b s).pending = s.pending ∧
    (storeEnabled z b s).ports.fieldAsm = s.ports.fieldAsm ∧ (storeEnabled z b s).ports.houseAsm = s.ports.houseAsm ∧
    (storeEnabled z b s).ports.fieldRx = s.ports.fieldRx ∧ (storeEnabled z b s).ports.houseRx = s.ports.houseRx ∧
    (storeEnabled z b s).ports.fieldTx = s.ports.fieldTx ∧ (storeEnabled z b s).ports.fde = s.ports.fde ∧
    (storeEnabled z b s).ports.lastSeen = s.ports.lastSeen ∧
    (storeEnabled z b s).ports.houseOnLine = s.ports.houseOnLine ∧ (storeEnabled z b s).ports.rdy = s.ports.rdy ∧
    (storeEnabled z b s).mgmt.enable = s.mgmt.enable ∧ (storeEnabled z b s).mgmt.restart = s.mgmt.restart := by
  unfold storeEnabled
  (repeat' split) <;> simp

@[simp] theorem storeZoneNum_frame (z : Fin 8) (f : ZoneNum) (v : Int) (s : State) :
  (storeZoneNum z f v s).powered = s.powered ∧ (storeZoneNum z f v s).free = s.free ∧
    (storeZoneNum z f v s).tick = s.tick ∧ (storeZoneNum z f v s).secTick = s.secTick ∧
    (storeZoneNum z f v s).clock = s.clock ∧ (storeZoneNum z f v s).cls = s.cls ∧
    (storeZoneNum z f v s).recov = s.recov ∧ (storeZoneNum z f v s).gauge = s.gauge ∧
    (storeZoneNum z f v s).postbox = s.postbox ∧ (storeZoneNum z f v s).store = s.store ∧
    (storeZoneNum z f v s).pending = s.pending ∧ (storeZoneNum z f v s).ports.fieldAsm = s.ports.fieldAsm ∧
    (storeZoneNum z f v s).ports.houseAsm = s.ports.houseAsm ∧
    (storeZoneNum z f v s).ports.fieldRx = s.ports.fieldRx ∧ (storeZoneNum z f v s).ports.houseRx = s.ports.houseRx ∧
    (storeZoneNum z f v s).ports.fieldTx = s.ports.fieldTx ∧ (storeZoneNum z f v s).ports.fde = s.ports.fde ∧
    (storeZoneNum z f v s).ports.lastSeen = s.ports.lastSeen ∧
    (storeZoneNum z f v s).ports.houseOnLine = s.ports.houseOnLine ∧ (storeZoneNum z f v s).ports.rdy = s.ports.rdy ∧
    (storeZoneNum z f v s).mgmt.enable = s.mgmt.enable ∧ (storeZoneNum z f v s).mgmt.restart = s.mgmt.restart := by
  unfold storeZoneNum
  (repeat' split) <;> simp

@[simp] theorem storeAuto_frame (b : Bool) (s : State) :
  (storeAuto b s).powered = s.powered ∧ (storeAuto b s).free = s.free ∧ (storeAuto b s).tick = s.tick ∧
    (storeAuto b s).secTick = s.secTick ∧ (storeAuto b s).clock = s.clock ∧ (storeAuto b s).cls = s.cls ∧
    (storeAuto b s).zones = s.zones ∧ (storeAuto b s).rot = s.rot ∧ (storeAuto b s).gauge = s.gauge ∧
    (storeAuto b s).store = s.store ∧ (storeAuto b s).pending = s.pending ∧
    (storeAuto b s).ports.fieldAsm = s.ports.fieldAsm ∧ (storeAuto b s).ports.houseAsm = s.ports.houseAsm ∧
    (storeAuto b s).ports.fieldRx = s.ports.fieldRx ∧ (storeAuto b s).ports.houseRx = s.ports.houseRx ∧
    (storeAuto b s).ports.fieldTx = s.ports.fieldTx ∧ (storeAuto b s).ports.fde = s.ports.fde ∧
    (storeAuto b s).ports.lastSeen = s.ports.lastSeen ∧ (storeAuto b s).ports.houseOnLine = s.ports.houseOnLine ∧
    (storeAuto b s).ports.rdy = s.ports.rdy ∧ (storeAuto b s).mgmt.enable = s.mgmt.enable ∧
    (storeAuto b s).mgmt.restart = s.mgmt.restart ∧ (storeAuto b s).recov.word = s.recov.word ∧
    (storeAuto b s).recov.side = s.recov.side ∧ (storeAuto b s).recov.hold = s.recov.hold := by
  unfold storeAuto
  (repeat' split) <;> simp

@[simp] theorem storePend_frame (i : Nat) (f : StrapEntry → StrapEntry) (s : State) :
  (storePend i f s).powered = s.powered ∧ (storePend i f s).free = s.free ∧ (storePend i f s).tick = s.tick ∧
    (storePend i f s).secTick = s.secTick ∧ (storePend i f s).clock = s.clock ∧ (storePend i f s).ports = s.ports ∧
    (storePend i f s).cls = s.cls ∧ (storePend i f s).zones = s.zones ∧ (storePend i f s).rot = s.rot ∧
    (storePend i f s).burner = s.burner ∧ (storePend i f s).recov = s.recov ∧ (storePend i f s).oil = s.oil ∧
    (storePend i f s).postbox = s.postbox ∧ (storePend i f s).mgmt = s.mgmt ∧ (storePend i f s).store = s.store ∧
    (storePend i f s).pending = s.pending ∧ (storePend i f s).gauge.live = s.gauge.live ∧
    (storePend i f s).gauge.dryT = s.gauge.dryT ∧ (storePend i f s).gauge.lowT = s.gauge.lowT ∧
    (storePend i f s).gauge.band = s.gauge.band := by
  unfold storePend
  (repeat' split) <;> simp

@[simp] theorem clearCounter_frame (i : Nat) (s : State) :
  (clearCounter i s).powered = s.powered ∧ (clearCounter i s).free = s.free ∧ (clearCounter i s).tick = s.tick ∧
    (clearCounter i s).secTick = s.secTick ∧ (clearCounter i s).clock = s.clock ∧ (clearCounter i s).rot = s.rot ∧
    (clearCounter i s).recov = s.recov ∧ (clearCounter i s).oil = s.oil ∧ (clearCounter i s).pending = s.pending ∧
    (clearCounter i s).ports.fieldAsm = s.ports.fieldAsm ∧ (clearCounter i s).ports.houseAsm = s.ports.houseAsm ∧
    (clearCounter i s).ports.fieldRx = s.ports.fieldRx ∧ (clearCounter i s).ports.houseRx = s.ports.houseRx ∧
    (clearCounter i s).ports.fieldTx = s.ports.fieldTx ∧ (clearCounter i s).ports.fde = s.ports.fde ∧
    (clearCounter i s).ports.lastSeen = s.ports.lastSeen ∧
    (clearCounter i s).ports.houseOnLine = s.ports.houseOnLine ∧ (clearCounter i s).ports.rdy = s.ports.rdy ∧
    (clearCounter i s).mgmt.enable = s.mgmt.enable ∧ (clearCounter i s).mgmt.restart = s.mgmt.restart ∧
    (clearCounter i s).burner.run = s.burner.run ∧ (clearCounter i s).burner.lock = s.burner.lock ∧
    (clearCounter i s).burner.reset = s.burner.reset ∧ (clearCounter i s).burner.gap = s.burner.gap ∧
    (clearCounter i s).burner.dryStop = s.burner.dryStop ∧ (clearCounter i s).store.mem = s.store.mem ∧
    (clearCounter i s).store.spoilt = s.store.spoilt ∧ (clearCounter i s).store.save = s.store.save ∧
    (clearCounter i s).store.present = s.store.present ∧ (clearCounter i s).gauge.live = s.gauge.live ∧
    (clearCounter i s).gauge.dryT = s.gauge.dryT ∧ (clearCounter i s).gauge.lowT = s.gauge.lowT ∧
    (clearCounter i s).gauge.band = s.gauge.band ∧ (clearCounter i s).cls.entries = s.cls.entries ∧
    (clearCounter i s).cls.inHand = s.cls.inHand := by
  unfold clearCounter
  (repeat' split) <;> simp

@[simp] theorem applyField_frame (f : Field) (v : Nat) (s : State) :
  (applyField f v s).2.powered = s.powered ∧ (applyField f v s).2.free = s.free ∧
    (applyField f v s).2.tick = s.tick ∧ (applyField f v s).2.secTick = s.secTick ∧
    (applyField f v s).2.clock = s.clock ∧ (applyField f v s).2.pending = s.pending ∧
    (applyField f v s).2.ports.fieldAsm = s.ports.fieldAsm ∧ (applyField f v s).2.ports.houseAsm = s.ports.houseAsm ∧
    (applyField f v s).2.ports.fieldRx = s.ports.fieldRx ∧ (applyField f v s).2.ports.houseRx = s.ports.houseRx ∧
    (applyField f v s).2.ports.fieldTx = s.ports.fieldTx ∧ (applyField f v s).2.ports.fde = s.ports.fde ∧
    (applyField f v s).2.ports.lastSeen = s.ports.lastSeen ∧
    (applyField f v s).2.ports.houseOnLine = s.ports.houseOnLine ∧ (applyField f v s).2.ports.rdy = s.ports.rdy ∧
    (applyField f v s).2.mgmt.restart = s.mgmt.restart ∧ (applyField f v s).2.store.mem = s.store.mem ∧
    (applyField f v s).2.store.spoilt = s.store.spoilt ∧ (applyField f v s).2.store.save = s.store.save ∧
    (applyField f v s).2.store.present = s.store.present ∧ (applyField f v s).2.cls.inHand = s.cls.inHand := by
  unfold applyField
  (repeat' split) <;> simp

@[simp] theorem refusedAt_frame (start offset : Nat) (r : Reason) (s : State) :
  (refusedAt start offset r s).2.powered = s.powered ∧ (refusedAt start offset r s).2.tick = s.tick ∧
    (refusedAt start offset r s).2.secTick = s.secTick ∧ (refusedAt start offset r s).2.clock = s.clock ∧
    (refusedAt start offset r s).2.ports = s.ports ∧ (refusedAt start offset r s).2.cls = s.cls ∧
    (refusedAt start offset r s).2.zones = s.zones ∧ (refusedAt start offset r s).2.rot = s.rot ∧
    (refusedAt start offset r s).2.burner = s.burner ∧ (refusedAt start offset r s).2.recov = s.recov ∧
    (refusedAt start offset r s).2.gauge = s.gauge ∧ (refusedAt start offset r s).2.oil = s.oil ∧
    (refusedAt start offset r s).2.postbox = s.postbox ∧ (refusedAt start offset r s).2.mgmt = s.mgmt ∧
    (refusedAt start offset r s).2.store = s.store ∧ (refusedAt start offset r s).2.pending = s.pending := by
  unfold refusedAt
  (repeat' split) <;> simp

@[simp] theorem writeFields_frame (fuel start offset : Nat) (data : List Byte) (c : Option (List Byte)) (s : State) :
  (writeFields fuel start offset data c s).2.powered = s.powered ∧
    (writeFields fuel start offset data c s).2.tick = s.tick ∧
    (writeFields fuel start offset data c s).2.secTick = s.secTick ∧
    (writeFields fuel start offset data c s).2.clock = s.clock ∧
    (writeFields fuel start offset data c s).2.pending = s.pending ∧
    (writeFields fuel start offset data c s).2.ports.fieldAsm = s.ports.fieldAsm ∧
    (writeFields fuel start offset data c s).2.ports.houseAsm = s.ports.houseAsm ∧
    (writeFields fuel start offset data c s).2.ports.fieldRx = s.ports.fieldRx ∧
    (writeFields fuel start offset data c s).2.ports.houseRx = s.ports.houseRx ∧
    (writeFields fuel start offset data c s).2.ports.fieldTx = s.ports.fieldTx ∧
    (writeFields fuel start offset data c s).2.ports.fde = s.ports.fde ∧
    (writeFields fuel start offset data c s).2.ports.lastSeen = s.ports.lastSeen ∧
    (writeFields fuel start offset data c s).2.ports.houseOnLine = s.ports.houseOnLine ∧
    (writeFields fuel start offset data c s).2.ports.rdy = s.ports.rdy ∧
    (writeFields fuel start offset data c s).2.mgmt.restart = s.mgmt.restart ∧
    (writeFields fuel start offset data c s).2.store.mem = s.store.mem ∧
    (writeFields fuel start offset data c s).2.store.spoilt = s.store.spoilt ∧
    (writeFields fuel start offset data c s).2.store.save = s.store.save ∧
    (writeFields fuel start offset data c s).2.store.present = s.store.present ∧
    (writeFields fuel start offset data c s).2.cls.inHand = s.cls.inHand := by
  induction fuel generalizing offset data c s with
  | zero => simp [writeFields]
  | succ n ih =>
    unfold writeFields
    dsimp only
    (repeat' split) <;> simp [ih]

@[simp] theorem writeTable_frame (start : Nat) (data : List Byte) (s : State) :
  (writeTable start data s).2.powered = s.powered ∧ (writeTable start data s).2.tick = s.tick ∧
    (writeTable start data s).2.secTick = s.secTick ∧ (writeTable start data s).2.clock = s.clock ∧
    (writeTable start data s).2.pending = s.pending ∧ (writeTable start data s).2.ports.fieldAsm = s.ports.fieldAsm ∧
    (writeTable start data s).2.ports.houseAsm = s.ports.houseAsm ∧
    (writeTable start data s).2.ports.fieldRx = s.ports.fieldRx ∧
    (writeTable start data s).2.ports.houseRx = s.ports.houseRx ∧
    (writeTable start data s).2.ports.fieldTx = s.ports.fieldTx ∧
    (writeTable start data s).2.ports.fde = s.ports.fde ∧
    (writeTable start data s).2.ports.lastSeen = s.ports.lastSeen ∧
    (writeTable start data s).2.ports.houseOnLine = s.ports.houseOnLine ∧
    (writeTable start data s).2.ports.rdy = s.ports.rdy ∧ (writeTable start data s).2.mgmt.restart = s.mgmt.restart ∧
    (writeTable start data s).2.store.mem = s.store.mem ∧ (writeTable start data s).2.store.spoilt = s.store.spoilt ∧
    (writeTable start data s).2.store.save = s.store.save ∧
    (writeTable start data s).2.store.present = s.store.present ∧
    (writeTable start data s).2.cls.inHand = s.cls.inHand := by
  unfold writeTable
  (repeat' split) <;> simp

@[simp] theorem copySettings_frame (src s : State) :
  (copySettings src s).powered = s.powered ∧ (copySettings src s).free = s.free ∧
    (copySettings src s).tick = s.tick ∧ (copySettings src s).secTick = s.secTick ∧
    (copySettings src s).clock = s.clock ∧ (copySettings src s).ports = s.ports ∧
    (copySettings src s).postbox = s.postbox ∧ (copySettings src s).mgmt = s.mgmt ∧
    (copySettings src s).store = s.store ∧ (copySettings src s).pending = s.pending ∧
    (copySettings src s).recov.word = s.recov.word ∧ (copySettings src s).recov.side = s.recov.side ∧
    (copySettings src s).recov.hold = s.recov.hold ∧ (copySettings src s).burner.run = s.burner.run ∧
    (copySettings src s).burner.lock = s.burner.lock ∧ (copySettings src s).burner.reset = s.burner.reset ∧
    (copySettings src s).burner.gap = s.burner.gap ∧ (copySettings src s).gauge.band = s.gauge.band ∧
    (copySettings src s).rot.permit = s.rot.permit ∧ (copySettings src s).cls.inHand = s.cls.inHand := by
  unfold copySettings
  (repeat' split) <;> simp

@[simp] theorem saveFail_frame (p : SavePhase) (offset : Nat) (s : State) :
  (saveFail p offset s).powered = s.powered ∧ (saveFail p offset s).free = s.free ∧
    (saveFail p offset s).tick = s.tick ∧ (saveFail p offset s).secTick = s.secTick ∧
    (saveFail p offset s).clock = s.clock ∧ (saveFail p offset s).cls = s.cls ∧
    (saveFail p offset s).zones = s.zones ∧ (saveFail p offset s).rot = s.rot ∧
    (saveFail p offset s).burner = s.burner ∧ (saveFail p offset s).recov = s.recov ∧
    (saveFail p offset s).gauge = s.gauge ∧ (saveFail p offset s).oil = s.oil ∧
    (saveFail p offset s).postbox = s.postbox ∧ (saveFail p offset s).pending = s.pending ∧
    (saveFail p offset s).ports.fieldAsm = s.ports.fieldAsm ∧
    (saveFail p offset s).ports.houseAsm = s.ports.houseAsm ∧ (saveFail p offset s).ports.fieldRx = s.ports.fieldRx ∧
    (saveFail p offset s).ports.houseRx = s.ports.houseRx ∧ (saveFail p offset s).ports.fieldTx = s.ports.fieldTx ∧
    (saveFail p offset s).ports.fde = s.ports.fde ∧ (saveFail p offset s).ports.lastSeen = s.ports.lastSeen ∧
    (saveFail p offset s).ports.houseOnLine = s.ports.houseOnLine ∧ (saveFail p offset s).ports.rdy = s.ports.rdy ∧
    (saveFail p offset s).mgmt.enable = s.mgmt.enable ∧ (saveFail p offset s).mgmt.restart = s.mgmt.restart := by
  unfold saveFail
  (repeat' split) <;> simp

@[simp] theorem startSave_frame (s : State) :
  (startSave s).2.powered = s.powered ∧ (startSave s).2.free = s.free ∧ (startSave s).2.tick = s.tick ∧
    (startSave s).2.secTick = s.secTick ∧ (startSave s).2.clock = s.clock ∧ (startSave s).2.ports = s.ports ∧
    (startSave s).2.cls = s.cls ∧ (startSave s).2.zones = s.zones ∧ (startSave s).2.rot = s.rot ∧
    (startSave s).2.burner = s.burner ∧ (startSave s).2.recov = s.recov ∧ (startSave s).2.gauge = s.gauge ∧
    (startSave s).2.oil = s.oil ∧ (startSave s).2.postbox = s.postbox ∧ (startSave s).2.mgmt = s.mgmt ∧
    (startSave s).2.pending = s.pending := by
  unfold startSave
  (repeat' split) <;> simp

@[simp] theorem saveTransferDone_frame (ack : Bool) (s : State) :
  (saveTransferDone ack s).powered = s.powered ∧
    (saveTransferDone ack s).tick = s.tick ∧ (saveTransferDone ack s).secTick = s.secTick ∧
    (saveTransferDone ack s).clock = s.clock ∧ (saveTransferDone ack s).cls = s.cls ∧
    (saveTransferDone ack s).zones = s.zones ∧ (saveTransferDone ack s).rot = s.rot ∧
    (saveTransferDone ack s).burner = s.burner ∧ (saveTransferDone ack s).recov = s.recov ∧
    (saveTransferDone ack s).gauge = s.gauge ∧ (saveTransferDone ack s).oil = s.oil ∧
    (saveTransferDone ack s).postbox = s.postbox ∧ (saveTransferDone ack s).pending = s.pending ∧
    (saveTransferDone ack s).ports.fieldAsm = s.ports.fieldAsm ∧
    (saveTransferDone ack s).ports.houseAsm = s.ports.houseAsm ∧
    (saveTransferDone ack s).ports.fieldRx = s.ports.fieldRx ∧
    (saveTransferDone ack s).ports.houseRx = s.ports.houseRx ∧
    (saveTransferDone ack s).ports.fieldTx = s.ports.fieldTx ∧ (saveTransferDone ack s).ports.fde = s.ports.fde ∧
    (saveTransferDone ack s).ports.lastSeen = s.ports.lastSeen ∧
    (saveTransferDone ack s).ports.houseOnLine = s.ports.houseOnLine ∧
    (saveTransferDone ack s).ports.rdy = s.ports.rdy ∧ (saveTransferDone ack s).mgmt.enable = s.mgmt.enable ∧
    (saveTransferDone ack s).mgmt.restart = s.mgmt.restart := by
  unfold saveTransferDone transferFail
  (repeat' split) <;> simp

@[simp] theorem saveReadbackDone_frame (ack : Bool) (ds : List (Fin 774 × Byte)) (s : State) :
  (saveReadbackDone ack ds s).powered = s.powered ∧ (saveReadbackDone ack ds s).tick = s.tick ∧
    (saveReadbackDone ack ds s).secTick = s.secTick ∧ (saveReadbackDone ack ds s).clock = s.clock ∧
    (saveReadbackDone ack ds s).cls = s.cls ∧ (saveReadbackDone ack ds s).zones = s.zones ∧
    (saveReadbackDone ack ds s).rot = s.rot ∧ (saveReadbackDone ack ds s).burner = s.burner ∧
    (saveReadbackDone ack ds s).recov = s.recov ∧ (saveReadbackDone ack ds s).gauge = s.gauge ∧
    (saveReadbackDone ack ds s).oil = s.oil ∧ (saveReadbackDone ack ds s).postbox = s.postbox ∧
    (saveReadbackDone ack ds s).pending = s.pending ∧ (saveReadbackDone ack ds s).ports.fieldAsm = s.ports.fieldAsm ∧
    (saveReadbackDone ack ds s).ports.houseAsm = s.ports.houseAsm ∧
    (saveReadbackDone ack ds s).ports.fieldRx = s.ports.fieldRx ∧
    (saveReadbackDone ack ds s).ports.houseRx = s.ports.houseRx ∧
    (saveReadbackDone ack ds s).ports.fieldTx = s.ports.fieldTx ∧
    (saveReadbackDone ack ds s).ports.fde = s.ports.fde ∧
    (saveReadbackDone ack ds s).ports.lastSeen = s.ports.lastSeen ∧
    (saveReadbackDone ack ds s).ports.houseOnLine = s.ports.houseOnLine ∧
    (saveReadbackDone ack ds s).ports.rdy = s.ports.rdy ∧ (saveReadbackDone ack ds s).mgmt.enable = s.mgmt.enable ∧
    (saveReadbackDone ack ds s).mgmt.restart = s.mgmt.restart := by
  unfold saveReadbackDone
  (repeat' split) <;> simp

@[simp] theorem offerPass_frame (f : Frame) (s : State) :
  (offerPass f s).2.powered = s.powered ∧ (offerPass f s).2.free = s.free ∧ (offerPass f s).2.tick = s.tick ∧
    (offerPass f s).2.secTick = s.secTick ∧ (offerPass f s).2.clock = s.clock ∧ (offerPass f s).2.cls = s.cls ∧
    (offerPass f s).2.zones = s.zones ∧ (offerPass f s).2.rot = s.rot ∧ (offerPass f s).2.burner = s.burner ∧
    (offerPass f s).2.recov = s.recov ∧ (offerPass f s).2.gauge = s.gauge ∧ (offerPass f s).2.oil = s.oil ∧
    (offerPass f s).2.postbox = s.postbox ∧ (offerPass f s).2.mgmt = s.mgmt ∧ (offerPass f s).2.store = s.store ∧
    (offerPass f s).2.pending = s.pending ∧ (offerPass f s).2.ports.fieldAsm = s.ports.fieldAsm ∧
    (offerPass f s).2.ports.houseAsm = s.ports.houseAsm ∧ (offerPass f s).2.ports.fieldRx = s.ports.fieldRx ∧
    (offerPass f s).2.ports.houseRx = s.ports.houseRx ∧ (offerPass f s).2.ports.fde = s.ports.fde ∧
    (offerPass f s).2.ports.lastSeen = s.ports.lastSeen ∧ (offerPass f s).2.ports.houseOnLine = s.ports.houseOnLine ∧
    (offerPass f s).2.ports.rdy = s.ports.rdy := by
  unfold offerPass
  (repeat' split) <;> simp

@[simp] theorem checkDestination_frame (f : Frame) (s : State) :
  (checkDestination f s).2.powered = s.powered ∧ (checkDestination f s).2.free = s.free ∧
    (checkDestination f s).2.tick = s.tick ∧ (checkDestination f s).2.secTick = s.secTick ∧
    (checkDestination f s).2.clock = s.clock ∧ (checkDestination f s).2.cls = s.cls ∧
    (checkDestination f s).2.zones = s.zones ∧ (checkDestination f s).2.rot = s.rot ∧
    (checkDestination f s).2.burner = s.burner ∧ (checkDestination f s).2.recov = s.recov ∧
    (checkDestination f s).2.gauge = s.gauge ∧ (checkDestination f s).2.oil = s.oil ∧
    (checkDestination f s).2.postbox = s.postbox ∧ (checkDestination f s).2.mgmt = s.mgmt ∧
    (checkDestination f s).2.store = s.store ∧ (checkDestination f s).2.pending = s.pending ∧
    (checkDestination f s).2.ports.fieldAsm = s.ports.fieldAsm ∧
    (checkDestination f s).2.ports.houseAsm = s.ports.houseAsm ∧
    (checkDestination f s).2.ports.fieldRx = s.ports.fieldRx ∧
    (checkDestination f s).2.ports.houseRx = s.ports.houseRx ∧ (checkDestination f s).2.ports.fde = s.ports.fde ∧
    (checkDestination f s).2.ports.lastSeen = s.ports.lastSeen ∧
    (checkDestination f s).2.ports.houseOnLine = s.ports.houseOnLine ∧
    (checkDestination f s).2.ports.rdy = s.ports.rdy := by
  unfold checkDestination
  (repeat' split) <;> simp

@[simp] theorem relayCheck_frame (f : Frame) (s : State) :
  (relayCheck f s).2.powered = s.powered ∧ (relayCheck f s).2.free = s.free ∧ (relayCheck f s).2.tick = s.tick ∧
    (relayCheck f s).2.secTick = s.secTick ∧ (relayCheck f s).2.clock = s.clock ∧ (relayCheck f s).2.cls = s.cls ∧
    (relayCheck f s).2.zones = s.zones ∧ (relayCheck f s).2.rot = s.rot ∧ (relayCheck f s).2.burner = s.burner ∧
    (relayCheck f s).2.recov = s.recov ∧ (relayCheck f s).2.gauge = s.gauge ∧ (relayCheck f s).2.oil = s.oil ∧
    (relayCheck f s).2.postbox = s.postbox ∧ (relayCheck f s).2.mgmt = s.mgmt ∧ (relayCheck f s).2.store = s.store ∧
    (relayCheck f s).2.pending = s.pending ∧ (relayCheck f s).2.ports.fieldAsm = s.ports.fieldAsm ∧
    (relayCheck f s).2.ports.houseAsm = s.ports.houseAsm ∧ (relayCheck f s).2.ports.fieldRx = s.ports.fieldRx ∧
    (relayCheck f s).2.ports.houseRx = s.ports.houseRx ∧ (relayCheck f s).2.ports.fde = s.ports.fde ∧
    (relayCheck f s).2.ports.lastSeen = s.ports.lastSeen ∧
    (relayCheck f s).2.ports.houseOnLine = s.ports.houseOnLine ∧ (relayCheck f s).2.ports.rdy = s.ports.rdy := by
  unfold relayCheck
  (repeat' split) <;> simp

@[simp] theorem supersede_frame (p : PostParams) (k : PostKind) (old : Post) (s : State) :
  (supersede p k old s).2.powered = s.powered ∧ (supersede p k old s).2.free = s.free ∧
    (supersede p k old s).2.tick = s.tick ∧ (supersede p k old s).2.secTick = s.secTick ∧
    (supersede p k old s).2.clock = s.clock ∧ (supersede p k old s).2.cls = s.cls ∧
    (supersede p k old s).2.zones = s.zones ∧ (supersede p k old s).2.rot = s.rot ∧
    (supersede p k old s).2.burner = s.burner ∧ (supersede p k old s).2.recov = s.recov ∧
    (supersede p k old s).2.gauge = s.gauge ∧ (supersede p k old s).2.oil = s.oil ∧
    (supersede p k old s).2.store = s.store ∧ (supersede p k old s).2.pending = s.pending ∧
    (supersede p k old s).2.ports.fieldAsm = s.ports.fieldAsm ∧
    (supersede p k old s).2.ports.houseAsm = s.ports.houseAsm ∧
    (supersede p k old s).2.ports.fieldRx = s.ports.fieldRx ∧
    (supersede p k old s).2.ports.houseRx = s.ports.houseRx ∧
    (supersede p k old s).2.ports.fieldTx = s.ports.fieldTx ∧ (supersede p k old s).2.ports.fde = s.ports.fde ∧
    (supersede p k old s).2.ports.lastSeen = s.ports.lastSeen ∧
    (supersede p k old s).2.ports.houseOnLine = s.ports.houseOnLine ∧
    (supersede p k old s).2.ports.rdy = s.ports.rdy ∧ (supersede p k old s).2.mgmt.enable = s.mgmt.enable ∧
    (supersede p k old s).2.mgmt.restart = s.mgmt.restart := by
  unfold supersede
  (repeat' split) <;> simp

@[simp] theorem refreshPost_frame (p : PostParams) (k : PostKind) (old : Post) (s : State) :
  (refreshPost p k old s).2.powered = s.powered ∧ (refreshPost p k old s).2.free = s.free ∧
    (refreshPost p k old s).2.tick = s.tick ∧ (refreshPost p k old s).2.secTick = s.secTick ∧
    (refreshPost p k old s).2.clock = s.clock ∧ (refreshPost p k old s).2.ports = s.ports ∧
    (refreshPost p k old s).2.cls = s.cls ∧ (refreshPost p k old s).2.zones = s.zones ∧
    (refreshPost p k old s).2.rot = s.rot ∧ (refreshPost p k old s).2.burner = s.burner ∧
    (refreshPost p k old s).2.recov = s.recov ∧ (refreshPost p k old s).2.gauge = s.gauge ∧
    (refreshPost p k old s).2.oil = s.oil ∧ (refreshPost p k old s).2.mgmt = s.mgmt ∧
    (refreshPost p k old s).2.store = s.store ∧ (refreshPost p k old s).2.pending = s.pending := by
  unfold refreshPost
  (repeat' split) <;> simp

@[simp] theorem placePost_frame (p : PostParams) (k : PostKind) (s : State) :
  (placePost p k s).2.powered = s.powered ∧ (placePost p k s).2.free = s.free ∧ (placePost p k s).2.tick = s.tick ∧
    (placePost p k s).2.secTick = s.secTick ∧ (placePost p k s).2.clock = s.clock ∧ (placePost p k s).2.cls = s.cls ∧
    (placePost p k s).2.zones = s.zones ∧ (placePost p k s).2.rot = s.rot ∧ (placePost p k s).2.burner = s.burner ∧
    (placePost p k s).2.recov = s.recov ∧ (placePost p k s).2.gauge = s.gauge ∧ (placePost p k s).2.oil = s.oil ∧
    (placePost p k s).2.store = s.store ∧ (placePost p k s).2.pending = s.pending ∧
    (placePost p k s).2.ports.fieldAsm = s.ports.fieldAsm ∧ (placePost p k s).2.ports.houseAsm = s.ports.houseAsm ∧
    (placePost p k s).2.ports.fieldRx = s.ports.fieldRx ∧ (placePost p k s).2.ports.houseRx = s.ports.houseRx ∧
    (placePost p k s).2.ports.fieldTx = s.ports.fieldTx ∧ (placePost p k s).2.ports.fde = s.ports.fde ∧
    (placePost p k s).2.ports.lastSeen = s.ports.lastSeen ∧
    (placePost p k s).2.ports.houseOnLine = s.ports.houseOnLine ∧ (placePost p k s).2.ports.rdy = s.ports.rdy ∧
    (placePost p k s).2.mgmt.enable = s.mgmt.enable ∧ (placePost p k s).2.mgmt.restart = s.mgmt.restart := by
  unfold placePost
  (repeat' split) <;> simp

@[simp] theorem postRequest_frame (ps : List Byte) (s : State) :
  (postRequest ps s).2.powered = s.powered ∧ (postRequest ps s).2.free = s.free ∧
    (postRequest ps s).2.tick = s.tick ∧ (postRequest ps s).2.secTick = s.secTick ∧
    (postRequest ps s).2.clock = s.clock ∧ (postRequest ps s).2.cls = s.cls ∧ (postRequest ps s).2.zones = s.zones ∧
    (postRequest ps s).2.rot = s.rot ∧ (postRequest ps s).2.burner = s.burner ∧
    (postRequest ps s).2.recov = s.recov ∧ (postRequest ps s).2.gauge = s.gauge ∧ (postRequest ps s).2.oil = s.oil ∧
    (postRequest ps s).2.store = s.store ∧ (postRequest ps s).2.pending = s.pending ∧
    (postRequest ps s).2.ports.fieldAsm = s.ports.fieldAsm ∧ (postRequest ps s).2.ports.houseAsm = s.ports.houseAsm ∧
    (postRequest ps s).2.ports.fieldRx = s.ports.fieldRx ∧ (postRequest ps s).2.ports.houseRx = s.ports.houseRx ∧
    (postRequest ps s).2.ports.fieldTx = s.ports.fieldTx ∧ (postRequest ps s).2.ports.fde = s.ports.fde ∧
    (postRequest ps s).2.ports.lastSeen = s.ports.lastSeen ∧
    (postRequest ps s).2.ports.houseOnLine = s.ports.houseOnLine ∧ (postRequest ps s).2.ports.rdy = s.ports.rdy ∧
    (postRequest ps s).2.mgmt.enable = s.mgmt.enable ∧ (postRequest ps s).2.mgmt.restart = s.mgmt.restart := by
  unfold postRequest
  dsimp only
  (repeat' split) <;> simp

@[simp] theorem withdrawRequest_frame (ps : List Byte) (s : State) :
  (withdrawRequest ps s).2.powered = s.powered ∧ (withdrawRequest ps s).2.free = s.free ∧
    (withdrawRequest ps s).2.tick = s.tick ∧ (withdrawRequest ps s).2.secTick = s.secTick ∧
    (withdrawRequest ps s).2.clock = s.clock ∧ (withdrawRequest ps s).2.cls = s.cls ∧
    (withdrawRequest ps s).2.zones = s.zones ∧ (withdrawRequest ps s).2.rot = s.rot ∧
    (withdrawRequest ps s).2.burner = s.burner ∧ (withdrawRequest ps s).2.recov = s.recov ∧
    (withdrawRequest ps s).2.gauge = s.gauge ∧ (withdrawRequest ps s).2.oil = s.oil ∧
    (withdrawRequest ps s).2.store = s.store ∧ (withdrawRequest ps s).2.pending = s.pending ∧
    (withdrawRequest ps s).2.ports.fieldAsm = s.ports.fieldAsm ∧
    (withdrawRequest ps s).2.ports.houseAsm = s.ports.houseAsm ∧
    (withdrawRequest ps s).2.ports.fieldRx = s.ports.fieldRx ∧
    (withdrawRequest ps s).2.ports.houseRx = s.ports.houseRx ∧
    (withdrawRequest ps s).2.ports.fieldTx = s.ports.fieldTx ∧ (withdrawRequest ps s).2.ports.fde = s.ports.fde ∧
    (withdrawRequest ps s).2.ports.lastSeen = s.ports.lastSeen ∧
    (withdrawRequest ps s).2.ports.houseOnLine = s.ports.houseOnLine ∧
    (withdrawRequest ps s).2.ports.rdy = s.ports.rdy ∧ (withdrawRequest ps s).2.mgmt.enable = s.mgmt.enable ∧
    (withdrawRequest ps s).2.mgmt.restart = s.mgmt.restart := by
  unfold withdrawRequest
  dsimp only
  (repeat' split) <;> simp

@[simp] theorem attnClearRequest_frame (mask : BitVec 16) (s : State) :
  (attnClearRequest mask s).2.powered = s.powered ∧ (attnClearRequest mask s).2.free = s.free ∧
    (attnClearRequest mask s).2.tick = s.tick ∧ (attnClearRequest mask s).2.secTick = s.secTick ∧
    (attnClearRequest mask s).2.clock = s.clock ∧ (attnClearRequest mask s).2.ports = s.ports ∧
    (attnClearRequest mask s).2.cls = s.cls ∧ (attnClearRequest mask s).2.zones = s.zones ∧
    (attnClearRequest mask s).2.rot = s.rot ∧ (attnClearRequest mask s).2.burner = s.burner ∧
    (attnClearRequest mask s).2.recov = s.recov ∧ (attnClearRequest mask s).2.gauge = s.gauge ∧
    (attnClearRequest mask s).2.oil = s.oil ∧ (attnClearRequest mask s).2.postbox = s.postbox ∧
    (attnClearRequest mask s).2.store = s.store ∧ (attnClearRequest mask s).2.pending = s.pending ∧
    (attnClearRequest mask s).2.mgmt.enable = s.mgmt.enable ∧
    (attnClearRequest mask s).2.mgmt.restart = s.mgmt.restart := by
  unfold attnClearRequest
  (repeat' split) <;> simp

@[simp] theorem markRestart_frame (k : RestartKind) (s : State) :
  (markRestart k s).powered = s.powered ∧ (markRestart k s).free = s.free ∧ (markRestart k s).tick = s.tick ∧
    (markRestart k s).secTick = s.secTick ∧ (markRestart k s).clock = s.clock ∧ (markRestart k s).ports = s.ports ∧
    (markRestart k s).cls = s.cls ∧ (markRestart k s).zones = s.zones ∧ (markRestart k s).rot = s.rot ∧
    (markRestart k s).burner = s.burner ∧ (markRestart k s).recov = s.recov ∧ (markRestart k s).gauge = s.gauge ∧
    (markRestart k s).oil = s.oil ∧ (markRestart k s).postbox = s.postbox ∧ (markRestart k s).store = s.store ∧
    (markRestart k s).pending = s.pending ∧ (markRestart k s).mgmt.enable = s.mgmt.enable := by
  unfold markRestart
  (repeat' split) <;> simp

@[simp] theorem restartRequest_frame (s : State) :
  (restartRequest s).2.powered = s.powered ∧ (restartRequest s).2.free = s.free ∧
    (restartRequest s).2.tick = s.tick ∧ (restartRequest s).2.secTick = s.secTick ∧
    (restartRequest s).2.clock = s.clock ∧ (restartRequest s).2.ports = s.ports ∧ (restartRequest s).2.cls = s.cls ∧
    (restartRequest s).2.zones = s.zones ∧ (restartRequest s).2.rot = s.rot ∧
    (restartRequest s).2.burner = s.burner ∧ (restartRequest s).2.recov = s.recov ∧
    (restartRequest s).2.gauge = s.gauge ∧ (restartRequest s).2.oil = s.oil ∧
    (restartRequest s).2.postbox = s.postbox ∧ (restartRequest s).2.store = s.store ∧
    (restartRequest s).2.pending = s.pending ∧ (restartRequest s).2.mgmt.enable = s.mgmt.enable := by
  unfold restartRequest
  (repeat' split) <;> simp

@[simp] theorem reloadRequest_frame (s : State) :
  (reloadRequest s).2.powered = s.powered ∧ (reloadRequest s).2.free = s.free ∧ (reloadRequest s).2.tick = s.tick ∧
    (reloadRequest s).2.secTick = s.secTick ∧ (reloadRequest s).2.clock = s.clock ∧
    (reloadRequest s).2.ports = s.ports ∧ (reloadRequest s).2.cls = s.cls ∧ (reloadRequest s).2.zones = s.zones ∧
    (reloadRequest s).2.rot = s.rot ∧ (reloadRequest s).2.burner = s.burner ∧ (reloadRequest s).2.recov = s.recov ∧
    (reloadRequest s).2.gauge = s.gauge ∧ (reloadRequest s).2.oil = s.oil ∧ (reloadRequest s).2.postbox = s.postbox ∧
    (reloadRequest s).2.store = s.store ∧ (reloadRequest s).2.pending = s.pending ∧
    (reloadRequest s).2.mgmt.enable = s.mgmt.enable := by
  unfold reloadRequest
  (repeat' split) <;> simp

@[simp] theorem runOperation_frame (o : MgmtOp) (ps : List Byte) (s : State) :
  (runOperation o ps s).2.powered = s.powered ∧ (runOperation o ps s).2.tick = s.tick ∧
    (runOperation o ps s).2.secTick = s.secTick ∧ (runOperation o ps s).2.clock = s.clock ∧
    (runOperation o ps s).2.pending = s.pending ∧ (runOperation o ps s).2.ports.fieldAsm = s.ports.fieldAsm ∧
    (runOperation o ps s).2.ports.houseAsm = s.ports.houseAsm ∧
    (runOperation o ps s).2.ports.fieldRx = s.ports.fieldRx ∧
    (runOperation o ps s).2.ports.houseRx = s.ports.houseRx ∧
    (runOperation o ps s).2.ports.fieldTx = s.ports.fieldTx ∧ (runOperation o ps s).2.ports.fde = s.ports.fde ∧
    (runOperation o ps s).2.ports.lastSeen = s.ports.lastSeen ∧
    (runOperation o ps s).2.ports.houseOnLine = s.ports.houseOnLine ∧
    (runOperation o ps s).2.ports.rdy = s.ports.rdy ∧ (runOperation o ps s).2.cls.inHand = s.cls.inHand := by
  unfold runOperation
  (repeat' split) <;> simp

@[simp] theorem manageOp_frame (o : MgmtOp) (ps : List Byte) (s : State) :
  (manageOp o ps s).2.powered = s.powered ∧ (manageOp o ps s).2.tick = s.tick ∧
    (manageOp o ps s).2.secTick = s.secTick ∧ (manageOp o ps s).2.clock = s.clock ∧
    (manageOp o ps s).2.pending = s.pending ∧ (manageOp o ps s).2.ports.fieldAsm = s.ports.fieldAsm ∧
    (manageOp o ps s).2.ports.houseAsm = s.ports.houseAsm ∧ (manageOp o ps s).2.ports.fieldRx = s.ports.fieldRx ∧
    (manageOp o ps s).2.ports.houseRx = s.ports.houseRx ∧ (manageOp o ps s).2.ports.fieldTx = s.ports.fieldTx ∧
    (manageOp o ps s).2.ports.fde = s.ports.fde ∧ (manageOp o ps s).2.ports.lastSeen = s.ports.lastSeen ∧
    (manageOp o ps s).2.ports.houseOnLine = s.ports.houseOnLine ∧ (manageOp o ps s).2.ports.rdy = s.ports.rdy ∧
    (manageOp o ps s).2.cls.inHand = s.cls.inHand := by
  unfold manageOp
  (repeat' split) <;> simp

@[simp] theorem manage_frame (f : Frame) (s : State) :
  (manage f s).2.powered = s.powered ∧ (manage f s).2.tick = s.tick ∧ (manage f s).2.secTick = s.secTick ∧
    (manage f s).2.clock = s.clock ∧ (manage f s).2.pending = s.pending ∧
    (manage f s).2.ports.fieldAsm = s.ports.fieldAsm ∧ (manage f s).2.ports.houseAsm = s.ports.houseAsm ∧
    (manage f s).2.ports.fieldRx = s.ports.fieldRx ∧ (manage f s).2.ports.houseRx = s.ports.houseRx ∧
    (manage f s).2.ports.fieldTx = s.ports.fieldTx ∧ (manage f s).2.ports.fde = s.ports.fde ∧
    (manage f s).2.ports.lastSeen = s.ports.lastSeen ∧ (manage f s).2.ports.houseOnLine = s.ports.houseOnLine ∧
    (manage f s).2.ports.rdy = s.ports.rdy ∧ (manage f s).2.cls.inHand = s.cls.inHand := by
  unfold manage
  (repeat' split) <;> simp

@[simp] theorem offerAnswer_frame (tag : Byte) (r : Answer × State) :
  (offerAnswer tag r).powered = r.2.powered ∧ (offerAnswer tag r).free = r.2.free ∧
    (offerAnswer tag r).tick = r.2.tick ∧ (offerAnswer tag r).secTick = r.2.secTick ∧
    (offerAnswer tag r).clock = r.2.clock ∧ (offerAnswer tag r).cls = r.2.cls ∧
    (offerAnswer tag r).zones = r.2.zones ∧ (offerAnswer tag r).rot = r.2.rot ∧
    (offerAnswer tag r).burner = r.2.burner ∧ (offerAnswer tag r).recov = r.2.recov ∧
    (offerAnswer tag r).gauge = r.2.gauge ∧ (offerAnswer tag r).oil = r.2.oil ∧
    (offerAnswer tag r).postbox = r.2.postbox ∧ (offerAnswer tag r).mgmt = r.2.mgmt ∧
    (offerAnswer tag r).store = r.2.store ∧ (offerAnswer tag r).pending = r.2.pending ∧
    (offerAnswer tag r).ports.fieldAsm = r.2.ports.fieldAsm ∧
    (offerAnswer tag r).ports.houseAsm = r.2.ports.houseAsm ∧ (offerAnswer tag r).ports.fieldRx = r.2.ports.fieldRx ∧
    (offerAnswer tag r).ports.houseRx = r.2.ports.houseRx ∧ (offerAnswer tag r).ports.fieldTx = r.2.ports.fieldTx ∧
    (offerAnswer tag r).ports.fde = r.2.ports.fde ∧ (offerAnswer tag r).ports.lastSeen = r.2.ports.lastSeen ∧
    (offerAnswer tag r).ports.houseOnLine = r.2.ports.houseOnLine ∧ (offerAnswer tag r).ports.rdy = r.2.ports.rdy := by
  unfold offerAnswer
  (repeat' split) <;> simp

@[simp] theorem handleHouse_frame (f : Frame) (s : State) :
  (handleHouse f s).powered = s.powered ∧ (handleHouse f s).tick = s.tick ∧ (handleHouse f s).secTick = s.secTick ∧
    (handleHouse f s).clock = s.clock ∧ (handleHouse f s).pending = s.pending ∧
    (handleHouse f s).ports.fieldAsm = s.ports.fieldAsm ∧ (handleHouse f s).ports.houseAsm = s.ports.houseAsm ∧
    (handleHouse f s).ports.fieldRx = s.ports.fieldRx ∧ (handleHouse f s).ports.houseRx = s.ports.houseRx ∧
    (handleHouse f s).ports.fde = s.ports.fde ∧ (handleHouse f s).ports.lastSeen = s.ports.lastSeen ∧
    (handleHouse f s).ports.houseOnLine = s.ports.houseOnLine ∧ (handleHouse f s).ports.rdy = s.ports.rdy ∧
    (handleHouse f s).cls.inHand = s.cls.inHand := by
  unfold handleHouse
  (repeat' split) <;> simp

@[simp] theorem takeHouse_frame (f : Frame) (s : State) :
  (takeHouse f s).powered = s.powered ∧ (takeHouse f s).tick = s.tick ∧ (takeHouse f s).secTick = s.secTick ∧
    (takeHouse f s).clock = s.clock ∧ (takeHouse f s).pending = s.pending ∧
    (takeHouse f s).ports.fieldAsm = s.ports.fieldAsm ∧ (takeHouse f s).ports.houseAsm = s.ports.houseAsm ∧
    (takeHouse f s).ports.fieldRx = s.ports.fieldRx ∧ (takeHouse f s).ports.fde = s.ports.fde ∧
    (takeHouse f s).ports.lastSeen = s.ports.lastSeen ∧ (takeHouse f s).ports.houseOnLine = s.ports.houseOnLine ∧
    (takeHouse f s).ports.rdy = s.ports.rdy ∧ (takeHouse f s).cls.inHand = s.cls.inHand := by
  unfold takeHouse
  (repeat' split) <;> simp

@[simp] theorem serviceOperation_frame (op : Byte) (ps : List Byte) (s : State) :
  (serviceOperation op ps s).2.powered = s.powered ∧ (serviceOperation op ps s).2.free = s.free ∧
    (serviceOperation op ps s).2.tick = s.tick ∧ (serviceOperation op ps s).2.secTick = s.secTick ∧
    (serviceOperation op ps s).2.clock = s.clock ∧ (serviceOperation op ps s).2.cls = s.cls ∧
    (serviceOperation op ps s).2.zones = s.zones ∧ (serviceOperation op ps s).2.rot = s.rot ∧
    (serviceOperation op ps s).2.gauge = s.gauge ∧ (serviceOperation op ps s).2.store = s.store ∧
    (serviceOperation op ps s).2.pending = s.pending ∧
    (serviceOperation op ps s).2.ports.fieldAsm = s.ports.fieldAsm ∧
    (serviceOperation op ps s).2.ports.houseAsm = s.ports.houseAsm ∧
    (serviceOperation op ps s).2.ports.fieldRx = s.ports.fieldRx ∧
    (serviceOperation op ps s).2.ports.houseRx = s.ports.houseRx ∧
    (serviceOperation op ps s).2.ports.fieldTx = s.ports.fieldTx ∧
    (serviceOperation op ps s).2.ports.fde = s.ports.fde ∧
    (serviceOperation op ps s).2.ports.lastSeen = s.ports.lastSeen ∧
    (serviceOperation op ps s).2.ports.houseOnLine = s.ports.houseOnLine ∧
    (serviceOperation op ps s).2.ports.rdy = s.ports.rdy ∧ (serviceOperation op ps s).2.mgmt.enable = s.mgmt.enable ∧
    (serviceOperation op ps s).2.mgmt.restart = s.mgmt.restart := by
  unfold serviceOperation
  (repeat' split) <;> simp

@[simp] theorem offerSvcans_frame (f : Frame) (r : Answer × State) :
  (offerSvcans f r).powered = r.2.powered ∧ (offerSvcans f r).free = r.2.free ∧ (offerSvcans f r).tick = r.2.tick ∧
    (offerSvcans f r).secTick = r.2.secTick ∧ (offerSvcans f r).clock = r.2.clock ∧
    (offerSvcans f r).zones = r.2.zones ∧ (offerSvcans f r).rot = r.2.rot ∧ (offerSvcans f r).burner = r.2.burner ∧
    (offerSvcans f r).recov = r.2.recov ∧ (offerSvcans f r).gauge = r.2.gauge ∧ (offerSvcans f r).oil = r.2.oil ∧
    (offerSvcans f r).postbox = r.2.postbox ∧ (offerSvcans f r).mgmt = r.2.mgmt ∧
    (offerSvcans f r).store = r.2.store ∧ (offerSvcans f r).pending = r.2.pending ∧
    (offerSvcans f r).ports.fieldAsm = r.2.ports.fieldAsm ∧ (offerSvcans f r).ports.houseAsm = r.2.ports.houseAsm ∧
    (offerSvcans f r).ports.fieldRx = r.2.ports.fieldRx ∧ (offerSvcans f r).ports.houseRx = r.2.ports.houseRx ∧
    (offerSvcans f r).ports.fde = r.2.ports.fde ∧ (offerSvcans f r).ports.lastSeen = r.2.ports.lastSeen ∧
    (offerSvcans f r).ports.houseOnLine = r.2.ports.houseOnLine ∧ (offerSvcans f r).ports.rdy = r.2.ports.rdy ∧
    (offerSvcans f r).cls.entries = r.2.cls.entries ∧ (offerSvcans f r).cls.inHand = r.2.cls.inHand := by
  unfold offerSvcans
  (repeat' split) <;> simp

@[simp] theorem serviceHandler_frame (f : Frame) (s : State) :
  (serviceHandler f s).powered = s.powered ∧ (serviceHandler f s).free = s.free ∧
    (serviceHandler f s).tick = s.tick ∧ (serviceHandler f s).secTick = s.secTick ∧
    (serviceHandler f s).clock = s.clock ∧ (serviceHandler f s).zones = s.zones ∧ (serviceHandler f s).rot = s.rot ∧
    (serviceHandler f s).gauge = s.gauge ∧ (serviceHandler f s).store = s.store ∧
    (serviceHandler f s).pending = s.pending ∧ (serviceHandler f s).ports.fieldAsm = s.ports.fieldAsm ∧
    (serviceHandler f s).ports.houseAsm = s.ports.houseAsm ∧ (serviceHandler f s).ports.fieldRx = s.ports.fieldRx ∧
    (serviceHandler f s).ports.houseRx = s.ports.houseRx ∧ (serviceHandler f s).ports.fde = s.ports.fde ∧
    (serviceHandler f s).ports.lastSeen = s.ports.lastSeen ∧
    (serviceHandler f s).ports.houseOnLine = s.ports.houseOnLine ∧ (serviceHandler f s).ports.rdy = s.ports.rdy ∧
    (serviceHandler f s).mgmt.enable = s.mgmt.enable ∧ (serviceHandler f s).mgmt.restart = s.mgmt.restart ∧
    (serviceHandler f s).cls.entries = s.cls.entries ∧ (serviceHandler f s).cls.inHand = s.cls.inHand := by
  unfold serviceHandler
  (repeat' split) <;> simp

@[simp] theorem offerPassUp_frame (f : Frame) (s : State) :
  (offerPassUp f s).powered = s.powered ∧ (offerPassUp f s).free = s.free ∧ (offerPassUp f s).tick = s.tick ∧
    (offerPassUp f s).secTick = s.secTick ∧ (offerPassUp f s).clock = s.clock ∧ (offerPassUp f s).zones = s.zones ∧
    (offerPassUp f s).rot = s.rot ∧ (offerPassUp f s).burner = s.burner ∧ (offerPassUp f s).recov = s.recov ∧
    (offerPassUp f s).gauge = s.gauge ∧ (offerPassUp f s).oil = s.oil ∧ (offerPassUp f s).postbox = s.postbox ∧
    (offerPassUp f s).mgmt = s.mgmt ∧ (offerPassUp f s).store = s.store ∧ (offerPassUp f s).pending = s.pending ∧
    (offerPassUp f s).ports.fieldAsm = s.ports.fieldAsm ∧ (offerPassUp f s).ports.houseAsm = s.ports.houseAsm ∧
    (offerPassUp f s).ports.fieldRx = s.ports.fieldRx ∧ (offerPassUp f s).ports.houseRx = s.ports.houseRx ∧
    (offerPassUp f s).ports.fieldTx = s.ports.fieldTx ∧ (offerPassUp f s).ports.fde = s.ports.fde ∧
    (offerPassUp f s).ports.lastSeen = s.ports.lastSeen ∧ (offerPassUp f s).ports.houseOnLine = s.ports.houseOnLine ∧
    (offerPassUp f s).ports.rdy = s.ports.rdy ∧ (offerPassUp f s).cls.entries = s.cls.entries ∧
    (offerPassUp f s).cls.inHand = s.cls.inHand := by
  unfold offerPassUp
  (repeat' split) <;> simp

@[simp] theorem relayUp_frame (f : Frame) (s : State) :
  (relayUp f s).powered = s.powered ∧ (relayUp f s).free = s.free ∧ (relayUp f s).tick = s.tick ∧
    (relayUp f s).secTick = s.secTick ∧ (relayUp f s).clock = s.clock ∧ (relayUp f s).zones = s.zones ∧
    (relayUp f s).rot = s.rot ∧ (relayUp f s).burner = s.burner ∧ (relayUp f s).recov = s.recov ∧
    (relayUp f s).gauge = s.gauge ∧ (relayUp f s).oil = s.oil ∧ (relayUp f s).postbox = s.postbox ∧
    (relayUp f s).mgmt = s.mgmt ∧ (relayUp f s).store = s.store ∧ (relayUp f s).pending = s.pending ∧
    (relayUp f s).ports.fieldAsm = s.ports.fieldAsm ∧ (relayUp f s).ports.houseAsm = s.ports.houseAsm ∧
    (relayUp f s).ports.fieldRx = s.ports.fieldRx ∧ (relayUp f s).ports.houseRx = s.ports.houseRx ∧
    (relayUp f s).ports.fieldTx = s.ports.fieldTx ∧ (relayUp f s).ports.fde = s.ports.fde ∧
    (relayUp f s).ports.lastSeen = s.ports.lastSeen ∧ (relayUp f s).ports.houseOnLine = s.ports.houseOnLine ∧
    (relayUp f s).ports.rdy = s.ports.rdy ∧ (relayUp f s).cls.entries = s.cls.entries ∧
    (relayUp f s).cls.inHand = s.cls.inHand := by
  unfold relayUp
  (repeat' split) <;> simp

@[simp] theorem coalesce_frame (f : Frame) (s : State) :
  (coalesce f s).powered = s.powered ∧ (coalesce f s).free = s.free ∧ (coalesce f s).tick = s.tick ∧
    (coalesce f s).secTick = s.secTick ∧ (coalesce f s).clock = s.clock ∧ (coalesce f s).zones = s.zones ∧
    (coalesce f s).rot = s.rot ∧ (coalesce f s).burner = s.burner ∧ (coalesce f s).recov = s.recov ∧
    (coalesce f s).gauge = s.gauge ∧ (coalesce f s).oil = s.oil ∧ (coalesce f s).postbox = s.postbox ∧
    (coalesce f s).mgmt = s.mgmt ∧ (coalesce f s).store = s.store ∧ (coalesce f s).pending = s.pending ∧
    (coalesce f s).ports.fieldAsm = s.ports.fieldAsm ∧ (coalesce f s).ports.houseAsm = s.ports.houseAsm ∧
    (coalesce f s).ports.fieldRx = s.ports.fieldRx ∧ (coalesce f s).ports.houseRx = s.ports.houseRx ∧
    (coalesce f s).ports.fieldTx = s.ports.fieldTx ∧ (coalesce f s).ports.fde = s.ports.fde ∧
    (coalesce f s).ports.lastSeen = s.ports.lastSeen ∧ (coalesce f s).ports.houseOnLine = s.ports.houseOnLine ∧
    (coalesce f s).ports.rdy = s.ports.rdy ∧ (coalesce f s).cls.entries = s.cls.entries ∧
    (coalesce f s).cls.inHand = s.cls.inHand := by
  unfold coalesce
  (repeat' split) <;> simp

@[simp] theorem offerRoomUp_frame (f : Frame) (s : State) :
  (offerRoomUp f s).powered = s.powered ∧ (offerRoomUp f s).free = s.free ∧ (offerRoomUp f s).tick = s.tick ∧
    (offerRoomUp f s).secTick = s.secTick ∧ (offerRoomUp f s).clock = s.clock ∧ (offerRoomUp f s).zones = s.zones ∧
    (offerRoomUp f s).rot = s.rot ∧ (offerRoomUp f s).burner = s.burner ∧ (offerRoomUp f s).recov = s.recov ∧
    (offerRoomUp f s).gauge = s.gauge ∧ (offerRoomUp f s).oil = s.oil ∧ (offerRoomUp f s).postbox = s.postbox ∧
    (offerRoomUp f s).mgmt = s.mgmt ∧ (offerRoomUp f s).store = s.store ∧ (offerRoomUp f s).pending = s.pending ∧
    (offerRoomUp f s).ports.fieldAsm = s.ports.fieldAsm ∧ (offerRoomUp f s).ports.houseAsm = s.ports.houseAsm ∧
    (offerRoomUp f s).ports.fieldRx = s.ports.fieldRx ∧ (offerRoomUp f s).ports.houseRx = s.ports.houseRx ∧
    (offerRoomUp f s).ports.fieldTx = s.ports.fieldTx ∧ (offerRoomUp f s).ports.fde = s.ports.fde ∧
    (offerRoomUp f s).ports.lastSeen = s.ports.lastSeen ∧ (offerRoomUp f s).ports.houseOnLine = s.ports.houseOnLine ∧
    (offerRoomUp f s).ports.rdy = s.ports.rdy ∧ (offerRoomUp f s).cls.entries = s.cls.entries ∧
    (offerRoomUp f s).cls.inHand = s.cls.inHand := by
  unfold offerRoomUp
  (repeat' split) <;> simp

@[simp] theorem misdirect_frame (s : State) :
  (misdirect s).powered = s.powered ∧ (misdirect s).free = s.free ∧ (misdirect s).tick = s.tick ∧
    (misdirect s).secTick = s.secTick ∧ (misdirect s).clock = s.clock ∧ (misdirect s).ports = s.ports ∧
    (misdirect s).zones = s.zones ∧ (misdirect s).rot = s.rot ∧ (misdirect s).burner = s.burner ∧
    (misdirect s).recov = s.recov ∧ (misdirect s).gauge = s.gauge ∧ (misdirect s).oil = s.oil ∧
    (misdirect s).postbox = s.postbox ∧ (misdirect s).mgmt = s.mgmt ∧ (misdirect s).store = s.store ∧
    (misdirect s).pending = s.pending ∧ (misdirect s).cls.entries = s.cls.entries ∧
    (misdirect s).cls.inHand = s.cls.inHand := by
  unfold misdirect
  (repeat' split) <;> simp

@[simp] theorem handleRoom_frame (e : MapEntry) (r : RxFrame) (s : State) :
  (handleRoom e r s).powered = s.powered ∧ (handleRoom e r s).free = s.free ∧ (handleRoom e r s).tick = s.tick ∧
    (handleRoom e r s).secTick = s.secTick ∧ (handleRoom e r s).clock = s.clock ∧
    (handleRoom e r s).recov = s.recov ∧ (handleRoom e r s).gauge = s.gauge ∧ (handleRoom e r s).store = s.store ∧
    (handleRoom e r s).pending = s.pending ∧ (handleRoom e r s).ports.fieldAsm = s.ports.fieldAsm ∧
    (handleRoom e r s).ports.houseAsm = s.ports.houseAsm ∧ (handleRoom e r s).ports.fieldRx = s.ports.fieldRx ∧
    (handleRoom e r s).ports.houseRx = s.ports.houseRx ∧ (handleRoom e r s).ports.fde = s.ports.fde ∧
    (handleRoom e r s).ports.lastSeen = s.ports.lastSeen ∧
    (handleRoom e r s).ports.houseOnLine = s.ports.houseOnLine ∧ (handleRoom e r s).ports.rdy = s.ports.rdy ∧
    (handleRoom e r s).mgmt.enable = s.mgmt.enable ∧ (handleRoom e r s).mgmt.restart = s.mgmt.restart ∧
    (handleRoom e r s).cls.entries = s.cls.entries ∧ (handleRoom e r s).cls.inHand = s.cls.inHand := by
  unfold handleRoom
  dsimp only
  (repeat' split) <;> simp

@[simp] theorem handleOwn_frame (e : MapEntry) (r : RxFrame) (s : State) :
  (handleOwn e r s).powered = s.powered ∧ (handleOwn e r s).free = s.free ∧ (handleOwn e r s).tick = s.tick ∧
    (handleOwn e r s).secTick = s.secTick ∧ (handleOwn e r s).clock = s.clock ∧ (handleOwn e r s).gauge = s.gauge ∧
    (handleOwn e r s).store = s.store ∧ (handleOwn e r s).pending = s.pending ∧
    (handleOwn e r s).ports.fieldAsm = s.ports.fieldAsm ∧ (handleOwn e r s).ports.houseAsm = s.ports.houseAsm ∧
    (handleOwn e r s).ports.fieldRx = s.ports.fieldRx ∧ (handleOwn e r s).ports.houseRx = s.ports.houseRx ∧
    (handleOwn e r s).ports.fde = s.ports.fde ∧ (handleOwn e r s).ports.lastSeen = s.ports.lastSeen ∧
    (handleOwn e r s).ports.houseOnLine = s.ports.houseOnLine ∧ (handleOwn e r s).ports.rdy = s.ports.rdy ∧
    (handleOwn e r s).mgmt.enable = s.mgmt.enable ∧ (handleOwn e r s).mgmt.restart = s.mgmt.restart ∧
    (handleOwn e r s).cls.entries = s.cls.entries ∧ (handleOwn e r s).cls.inHand = s.cls.inHand := by
  unfold handleOwn
  (repeat' split) <;> simp

@[simp] theorem handleOther_frame (e : MapEntry) (f : Frame) (s : State) :
  (handleOther e f s).powered = s.powered ∧ (handleOther e f s).free = s.free ∧ (handleOther e f s).tick = s.tick ∧
    (handleOther e f s).secTick = s.secTick ∧ (handleOther e f s).clock = s.clock ∧
    (handleOther e f s).zones = s.zones ∧ (handleOther e f s).rot = s.rot ∧ (handleOther e f s).burner = s.burner ∧
    (handleOther e f s).recov = s.recov ∧ (handleOther e f s).gauge = s.gauge ∧ (handleOther e f s).oil = s.oil ∧
    (handleOther e f s).postbox = s.postbox ∧ (handleOther e f s).mgmt = s.mgmt ∧
    (handleOther e f s).store = s.store ∧ (handleOther e f s).pending = s.pending ∧
    (handleOther e f s).ports.fieldAsm = s.ports.fieldAsm ∧ (handleOther e f s).ports.houseAsm = s.ports.houseAsm ∧
    (handleOther e f s).ports.fieldRx = s.ports.fieldRx ∧ (handleOther e f s).ports.houseRx = s.ports.houseRx ∧
    (handleOther e f s).ports.fieldTx = s.ports.fieldTx ∧ (handleOther e f s).ports.fde = s.ports.fde ∧
    (handleOther e f s).ports.lastSeen = s.ports.lastSeen ∧
    (handleOther e f s).ports.houseOnLine = s.ports.houseOnLine ∧ (handleOther e f s).ports.rdy = s.ports.rdy ∧
    (handleOther e f s).cls.entries = s.cls.entries ∧ (handleOther e f s).cls.inHand = s.cls.inHand := by
  unfold handleOther
  (repeat' split) <;> simp

@[simp] theorem dispatchField_frame (r : RxFrame) (s : State) :
  (dispatchField r s).powered = s.powered ∧ (dispatchField r s).free = s.free ∧ (dispatchField r s).tick = s.tick ∧
    (dispatchField r s).secTick = s.secTick ∧ (dispatchField r s).clock = s.clock ∧
    (dispatchField r s).gauge = s.gauge ∧ (dispatchField r s).store = s.store ∧
    (dispatchField r s).pending = s.pending ∧ (dispatchField r s).ports.fieldAsm = s.ports.fieldAsm ∧
    (dispatchField r s).ports.houseAsm = s.ports.houseAsm ∧ (dispatchField r s).ports.fieldRx = s.ports.fieldRx ∧
    (dispatchField r s).ports.houseRx = s.ports.houseRx ∧ (dispatchField r s).ports.fde = s.ports.fde ∧
    (dispatchField r s).ports.lastSeen = s.ports.lastSeen ∧
    (dispatchField r s).ports.houseOnLine = s.ports.houseOnLine ∧ (dispatchField r s).ports.rdy = s.ports.rdy ∧
    (dispatchField r s).mgmt.enable = s.mgmt.enable ∧ (dispatchField r s).mgmt.restart = s.mgmt.restart ∧
    (dispatchField r s).cls.entries = s.cls.entries ∧ (dispatchField r s).cls.inHand = s.cls.inHand := by
  unfold dispatchField
  (repeat' split) <;> simp

@[simp] theorem classify_frame (r : RxFrame) (s : State) :
  (classify r s).powered = s.powered ∧ (classify r s).free = s.free ∧ (classify r s).tick = s.tick ∧
    (classify r s).secTick = s.secTick ∧ (classify r s).clock = s.clock ∧ (classify r s).gauge = s.gauge ∧
    (classify r s).store = s.store ∧ (classify r s).pending = s.pending ∧
    (classify r s).ports.fieldAsm = s.ports.fieldAsm ∧ (classify r s).ports.houseAsm = s.ports.houseAsm ∧
    (classify r s).ports.fieldRx = s.ports.fieldRx ∧ (classify r s).ports.houseRx = s.ports.houseRx ∧
    (classify r s).ports.fde = s.ports.fde ∧ (classify r s).ports.lastSeen = s.ports.lastSeen ∧
    (classify r s).ports.houseOnLine = s.ports.houseOnLine ∧ (classify r s).ports.rdy = s.ports.rdy ∧
    (classify r s).mgmt.enable = s.mgmt.enable ∧ (classify r s).mgmt.restart = s.mgmt.restart ∧
    (classify r s).cls.entries = s.cls.entries := by
  unfold classify
  (repeat' split) <;> simp

@[simp] theorem classifierTake_frame (s : State) :
  (classifierTake s).powered = s.powered ∧ (classifierTake s).free = s.free ∧ (classifierTake s).tick = s.tick ∧
    (classifierTake s).secTick = s.secTick ∧ (classifierTake s).clock = s.clock ∧
    (classifierTake s).gauge = s.gauge ∧ (classifierTake s).store = s.store ∧
    (classifierTake s).pending = s.pending ∧ (classifierTake s).ports.fieldAsm = s.ports.fieldAsm ∧
    (classifierTake s).ports.houseAsm = s.ports.houseAsm ∧ (classifierTake s).ports.houseRx = s.ports.houseRx ∧
    (classifierTake s).ports.fde = s.ports.fde ∧ (classifierTake s).ports.lastSeen = s.ports.lastSeen ∧
    (classifierTake s).ports.houseOnLine = s.ports.houseOnLine ∧ (classifierTake s).ports.rdy = s.ports.rdy ∧
    (classifierTake s).mgmt.enable = s.mgmt.enable ∧ (classifierTake s).mgmt.restart = s.mgmt.restart ∧
    (classifierTake s).cls.entries = s.cls.entries := by
  unfold classifierTake
  (repeat' split) <;> simp

@[simp] theorem fieldHeard_frame (s : State) :
  (fieldHeard s).powered = s.powered ∧ (fieldHeard s).free = s.free ∧ (fieldHeard s).tick = s.tick ∧
    (fieldHeard s).secTick = s.secTick ∧ (fieldHeard s).clock = s.clock ∧ (fieldHeard s).cls = s.cls ∧
    (fieldHeard s).zones = s.zones ∧ (fieldHeard s).rot = s.rot ∧ (fieldHeard s).burner = s.burner ∧
    (fieldHeard s).recov = s.recov ∧ (fieldHeard s).gauge = s.gauge ∧ (fieldHeard s).oil = s.oil ∧
    (fieldHeard s).postbox = s.postbox ∧ (fieldHeard s).mgmt = s.mgmt ∧ (fieldHeard s).store = s.store ∧
    (fieldHeard s).pending = s.pending ∧ (fieldHeard s).ports.fieldAsm = s.ports.fieldAsm ∧
    (fieldHeard s).ports.houseAsm = s.ports.houseAsm ∧ (fieldHeard s).ports.fieldRx = s.ports.fieldRx ∧
    (fieldHeard s).ports.houseRx = s.ports.houseRx ∧ (fieldHeard s).ports.fieldTx = s.ports.fieldTx ∧
    (fieldHeard s).ports.houseTx = s.ports.houseTx ∧ (fieldHeard s).ports.fde = s.ports.fde ∧
    (fieldHeard s).ports.lastSeen = s.tick ∧ (fieldHeard s).ports.houseOnLine = s.ports.houseOnLine ∧
    (fieldHeard s).ports.rdy = s.ports.rdy := by
  simp [fieldHeard]

@[simp] theorem takeField_frame (f : Frame) (time : Tick) (s : State) :
  (takeField f time s).powered = s.powered ∧ (takeField f time s).free = s.free ∧
    (takeField f time s).tick = s.tick ∧ (takeField f time s).secTick = s.secTick ∧
    (takeField f time s).clock = s.clock ∧ (takeField f time s).gauge = s.gauge ∧
    (takeField f time s).store = s.store ∧ (takeField f time s).pending = s.pending ∧
    (takeField f time s).ports.fieldAsm = s.ports.fieldAsm ∧ (takeField f time s).ports.houseAsm = s.ports.houseAsm ∧
    (takeField f time s).ports.houseRx = s.ports.houseRx ∧ (takeField f time s).ports.fde = s.ports.fde ∧
    (takeField f time s).ports.houseOnLine = s.ports.houseOnLine ∧ (takeField f time s).ports.rdy = s.ports.rdy ∧
    (takeField f time s).mgmt.enable = s.mgmt.enable ∧ (takeField f time s).mgmt.restart = s.mgmt.restart ∧
    (takeField f time s).cls.entries = s.cls.entries := by
  unfold takeField
  (repeat' split) <;> simp

@[simp] theorem handStart_frame (i : Fin 8) (s : State) :
  (handStart i s).powered = s.powered ∧ (handStart i s).free = s.free ∧ (handStart i s).tick = s.tick ∧
    (handStart i s).secTick = s.secTick ∧ (handStart i s).clock = s.clock ∧ (handStart i s).ports = s.ports ∧
    (handStart i s).cls = s.cls ∧ (handStart i s).recov = s.recov ∧ (handStart i s).gauge = s.gauge ∧
    (handStart i s).postbox = s.postbox ∧ (handStart i s).mgmt = s.mgmt ∧ (handStart i s).store = s.store ∧
    (handStart i s).pending = s.pending := by
  unfold handStart
  (repeat' split) <;> simp

@[simp] theorem restartZones_frame (s : State) :
  (restartZones s).powered = s.powered ∧ (restartZones s).free = s.free ∧ (restartZones s).tick = s.tick ∧
    (restartZones s).secTick = s.secTick ∧ (restartZones s).clock = s.clock ∧ (restartZones s).ports = s.ports ∧
    (restartZones s).cls = s.cls ∧ (restartZones s).recov = s.recov ∧ (restartZones s).gauge = s.gauge ∧
    (restartZones s).postbox = s.postbox ∧ (restartZones s).mgmt = s.mgmt ∧ (restartZones s).store = s.store ∧
    (restartZones s).pending = s.pending := by simp [restartZones, eightNumbers]

@[simp] theorem powerOnValues_frame (strap ack rdy run lock : Bool) (s : State) :
  (powerOnValues strap ack rdy run lock s).free = s.free ∧
    (powerOnValues strap ack rdy run lock s).pending = s.pending := by
  unfold powerOnValues
  (repeat' split) <;> simp

@[simp] theorem powerOn_frame (strap ack rdy run lock : Bool) (s : State) :
  (powerOn strap ack rdy run lock s).free = s.free ∧ (powerOn strap ack rdy run lock s).pending = s.pending := by
  unfold powerOn
  (repeat' split) <;> simp

@[simp] theorem powerLoss_frame (s : State) :
  (powerLoss s).free = s.free ∧ (powerLoss s).pending = s.pending ∧ (powerLoss s).store.mem = s.store.mem ∧
    (powerLoss s).store.spoilt = s.store.spoilt := by
  unfold powerLoss
  (repeat' split) <;> simp

@[simp] theorem advanceClock_frame (s : State) :
  (advanceClock s).powered = s.powered ∧ (advanceClock s).free = s.free ∧ (advanceClock s).ports = s.ports ∧
    (advanceClock s).cls = s.cls ∧ (advanceClock s).zones = s.zones ∧ (advanceClock s).rot = s.rot ∧
    (advanceClock s).burner = s.burner ∧ (advanceClock s).recov = s.recov ∧ (advanceClock s).gauge = s.gauge ∧
    (advanceClock s).oil = s.oil ∧ (advanceClock s).postbox = s.postbox ∧ (advanceClock s).mgmt = s.mgmt ∧
    (advanceClock s).store = s.store ∧ (advanceClock s).pending = s.pending := by
  unfold advanceClock
  (repeat' split) <;> simp

@[simp] theorem countDown_frame (run lock : Bool) (s : State) :
  (countDown run lock s).powered = s.powered ∧ (countDown run lock s).free = s.free ∧
    (countDown run lock s).tick = s.tick ∧ (countDown run lock s).secTick = s.secTick ∧
    (countDown run lock s).clock = s.clock ∧ (countDown run lock s).ports = s.ports ∧
    (countDown run lock s).cls = s.cls ∧ (countDown run lock s).oil = s.oil ∧
    (countDown run lock s).postbox = s.postbox ∧ (countDown run lock s).mgmt = s.mgmt ∧
    (countDown run lock s).store = s.store ∧ (countDown run lock s).pending = s.pending := by
  unfold countDown
  (repeat' split) <;> simp

@[simp] theorem markRoll_frame (s : State) :
  (markRoll s).powered = s.powered ∧ (markRoll s).free = s.free ∧ (markRoll s).tick = s.tick ∧
    (markRoll s).secTick = s.secTick ∧ (markRoll s).clock = s.clock ∧ (markRoll s).ports = s.ports ∧
    (markRoll s).cls = s.cls ∧ (markRoll s).zones = s.zones ∧ (markRoll s).rot = s.rot ∧
    (markRoll s).burner = s.burner ∧ (markRoll s).recov = s.recov ∧ (markRoll s).gauge = s.gauge ∧
    (markRoll s).postbox = s.postbox ∧ (markRoll s).mgmt = s.mgmt ∧ (markRoll s).store = s.store ∧
    (markRoll s).pending = s.pending := by
  unfold markRoll
  (repeat' split) <;> simp

@[simp] theorem firingSecond_frame (s : State) :
  (firingSecond s).powered = s.powered ∧ (firingSecond s).free = s.free ∧ (firingSecond s).tick = s.tick ∧
    (firingSecond s).secTick = s.secTick ∧ (firingSecond s).clock = s.clock ∧ (firingSecond s).ports = s.ports ∧
    (firingSecond s).cls = s.cls ∧ (firingSecond s).zones = s.zones ∧ (firingSecond s).gauge = s.gauge ∧
    (firingSecond s).postbox = s.postbox ∧ (firingSecond s).mgmt = s.mgmt ∧ (firingSecond s).store = s.store ∧
    (firingSecond s).pending = s.pending := by
  unfold firingSecond
  (repeat' split) <;> simp

@[simp] theorem runClockEvent_frame (e : ClockEvent) (s : State) :
  (runClockEvent e s).powered = s.powered ∧ (runClockEvent e s).free = s.free ∧ (runClockEvent e s).tick = s.tick ∧
    (runClockEvent e s).secTick = s.secTick ∧ (runClockEvent e s).clock = s.clock ∧ (runClockEvent e s).cls = s.cls ∧
    (runClockEvent e s).store = s.store ∧
    (runClockEvent e s).pending = s.pending ∧ (runClockEvent e s).ports.fieldAsm = s.ports.fieldAsm ∧
    (runClockEvent e s).ports.houseAsm = s.ports.houseAsm ∧ (runClockEvent e s).ports.fieldRx = s.ports.fieldRx ∧
    (runClockEvent e s).ports.houseRx = s.ports.houseRx ∧ (runClockEvent e s).ports.fieldTx = s.ports.fieldTx ∧
    (runClockEvent e s).ports.fde = s.ports.fde ∧ (runClockEvent e s).ports.lastSeen = s.ports.lastSeen ∧
    (runClockEvent e s).ports.houseOnLine = s.ports.houseOnLine ∧ (runClockEvent e s).ports.rdy = s.ports.rdy ∧
    (runClockEvent e s).mgmt.enable = s.mgmt.enable ∧ (runClockEvent e s).mgmt.restart = s.mgmt.restart := by
  unfold runClockEvent
  split <;> simp

/-- The events taken first change nothing that none of them changes. -/
@[simp] theorem runClockEvents_frame (first : List ClockEvent) (s : State) :
  (first.foldl (fun s e => runClockEvent e s) s).powered = s.powered ∧
    (first.foldl (fun s e => runClockEvent e s) s).free = s.free ∧
    (first.foldl (fun s e => runClockEvent e s) s).tick = s.tick ∧
    (first.foldl (fun s e => runClockEvent e s) s).secTick = s.secTick ∧
    (first.foldl (fun s e => runClockEvent e s) s).clock = s.clock ∧
    (first.foldl (fun s e => runClockEvent e s) s).cls = s.cls ∧
    (first.foldl (fun s e => runClockEvent e s) s).store = s.store ∧
    (first.foldl (fun s e => runClockEvent e s) s).pending = s.pending ∧
    (first.foldl (fun s e => runClockEvent e s) s).ports.fieldAsm = s.ports.fieldAsm ∧
    (first.foldl (fun s e => runClockEvent e s) s).ports.houseAsm = s.ports.houseAsm ∧
    (first.foldl (fun s e => runClockEvent e s) s).ports.fieldRx = s.ports.fieldRx ∧
    (first.foldl (fun s e => runClockEvent e s) s).ports.houseRx = s.ports.houseRx ∧
    (first.foldl (fun s e => runClockEvent e s) s).ports.fieldTx = s.ports.fieldTx ∧
    (first.foldl (fun s e => runClockEvent e s) s).ports.fde = s.ports.fde ∧
    (first.foldl (fun s e => runClockEvent e s) s).ports.lastSeen = s.ports.lastSeen ∧
    (first.foldl (fun s e => runClockEvent e s) s).ports.houseOnLine = s.ports.houseOnLine ∧
    (first.foldl (fun s e => runClockEvent e s) s).ports.rdy = s.ports.rdy ∧
    (first.foldl (fun s e => runClockEvent e s) s).mgmt.enable = s.mgmt.enable ∧
    (first.foldl (fun s e => runClockEvent e s) s).mgmt.restart = s.mgmt.restart := by
  induction first generalizing s with
  | nil => simp
  | cons e es ih => simpa using ih (runClockEvent e s)

@[simp] theorem deliverSecond_frame (s : State) :
  (deliverSecond s).powered = s.powered ∧ (deliverSecond s).free = s.free ∧ (deliverSecond s).tick = s.tick ∧
    (deliverSecond s).secTick = s.secTick ∧ (deliverSecond s).clock = s.clock ∧ (deliverSecond s).cls = s.cls ∧
    (deliverSecond s).gauge = s.gauge ∧ (deliverSecond s).store = s.store ∧ (deliverSecond s).pending = s.pending ∧
    (deliverSecond s).ports.fieldAsm = s.ports.fieldAsm ∧ (deliverSecond s).ports.houseAsm = s.ports.houseAsm ∧
    (deliverSecond s).ports.fieldRx = s.ports.fieldRx ∧ (deliverSecond s).ports.houseRx = s.ports.houseRx ∧
    (deliverSecond s).ports.fieldTx = s.ports.fieldTx ∧ (deliverSecond s).ports.fde = s.ports.fde ∧
    (deliverSecond s).ports.lastSeen = s.ports.lastSeen ∧ (deliverSecond s).ports.houseOnLine = s.ports.houseOnLine ∧
    (deliverSecond s).ports.rdy = s.ports.rdy ∧ (deliverSecond s).mgmt.enable = s.mgmt.enable ∧
    (deliverSecond s).mgmt.restart = s.mgmt.restart := by
  unfold deliverSecond
  split <;> simp

@[simp] theorem lineClockAdvance_frame (run lock : Bool) (first : List ClockEvent) (s : State) :
  (lineClockAdvance run lock first s).powered = s.powered ∧ (lineClockAdvance run lock first s).free = s.free ∧
    (lineClockAdvance run lock first s).secTick = s.secTick + 19200 ∧
    (lineClockAdvance run lock first s).clock = s.clock + 1 ∧ (lineClockAdvance run lock first s).cls = s.cls ∧
    (lineClockAdvance run lock first s).store = s.store ∧ (lineClockAdvance run lock first s).pending = s.pending ∧
    (lineClockAdvance run lock first s).ports.fieldAsm = s.ports.fieldAsm ∧
    (lineClockAdvance run lock first s).ports.houseAsm = s.ports.houseAsm ∧
    (lineClockAdvance run lock first s).ports.fieldRx = s.ports.fieldRx ∧
    (lineClockAdvance run lock first s).ports.houseRx = s.ports.houseRx ∧
    (lineClockAdvance run lock first s).ports.fieldTx = s.ports.fieldTx ∧
    (lineClockAdvance run lock first s).ports.fde = s.ports.fde ∧
    (lineClockAdvance run lock first s).ports.lastSeen = s.ports.lastSeen ∧
    (lineClockAdvance run lock first s).ports.houseOnLine = s.ports.houseOnLine ∧
    (lineClockAdvance run lock first s).ports.rdy = s.ports.rdy ∧
    (lineClockAdvance run lock first s).mgmt.enable = s.mgmt.enable ∧
    (lineClockAdvance run lock first s).mgmt.restart = s.mgmt.restart := by
  simp [lineClockAdvance, advanceTaken, advanceClock]

@[simp] theorem deriveBurner_frame (left : BurnerState) (s : State) :
  (deriveBurner left s).powered = s.powered ∧ (deriveBurner left s).free = s.free ∧
    (deriveBurner left s).tick = s.tick ∧ (deriveBurner left s).secTick = s.secTick ∧
    (deriveBurner left s).clock = s.clock ∧ (deriveBurner left s).cls = s.cls ∧
    (deriveBurner left s).zones = s.zones ∧ (deriveBurner left s).rot = s.rot ∧
    (deriveBurner left s).recov = s.recov ∧ (deriveBurner left s).gauge = s.gauge ∧
    (deriveBurner left s).oil = s.oil ∧ (deriveBurner left s).postbox = s.postbox ∧
    (deriveBurner left s).store = s.store ∧ (deriveBurner left s).pending = s.pending ∧
    (deriveBurner left s).ports.fieldAsm = s.ports.fieldAsm ∧
    (deriveBurner left s).ports.houseAsm = s.ports.houseAsm ∧ (deriveBurner left s).ports.fieldRx = s.ports.fieldRx ∧
    (deriveBurner left s).ports.houseRx = s.ports.houseRx ∧ (deriveBurner left s).ports.fieldTx = s.ports.fieldTx ∧
    (deriveBurner left s).ports.fde = s.ports.fde ∧ (deriveBurner left s).ports.lastSeen = s.ports.lastSeen ∧
    (deriveBurner left s).ports.houseOnLine = s.ports.houseOnLine ∧ (deriveBurner left s).ports.rdy = s.ports.rdy ∧
    (deriveBurner left s).mgmt.enable = s.mgmt.enable ∧ (deriveBurner left s).mgmt.restart = s.mgmt.restart := by
  unfold deriveBurner
  (repeat' split) <;> simp

@[simp] theorem reloadSettings_frame (ack : Bool) (s : State) :
  (reloadSettings ack s).powered = s.powered ∧ (reloadSettings ack s).free = s.free ∧
    (reloadSettings ack s).tick = s.tick ∧ (reloadSettings ack s).secTick = s.secTick ∧
    (reloadSettings ack s).clock = s.clock ∧ (reloadSettings ack s).ports = s.ports ∧
    (reloadSettings ack s).postbox = s.postbox ∧ (reloadSettings ack s).mgmt = s.mgmt ∧
    (reloadSettings ack s).pending = s.pending ∧ (reloadSettings ack s).recov.word = s.recov.word ∧
    (reloadSettings ack s).recov.side = s.recov.side ∧ (reloadSettings ack s).recov.hold = s.recov.hold ∧
    (reloadSettings ack s).burner.run = s.burner.run ∧ (reloadSettings ack s).burner.lock = s.burner.lock ∧
    (reloadSettings ack s).burner.reset = s.burner.reset ∧ (reloadSettings ack s).burner.gap = s.burner.gap ∧
    (reloadSettings ack s).gauge.band = s.gauge.band ∧ (reloadSettings ack s).rot.permit = s.rot.permit ∧
    (reloadSettings ack s).cls.inHand = s.cls.inHand := by
  unfold reloadSettings
  (repeat' split) <;> simp

@[simp] theorem restartValues_frame (reload run lock : Bool) (s : State) :
  (restartValues reload run lock s).powered = s.powered ∧ (restartValues reload run lock s).free = s.free ∧
    (restartValues reload run lock s).tick = s.tick ∧ (restartValues reload run lock s).secTick = s.secTick ∧
    (restartValues reload run lock s).clock = s.clock ∧ (restartValues reload run lock s).zones = s.zones ∧
    (restartValues reload run lock s).store = s.store ∧ (restartValues reload run lock s).pending = s.pending ∧
    (restartValues reload run lock s).cls.entries = s.cls.entries := by
  unfold restartValues
  (repeat' split) <;> simp

@[simp] theorem restartPart_frame (reload run lock : Bool) (s : State) :
  (restartPart reload run lock s).powered = s.powered ∧ (restartPart reload run lock s).free = s.free ∧
    (restartPart reload run lock s).tick = s.tick ∧ (restartPart reload run lock s).secTick = s.secTick ∧
    (restartPart reload run lock s).clock = s.clock ∧ (restartPart reload run lock s).store = s.store ∧
    (restartPart reload run lock s).pending = s.pending ∧
    (restartPart reload run lock s).cls.entries = s.cls.entries := by
  unfold restartPart
  (repeat' split) <;> simp

@[simp] theorem restartEffect_frame (ack run lock : Bool) (s : State) :
  (restartEffect ack run lock s).powered = s.powered ∧ (restartEffect ack run lock s).free = s.free ∧
    (restartEffect ack run lock s).tick = s.tick ∧ (restartEffect ack run lock s).secTick = s.secTick ∧
    (restartEffect ack run lock s).clock = s.clock ∧ (restartEffect ack run lock s).pending = s.pending := by
  unfold restartEffect
  (repeat' split) <;> simp

end Sys2Proof.Machine
end

