-- ==== Sys2Proof/Laws/Memory.lean ====
section
/-! SUPPORT. Laws of the settings memory: every operation keeps the canonical form, a byte written is the byte read, and
equal reads are equal memories (log 6). -/

namespace Sys2Proof.Machine

theorem Memory.wf_nil : Memory.wf [] := by simp [Memory.wf]

theorem Memory.wf_tail {c : Host.Cell} {m : Memory} (h : Memory.wf (c :: m)) : Memory.wf m :=
  ⟨(List.pairwise_cons.1 h.1).2, fun d hd => h.2 d (List.mem_cons_of_mem _ hd)⟩

/-- Every address listed after the head of a canonical memory is higher than the head's. -/
theorem Memory.wf_head_lt {c d : Host.Cell} {m : Memory} (h : Memory.wf (c :: m)) (hd : d ∈ m) : c.1 < d.1 :=
  (List.pairwise_cons.1 h.1).1 d hd

theorem Memory.wf_cons {c : Host.Cell} {m : Memory} (hm : Memory.wf m) (hlt : ∀ d ∈ m, c.1 < d.1)
    (hc : c.2 ≠ erasedByte) : Memory.wf (c :: m) :=
  ⟨List.pairwise_cons.2 ⟨hlt, hm.1⟩, by
    intro d hd
    rcases List.mem_cons.1 hd with rfl | h
    · exact hc
    · exact hm.2 d h⟩

/-- An address below every listed one reads as an erased byte. -/
theorem Memory.read_of_lt {m : Memory} {x : Nat} (h : ∀ d ∈ m, x < d.1) : Memory.read m x = erasedByte := by
  induction m with
  | nil => rfl
  | cons c m ih =>
    have hx := h c List.mem_cons_self
    rw [Memory.read, if_neg (by omega)]
    exact ih fun d hd => h d (List.mem_cons_of_mem _ hd)

/-- A listed cell of a memory after a write is the written one or was listed before. -/
theorem Memory.mem_write {m : Memory} {x : Nat} {v : Byte} {d : Host.Cell} (h : d ∈ Memory.write m x v) :
    d = (x, v) ∨ d ∈ m := by
  induction m with
  | nil =>
    unfold Memory.write at h
    split at h <;> simp_all
  | cons c m ih =>
    obtain ⟨a, b⟩ := c
    unfold Memory.write at h
    split at h
    · split at h <;> simp_all
    · split at h
      · split at h
        · exact .inr (List.mem_cons_of_mem _ h)
        · rcases List.mem_cons.1 h with rfl | h
          · left; simp_all
          · exact .inr (List.mem_cons_of_mem _ h)
      · rcases List.mem_cons.1 h with rfl | h
        · exact .inr List.mem_cons_self
        · exact (ih h).imp id (List.mem_cons_of_mem _)

theorem Memory.write_wf {m : Memory} (x : Nat) (v : Byte) (h : Memory.wf m) : Memory.wf (Memory.write m x v) := by
  induction m with
  | nil =>
    unfold Memory.write
    split
    · exact Memory.wf_nil
    · exact Memory.wf_cons Memory.wf_nil (by simp) ‹_›
  | cons c m ih =>
    obtain ⟨a, b⟩ := c
    have lt : ∀ d ∈ m, a < d.1 := fun d hd => Memory.wf_head_lt h hd
    unfold Memory.write
    split
    · split
      · exact h
      · refine Memory.wf_cons h (fun d hd => ?_) ‹_›
        rcases List.mem_cons.1 hd with rfl | hd
        · assumption
        · have := lt d hd; simp only; omega
    · split
      · split
        · exact Memory.wf_tail h
        · exact Memory.wf_cons (Memory.wf_tail h) lt ‹_›
      · refine Memory.wf_cons (ih (Memory.wf_tail h)) (fun d hd => ?_) (h.2 _ List.mem_cons_self)
        rcases Memory.mem_write hd with rfl | hd
        · simp only; omega
        · exact lt d hd

/-- A read after a write: the written byte at its address, every other byte as before. -/
theorem Memory.read_write {m : Memory} (x : Nat) (v : Byte) (y : Nat) (h : Memory.wf m) :
    Memory.read (Memory.write m x v) y = if y = x then v else Memory.read m y := by
  induction m with
  | nil =>
    unfold Memory.write
    split <;> simp_all [Memory.read]
  | cons c m ih =>
    obtain ⟨a, b⟩ := c
    have lt : ∀ d ∈ m, a < d.1 := fun d hd => Memory.wf_head_lt h hd
    have ih := ih (Memory.wf_tail h)
    unfold Memory.write
    split
    · have below : Memory.read ((a, b) :: m) x = erasedByte := Memory.read_of_lt fun d hd => by
        rcases List.mem_cons.1 hd with rfl | hd
        · assumption
        · have := lt d hd; omega
      split
      · split
        · subst_vars; exact below
        · rfl
      · simp [Memory.read]
    · split
      · rename_i e
        have gone : Memory.read m x = erasedByte := e ▸ Memory.read_of_lt lt
        split
        · by_cases hy : y = x
          · rw [if_pos hy, hy, gone]; exact Eq.symm ‹_›
          · rw [if_neg hy, Memory.read, if_neg (by omega)]
        · simp only [Memory.read, e]; split <;> rfl
      · simp only [Memory.read, ih]
        split
        · rw [if_neg (by omega)]
        · rfl

theorem Memory.writeBytes_wf {m : Memory} (x : Nat) (bs : List Byte) (h : Memory.wf m) :
    Memory.wf (Memory.writeBytes m x bs) := by
  induction bs generalizing m x with
  | nil => exact h
  | cons b bs ih => exact ih (x + 1) (Memory.write_wf x b h)

/-- A read after a write of bytes: the written bytes at their addresses, every other byte as before. -/
theorem Memory.read_writeBytes {m : Memory} (x : Nat) (bs : List Byte) (y : Nat) (h : Memory.wf m) :
    Memory.read (Memory.writeBytes m x bs) y =
      if x ≤ y ∧ y < x + bs.length then bs.getD (y - x) 0 else Memory.read m y := by
  induction bs generalizing m x with
  | nil => rw [if_neg (by simp only [List.length_nil]; omega)]; rfl
  | cons b bs ih =>
    rw [Memory.writeBytes, ih (x + 1) (Memory.write_wf x b h), Memory.read_write x b y h, List.length_cons]
    by_cases e : y = x
    · subst e; rw [if_neg (by omega), if_pos rfl, if_pos (by omega), Nat.sub_self]; rfl
    · by_cases g : x + 1 ≤ y ∧ y < x + 1 + bs.length
      · obtain ⟨k, hk⟩ : ∃ k, y - x = k + 1 := ⟨y - x - 1, by omega⟩
        rw [if_pos g, if_pos (by omega), hk, List.getD_cons_succ]
        congr 1; omega
      · rw [if_neg g, if_neg e, if_neg (by omega)]

@[simp] theorem Memory.readBytes_length (m : Memory) (x n : Nat) : (Memory.readBytes m x n).length = n := by
  induction n generalizing x with
  | zero => rfl
  | succ n ih => simp [Memory.readBytes, ih]

theorem Memory.getD_readBytes (m : Memory) (x n k : Nat) (h : k < n) :
    (Memory.readBytes m x n).getD k 0 = Memory.read m (x + k) := by
  induction n generalizing x k with
  | zero => omega
  | succ n ih =>
    cases k with
    | zero => rfl
    | succ k =>
      rw [Memory.readBytes, List.getD_cons_succ, ih (x + 1) k (by omega)]
      congr 1; omega

/-- Two canonical memories that read alike everywhere are the same memory. -/
theorem Memory.ext_read {m n : Memory} (hm : Memory.wf m) (hn : Memory.wf n)
    (h : ∀ a, Memory.read m a = Memory.read n a) : m = n := by
  induction m generalizing n with
  | nil =>
    cases n with
    | nil => rfl
    | cons d n => have := h d.1; simp [Memory.read] at this; exact absurd this.symm (hn.2 d List.mem_cons_self)
  | cons c m ih =>
    obtain ⟨a, b⟩ := c
    have hb : b ≠ erasedByte := hm.2 _ List.mem_cons_self
    cases n with
    | nil => have := h a; simp [Memory.read] at this; exact absurd this hb
    | cons d n =>
      obtain ⟨a', b'⟩ := d
      have hb' : b' ≠ erasedByte := hn.2 _ List.mem_cons_self
      have lm : ∀ d ∈ m, a < d.1 := fun d hd => Memory.wf_head_lt hm hd
      have ln : ∀ d ∈ n, a' < d.1 := fun d hd => Memory.wf_head_lt hn hd
      have ea : a = a' := by
        rcases Nat.lt_trichotomy a a' with l | e | l
        · have := h a
          rw [Memory.read, if_pos rfl, Memory.read_of_lt] at this
          · exact absurd this hb
          · intro d hd
            rcases List.mem_cons.1 hd with rfl | hd
            · exact l
            · have := ln d hd; omega
        · exact e
        · have := h a'
          rw [Memory.read_of_lt, Memory.read, if_pos rfl] at this
          · exact absurd this.symm hb'
          · intro d hd
            rcases List.mem_cons.1 hd with rfl | hd
            · exact l
            · have := lm d hd; omega
      subst ea
      have eb : b = b' := by have := h a; simpa [Memory.read] using this
      subst eb
      congr 1
      refine ih (Memory.wf_tail hm) (Memory.wf_tail hn) fun x => ?_
      by_cases e : x = a
      · subst e; rw [Memory.read_of_lt lm, Memory.read_of_lt ln]
      · have := h x; simpa [Memory.read, e] using this

theorem State.reset_store_mem_wf : Memory.wf State.reset.store.mem := Memory.wf_nil

end Sys2Proof.Machine
end

