-- ==== Sys2Proof/Laws/Requests.lean ====
section
/-! SUPPORT. What a request command comes to once it is taken: one lemma per step of the way from the command to the
operation, so that no later proof unfolds the dispatcher, the classifier or the form tests. -/

namespace Sys2Proof.Machine

@[simp] theorem houseTaken_frame (s : State) :
    (houseTaken s).powered = s.powered ∧ (houseTaken s).free = s.free ∧ (houseTaken s).tick = s.tick ∧
    (houseTaken s).secTick = s.secTick ∧ (houseTaken s).clock = s.clock ∧ (houseTaken s).cls = s.cls ∧
    (houseTaken s).zones = s.zones ∧ (houseTaken s).rot = s.rot ∧ (houseTaken s).burner = s.burner ∧
    (houseTaken s).recov = s.recov ∧ (houseTaken s).gauge = s.gauge ∧ (houseTaken s).oil = s.oil ∧
    (houseTaken s).postbox = s.postbox ∧ (houseTaken s).mgmt = s.mgmt ∧ (houseTaken s).store = s.store ∧
    (houseTaken s).pending = s.pending ∧ (houseTaken s).ports.houseTx = s.ports.houseTx ∧
    (houseTaken s).ports.fieldTx = s.ports.fieldTx := by
  simp [houseTaken]

/-- A house request whose frame is next is carried to its end with the queue's head gone. -/
theorem houseRequest_taken {f : Frame} {s : State} (h : HouseTakes f s) :
    houseRequest f s = .next (handleHouse f (houseTaken s)) := by
  obtain ⟨hp, hf, hn, hr, hq⟩ := h
  have ready : dispatcherReady s = true := by simp [dispatcherReady, hn, hr]
  have gone : s.ports.houseRx = [] → houseTaken s = s := by
    intro h
    cases s with
    | mk _ _ _ _ _ ports => cases ports; simp_all [houseTaken, State.onPorts]
  simp only [houseRequest, whenOn, hp, if_true, takeHouse, hf, ready, Bool.and_self]
  split
  · rename_i h; rw [gone h]
  · rename_i g rest h
    have : g = f := by simpa [h] using hq
    simp [this, houseTaken, State.onPorts, h]

/-- A field request whose frame is next is carried to its end: the classifier dispatches it from the state with the frame
in hand, where the line was last busy at its end if it arrived at an empty queue. -/
theorem fieldRequest_taken {f : Frame} {time : Tick} {s : State} (h : FieldTakes f s) :
    fieldRequest f time s =
      .next (fieldEnded (dispatchField (s.ports.fieldRx.head?.getD ⟨f, time⟩) (fieldInHand f time s))) := by
  obtain ⟨hp, hf, hc, ⟨he, hd⟩ | hq⟩ := h
  · simp [fieldRequest, whenOn, hp, takeField, hf, State.reach, hc, he, hd, classify, fieldHeard, fieldInHand, fieldEnded,
      State.onPorts, State.onCls]
  · cases hr : s.ports.fieldRx with
    | nil => simp [hr] at hq
    | cons r rest =>
      have hfr : r.frame = f := by simpa [hr] using hq
      simp [fieldRequest, whenOn, hp, takeField, hf, State.reach, hc, hr, hfr, classifierTake, classify, fieldInHand,
        fieldEnded, State.onPorts, State.onCls]

/-- A service request that is next is answered from the operation on the state with its frame in hand. -/
theorem serviceRequest_taken {f : Frame} {time : Tick} {s : State} (h : ServiceTakes f s) :
    fieldRequest f time s =
      .next (fieldEnded
        (offerSvcans f (serviceOperation (f.payload.getD 0 0) (f.payload.drop 1) (fieldInHand f time s)))) := by
  obtain ⟨h, hk, hd, hl, hv, hm⟩ := h
  have hr : (s.ports.fieldRx.head?.getD ⟨f, time⟩).frame = f := by
    obtain ⟨-, -, -, ⟨he, -⟩ | hq⟩ := h
    · simp [he]
    · cases hx : s.ports.fieldRx with
      | nil => simp [hx] at hq
      | cons r rest => simpa [hx] using hq
  rw [fieldRequest_taken h]
  cases hx : lookup f.source s with
  | none => simp [hx] at hm
  | some e =>
    have he : e.cls = .service := by simpa [hx] using hm
    have hy : lookup f.source (fieldInHand f time s) = some e := by rw [← hx]; simp [lookup, fieldInHand]
    simp [dispatchField, hr, hv, hy, he, hd, handleOwn, hk, hl, serviceHandler]

/-- An SVCANS offered, and the classifier finished. -/
theorem fieldEnded_offerSvcans (f : Frame) (a : Answer) (s : State) :
    fieldEnded (offerSvcans f (a, s)) = serviceAnswered f a s := by
  simp [serviceAnswered, offerSvcans, fieldAccepts, satInc]

/-- While FDE is asserted no field request arrives at an empty queue. -/
theorem fieldRequest_deaf {f : Frame} {time : Tick} {s : State} (hp : s.powered = true) (he : s.ports.fieldRx = [])
    (hd : s.ports.fde = true) : fieldRequest f time s = .next (s.reach time) := by
  cases hc : s.cls.inHand <;> simp [fieldRequest, whenOn, hp, takeField, State.reach, hc, he, hd]

/-- A MGMT frame carried to its end: the answer of the form tests and the operation, offered with its tag. -/
theorem handleHouse_mgmt {f : Frame} (s : State) (h : f.kind = kindMgmt) :
    handleHouse f s = offerAnswer f.tag (manage f s) := by
  simp [handleHouse, h]

/-- The form tests of a MGMT frame to the EA24 with a known operation. -/
theorem manage_known {f : Frame} {op : Byte} {ps : List Byte} {o : MgmtOp} (s : State) (hd : f.dest = 0)
    (hp : f.payload = op :: ps) (ho : MgmtOp.ofCode op = some o) : manage f s = manageOp o ps s := by
  simp [manage, hd, hp, ho]

/-- An operation that passes the form tests and is not barred runs. -/
theorem manageOp_runs {o : MgmtOp} {ps : List Byte} {s : State} (hf : o.formed (ps.length + 1) = true)
    (hs : s.store.save = none) : manageOp o ps s = runOperation o ps s := by
  simp [manageOp, hf, hs]

/-- The ANSWER of an operation that leaves no restart pending. -/
theorem offerAnswer_plain {tag : Byte} {r : Answer × State} (h : r.2.mgmt.restart = none) :
    offerAnswer tag r = answered tag r.1 r.2 := by
  simp [offerAnswer, answered, h]

/-- A WRITE command of one field that is next, with no SAVE in flight. -/
theorem houseRequest_write {tag : Byte} {start : Nat} {data : List Byte} {s : State}
    (h : HouseTakes (writeFrame tag start data) s) (hs : s.store.save = none) (hd : 1 ≤ data.length)
    (ha : start < 65536) :
    houseRequest (writeFrame tag start data) s =
      .next (offerAnswer tag (writeTable start data (houseTaken s))) := by
  have hl : data.length ≤ 13 := by
    have := h.2.1
    simp [frameFits, writeFrame, houseFrame, b2, leBytes] at this
    omega
  rw [houseRequest_taken h, handleHouse_mgmt _ rfl]
  rw [manage_known (op := opWrite) (ps := b2 start ++ data) (o := .write) _ rfl rfl (by decide)]
  rw [manageOp_runs (by simp [MgmtOp.formed, MgmtOp.lengths, b2, leBytes]; omega) (by simp [hs])]
  have : ofLE (List.take 2 (b2 start ++ data)) = start := by
    simp [b2, leBytes, ofLE]
    omega
  simp only [runOperation, this]
  simp [b2, leBytes, writeFrame, houseFrame]

/-- A WRITE that covers one field exactly: what applying that field gives. -/
theorem writeTable_one {start : Nat} {data : List Byte} {l : Located} {s : State} (hf : fieldAt start = some l)
    (hs : l.start = start) (hl : data.length = l.size) (h0 : 0 < l.size) :
    writeTable start data s =
      match applyField l.field (ofLE data) s with
      | (.stored, t) => (answer .done, t)
      | (.clamped v, t) => (answer .clamped (0 :: leBytes l.size v), t)
      | (.refused r, t) => refusedAt start 0 r t := by
  obtain ⟨n, hn⟩ : ∃ n, data.length = n + 1 := ⟨data.length - 1, by omega⟩
  have hne : data.isEmpty = false := by cases data <;> simp_all
  have hd : data.drop l.size = [] := by simp [← hl]
  have ht : data.take l.size = data := by simp [← hl]
  have rest : ∀ c s, writeFields n start l.size [] c s = (writeDone c, s) := by
    intro c s
    cases n <;> simp [writeFields]
  rw [writeTable, hn, writeFields]
  simp only [hne, Bool.false_eq_true, if_false, Nat.add_zero, hf, hs, hl, ne_eq, not_true, Nat.lt_irrefl, or_self, ht, hd]
  rcases applyField l.field (ofLE data) s with ⟨r, t⟩
  cases r <;> simp [rest, writeDone, answer]

end Sys2Proof.Machine
end

