-- ==== Sys2Proof/Laws/Units.lean ====
section
/-! SUPPORT. Small laws of the shared operations that proofs about commands cite. -/

namespace Sys2Proof.Machine

/-- With the supply up, a command's event is worked. -/
theorem whenOn_powered {f : State → State} {s : State} (h : s.powered = true) : whenOn f s = .next (f s) := by
  simp [whenOn, h]

/-- The mark of the daily roll at an advance, as one update (R148). -/
theorem markRoll_eq (s : State) :
    markRoll s = s.onOil fun o => { o with rollDue := o.rollDue || decide (s.clock.toNat % 86400 = 0) } := by
  unfold markRoll
  split <;> rename_i h <;> simp [h, State.onOil]

/-- A zone event depends on its own change only through the zone it is an event of. -/
theorem zoneEvent_congr (i : Fin 8) {f g : Zone → Zone} {s : State} (h : f (s.zone i) = g (s.zone i)) :
    zoneEvent i f s = zoneEvent i g s := by
  simp only [State.zone] at h
  simp [zoneEvent, State.onZone, State.onZones, h]

/-- When a post is over: its expiry is not from 1 s to the longest lifetime ahead of the clock (R164; log 26). -/
theorem Post.isOver_iff (now : Clock) (p : Post) :
    p.isOver now = true ↔ age p.expiry now = 0 ∨ 14400 < age p.expiry now := by
  unfold Post.isOver longestLife
  rw [Bool.or_eq_true, decide_eq_true_iff, decide_eq_true_iff]

/-- Every change of the recovery state but the entry into PULSE (R90, R97). -/
theorem recovTo_enters {st : RecState} (h : st ≠ .pulse) (timer : Option Nat) (s : State) :
    recovTo st timer s = recoveryEnters st timer s := by
  simp [recovTo, recoveryEnters, Burner.followPulse, State.onRecov, State.onBurner, h]

/-- The GAUGE report of a sample, as one update (R135). -/
theorem handGaugeReport_eq (k : Option InvalidKind) (s : State) :
    handGaugeReport k s = gaugeReported (k.elim 0 InvalidKind.code) s := by
  have byte : BitVec.ofNat 8 (gaugeByte s.gauge) = gaugeByteShown s.gauge := by
    simp only [gaugeByte, gaugeByteShown, oneByte, flagByte, Gauge.state]
    congr 1
    cases s.gauge.rising <;> cases s.gauge.sFlag <;> cases s.gauge.fault <;> split <;> rfl
  have volume : leBytes 2 s.gauge.sentV = volumeShown s.gauge := by
    simp only [Gauge.sentV, volumeShown, Gauge.state]
    split <;> cases s.gauge.fault <;> rfl
  by_cases due : s.gauge.reportDue = true
  · by_cases h : s.ports.houseTx.length < 15 <;>
      simp [handGaugeReport, gaugeReported, due, houseAccepts, gaugeFrame, volume, byte, h, pushHouse, State.onGauge,
        State.onPorts, Gauge.startReportTimer, Gauge.sentLitres, satInc, kindGauge, kindAnswer, houseAddr, absentWord]
  · simp [handGaugeReport, gaugeReported, due]

end Sys2Proof.Machine
end

