-- ==== Sys2Proof/WellFormed.lean ====
section
/-! DEFINITION. Which commands are well formed: a frame is one that a receiver can hand on (R4, R6), and its kind and
operation are those of its row. An ill-formed command is one that the outside of the part cannot send. -/

namespace Sys2Proof

open Machine

/-- A MGMT frame that a receiver can hand on. -/
def HouseReq.wf (op : Byte) (r : HouseReq) : Bool := frameFits (houseFrame op r)

/-- An SVC frame that a receiver can hand on, from a field device (R26, Introduction, Addresses). -/
def SvcReq.wf (op : Byte) (r : SvcReq) : Bool := frameFits (svcFrame op r) && deviceAddr r.source

/-- A request of either side. -/
def Request.wf (op : Byte) (r : Request) : Bool :=
  match r with
  | .house h => h.wf op
  | .field v => v.wf op

/-- The operations that an SVC frame may carry (12.4). -/
def serviceOps : List Byte := [opRead, opClaimSelect, opClaimTest, opClaimRelease, opServiceReset, opClearHard]

/-- A request that names no operation its side may send (R26, R169): a house MGMT frame without a payload names none (R169
row 2), and an SVC frame that the service handler takes has an operation code (R24). -/
def Request.unknown (r : Request) : Bool :=
  match r with
  | .house h =>
    frameFits (houseBare h) &&
      (match h.params with
      | [] => true
      | op :: _ => (MgmtOp.ofCode op).isNone)
  | .field v =>
    frameFits (svcBare v) && deviceAddr v.source && !v.params.isEmpty && !serviceOps.contains (v.params.getD 0 0)

/-- A zone setting's value fits the size of its field (12.6). -/
def ZoneSetting.fits (z : ZoneSetting) (v : BitVec 16) : Bool :=
  match z with
  | .frost => true
  | .overrideSetpoint => true
  | _ => decide (v.toNat < 256)

/-- A threshold's value fits the size of its field (12.6). -/
def Threshold.fits (t : Threshold) (v : BitVec 16) : Bool :=
  match t with
  | .hysteresis => decide (v.toNat < 256)
  | _ => true

/-- A command is well formed. -/
def Instr.wellFormed (i : Instr) : Bool :=
  match i with
  | .powerOn _ _ _ _ _ => true
  | .powerLoss => true
  | .lineClockAdvance _ _ => true
  | .characterReceived _ _ _ _ _ => true
  | .frameTruncated _ _ => true
  | .skipEnd _ _ => true
  | .fieldTransmitStart _ => true
  | .echoCheck _ _ _ _ => true
  | .replyWithdrawn _ => true
  | .rdyChange _ => true
  | .houseTransmitStart => true
  | .houseFrameSent => true
  | .classifierTake _ => true
  | .readingAgesOut _ _ => true
  | .overrideExpires _ => true
  | .fallbackPhaseChange _ => true
  | .turnExpires _ => true
  | .valveTravelEnd _ => true
  | .overrunEnds => true
  | .inputAccepted _ => true
  | .startLimitExpires => true
  | .runoutLimitExpires => true
  | .backOffExpires => true
  | .clearTimerExpires => true
  | .resetGapEnds => true
  | .coolOffExpires => true
  | .spacingExpires => true
  | .budgetEntryAgesOut => true
  | .pregapEnds => true
  | .pulseEnds => true
  | .postgapEnds => true
  | .checkingExpires => true
  | .proved => true
  | .claimHoldExpires => true
  | .sampleTimerExpires => true
  | .supplyConversionDone _ => true
  | .sampleTaken _ => true
  | .gaugeReportDue => true
  | .reconcileTimerExpires => true
  | .dailyRingRoll _ => true
  | .postExpires dest tag => deviceAddr dest && decide (tag < 16)
  | .houseKindDrop frame =>
    frameFits frame && decide (frame.kind ≠ kindMgmt) && decide (frame.kind ≠ kindPass)
  | .unknownOp req => req.unknown
  | .relayDown req => frameFits (passFrame req)
  | .read req => req.wf opRead
  | .write req => req.wf opWrite
  | .counterClear _ _ _ => true
  | .attentionEnableWrite _ _ => true
  | .zoneSettingWrite _ _ setting value => setting.fits value
  | .slotWrite _ _ _ _ => true
  | .zoneEnableWrite _ _ _ => true
  | .overrideDurationWrite _ _ _ => true
  | .stalenessLimitWrite _ _ _ => true
  | .fallbackOnTimeWrite _ _ _ => true
  | .routeWrite _ _ _ => true
  | .concurrentLimitWrite _ _ => true
  | .turnLengthWrite _ _ => true
  | .bypassFittedWrite _ _ => true
  | .dryStopWrite _ _ => true
  | .autoRecoveryWrite _ _ => true
  | .resetWithoutGaugeWrite _ _ => true
  | .budgetWindowWrite _ _ => true
  | .provingTimeWrite _ _ => true
  | .bandThresholdWrite _ which value => which.fits value
  | .gaugeReportIntervalWrite _ _ => true
  | .reconcileIntervalWrite _ _ => true
  | .commitStrap req => req.wf opCommit
  | .discardStrap req => req.wf opDiscard
  | .save req => req.wf opSave
  | .saveTransferDone _ => true
  | .saveReadbackDone _ _ => true
  | .restart req => req.wf opRestart
  | .reload req => req.wf opReload
  | .restartEffect _ _ _ _ => true
  | .post req => req.wf opPost
  | .withdraw req => req.wf opWithdraw
  | .claimSelect req => req.wf opClaimSelect
  | .claimTest req => req.wf opClaimTest
  | .claimRelease req => req.wf opClaimRelease
  | .remoteReset req => req.wf opRemoteReset
  | .serviceReset req => req.wf opServiceReset
  | .clearHard req => req.wf opClearHard
  | .attnClear req => req.wf opAttnClear
  | .logRead req => req.wf opLogRead
  | .status req => req.wf opStatus

end Sys2Proof
end

