-- ==== Sys2Proof/Tests/Slice0.lean ====
section
/-! SUPPORT. Tests: what WellFormed refuses, worked examples of the manual, and for each statement a concrete state and
operands that meet its hypotheses, clause by clause. -/

/-- What a conjunction says after its first five parts. -/
theorem And.after5 {a b c d e f : Prop} (h : a ∧ b ∧ c ∧ d ∧ e ∧ f) : f := h.2.2.2.2.2

namespace Sys2Proof.Tests

-- many small terms are decided here: one at a time needs less memory
set_option Elab.async false

open Machine Host

/-- The state that a command answers. -/
def after (c : Instr) (s : State) : State :=
  match exec c s with
  | .next t => t
  | _ => s

/-! ### WellFormed refuses what the outside cannot send -/

theorem test_wf_refuses_post_address : Instr.wellFormed (.postExpires 62 1) = false := by decide
theorem test_wf_refuses_post_tag : Instr.wellFormed (.postExpires 12 16) = false := by decide
theorem test_wf_refuses_mgmt_as_other_kind : Instr.wellFormed (.houseKindDrop ⟨0, 62, 0x22, 1, []⟩) = false := by decide
theorem test_wf_refuses_pass_as_other_kind : Instr.wellFormed (.houseKindDrop ⟨0, 62, 0x21, 1, []⟩) = false := by decide
theorem test_wf_refuses_frame_address : Instr.wellFormed (.houseKindDrop ⟨64, 62, 0x31, 1, []⟩) = false := by decide
theorem test_wf_refuses_known_op : Instr.wellFormed (.unknownOp (.house { params := [0x10] })) = false := by decide
theorem test_wf_refuses_known_service_op :
    Instr.wellFormed (.unknownOp (.field { source := 40, params := [0x11, 0, 0, 0] })) = false := by decide
theorem test_wf_refuses_empty_service_op : Instr.wellFormed (.unknownOp (.field { source := 40, params := [] })) = false := by
  decide
theorem test_wf_takes_an_empty_request : Instr.wellFormed (.unknownOp (.house { params := [] })) = true := by decide
theorem test_wf_refuses_long_pass :
    Instr.wellFormed (.relayDown { dest := 30, params := List.replicate 17 0 }) = false := by decide
theorem test_wf_refuses_long_request : Instr.wellFormed (.write { params := List.replicate 16 0 }) = false := by decide
theorem test_wf_refuses_house_as_tool : Instr.wellFormed (.serviceReset { source := 62 }) = false := by decide
theorem test_wf_refuses_wide_priority : Instr.wellFormed (.zoneSettingWrite 1 0 .priority 256) = false := by decide
theorem test_wf_refuses_wide_band_hysteresis : Instr.wellFormed (.bandThresholdWrite 1 .hysteresis 256) = false := by
  decide
theorem test_wf_takes_a_status : Instr.wellFormed (.status { tag := 1 }) = true := by decide

/-! ### The state after reset -/

theorem test_reset_is_power_on_without_memory : after (.powerOn false true false false false) State.reset = State.reset := by
  decide +kernel
theorem test_reset_memory_is_canonical : Memory.wf State.reset.store.mem := by decide
theorem test_table_space_is_full : (tableSpace State.reset).length = 1024 := by decide +kernel
theorem test_no_word_spells_a_command : decodeTableWord 16 0xA5 = none := by decide

/-! ### States for the witnesses -/

def s0 : State := State.reset

/-- A map with thermostat 12, listener 30, service tool 40 and a blocked address 50. -/
def mapped : State := s0.onCls fun c => { c with
  entries := [{ valid := true, pattern := 12, mask := 63, cls := .room, forwardUp := true },
    { valid := true, pattern := 30, mask := 63, cls := .listener, guard := true },
    { valid := true, pattern := 40, mask := 63, cls := .service },
    { valid := true, pattern := 50, mask := 63, cls := .blocked },
    { valid := true, pattern := 13, mask := 63, cls := .room }] ++ List.replicate 11 {} }

/-- Zone 0 with thermostat 12 in slot 1. -/
def bound : State := mapped.onZone 0 fun z => { z with slot1 := { addr := some 12 } }

/-- A field frame at the head of the field receive queue. -/
def holding (r : RxFrame) (s : State) : State := s.onPorts fun p => { p with fieldRx := [r] }

/-- The field assembler in a phase of its own. -/
def asm (a : Assembler) : State := s0.onPorts fun p => { p with fieldAsm := a, houseAsm := a }

/-- A frame on the field line with `k` characters read back, after `tries` failed tries. -/
def sending (k tries : Nat) : State := s0.onPorts fun p => { p with
  fde := true
  fieldTx := [{ frame := nomailFrame 12, origin := .nomail, deadline := some 1920, tries := tries, sending := some k }] }

/-- The Supervisor settled with these accepted levels and this state. -/
def burnerIn (st : BurnerState) (run lock : Bool) (timer : Option Nat) : State := s0.onBurner fun b => { b with
  run := { raw := run, acc := some run, change := none }, lock := { raw := lock, acc := some lock, change := none }
  state := st, timer := timer, demand := decide (st = .starting ∨ st = .firing) }

/-- RUN about to be accepted at a level. -/
def runTo (st : BurnerState) (level lock : Bool) : State := (burnerIn st (!level) lock none).onBurner fun b =>
  { b with run := { raw := level, acc := some (!level), change := some 2 } }

/-- LOCK about to be accepted at a level. -/
def lockTo (st : BurnerState) (level : Bool) : State := (burnerIn st false (!level) none).onBurner fun b =>
  { b with lock := { raw := level, acc := some (!level), change := some 2 } }

/-- The Recovery Controller in a state with its timer run out, the burner locked. -/
def recovIn (st : RecState) (timer : Option Nat) : State :=
  ((burnerIn .locked false true none).onRecov fun r => { r with state := st, timer := timer }).onBurner fun b =>
    { b with reset := decide (st = .pulse) }

/-- A claim of the service tool. -/
def claimed (s : State) : State := s.onRecov fun r => { r with word := 0x1234, side := .field, hold := some 0 }

/-- A gauge in VALID with a table of two points and 600 litres. -/
def gauged : State := s0.onGauge fun g => { g with
  live := ⟨some 0, 0⟩ :: ⟨some 1000, 2000⟩ :: List.replicate 22 {}, sFlag := true, s10 := 6000, band := .normal }

/-- A part with one post for thermostat 12. -/
def posted (k : PostKind) (v : Nat) (outstanding wait : Bool) : State := bound.onPostbox fun b => { b with
  posts := [⟨12, 3, k, v, false, wait, 0, 600, 0, outstanding⟩] }

/-- A part with a SAVE in a phase, of an image of 774 bytes. -/
def saving (p : SavePhase) : State := s0.onStore fun t => { t with
  present := true, save := some ⟨p, List.replicate 774 7⟩ }

/-! ### A request that arrives at an empty queue ends on the line (R10) -/

/-- An SVC frame of operation 0 whose last character ended at tick 1,000, answered. -/
def answeredAt1000 : State := after (.unknownOp (.field { source := 40, params := [0, 0, 0, 0], time := 1000 })) mapped

/-- The SVCANS waits 3 character times from the end of that frame: 131 ticks are too few, and 132 are enough. -/
theorem test_svcans_waits_for_the_idle_line :
    answeredAt1000.ports.fieldTx.length = 1 ∧ (after (.fieldTransmitStart ⟨1131, false⟩) answeredAt1000).ports.fde = false ∧
      (after (.fieldTransmitStart ⟨1132, false⟩) answeredAt1000).ports.fde = true := by decide

/-! ### The manual's own examples (1.10, 2.6, 3.7, 4.8, 7.9, 7.10, 8.9, 8.10, 9.8, 10.8, 10.9, 11.6) -/

/-- A table of 24 entries holding these points. -/
def tableOf (ps : List (Nat × Nat)) : List StrapEntry :=
  ps.map (fun p => ⟨some p.1, p.2⟩) ++ List.replicate (24 - ps.length) ({} : StrapEntry)

/-- The gauge of 7.9. -/
def gauge79 : Gauge := { sFlag := true, s10 := 20850, band := .normal, live := tableOf [(0, 0), (250, 180), (500, 490),
  (750, 860), (1000, 1250), (1250, 1640), (1500, 2010), (1750, 2320), (2000, 2500)] }

theorem test_gauge_sample :
    let g := (gauge79.takeSample 1650 3000).1
    g.lastN = some 1650 ∧ g.lastH = some 1550 ∧ g.lastV = some 2072 ∧ g.s10 = 20834 ∧ g.litres = 2083 ∧
      g.band = .normal := by decide +kernel

theorem test_gauge_limit_cases :
    (gauge79.takeSample 180 3000).2.invalid = some .opened ∧ (gauge79.takeSample 3950 3000).2.invalid = some .shorted ∧
      (gauge79.takeSample 400 3000).1.lastH = some 0 ∧ (gauge79.takeSample 2490 3000).1.lastH = some 2600 ∧
      (gauge79.takeSample 3890 2800).1.lastN = some 4095 ∧ (gauge79.takeSample 3890 2800).1.lastH = some 3000 ∧
      (gauge79.takeSample 3890 2800).1.lastV = some 2500 := by decide +kernel

theorem test_delivery_is_smoothed :
    [412, 620, 890, 1150].foldl (fun l v => l ++ [smoothed 3 (l.getLast?.getD 0) v]) [4104] =
      [4104, 4106, 4367, 4933, 5753] := by decide +kernel

theorem test_delivery_is_detected :
    let g := [620, 890, 1150].foldl (fun g v => (Gauge.takeVolume v g).1) { gauge79 with s10 := 4106, band := .low }
    g.rising = true ∧ g.before = 410 ∧ g.peak = 1150 ∧ g.band = .normal := by decide +kernel

theorem test_delivery_ends :
    let g := [620, 890, 1150, 1420, 1610, 1612, 1609].foldl (fun g v => (Gauge.takeVolume v g).1)
      { gauge79 with s10 := 4106, band := .low }
    g.peak = 1612 ∧ g.settleRun = 2 ∧ (Gauge.takeVolume 1611 g).2.rise = some (410, 1611) := by decide +kernel

/-- The map of 2.6. -/
def map26 : State := s0.onCls fun c => { c with
  entries := [{ valid := true, pattern := 40, mask := 63, cls := .blocked },
    { valid := true, pattern := 36, mask := 63, cls := .listener, forwardUp := true, guard := true },
    { valid := true, pattern := 32, mask := 48, cls := .listener, forwardUp := true },
    { valid := true, pattern := 8, mask := 56, cls := .room, forwardUp := true },
    { valid := true, pattern := 50, mask := 63, cls := .service }, {}] ++ List.replicate 10 {} }

theorem test_map_lookup :
    [40, 36, 33, 12, 50].map (fun a => (lookup a map26).map fun e => (e.cls, e.guard)) =
      [some (.blocked, false), some (.listener, true), some (.listener, false), some (.room, false),
        some (.service, false)] ∧ lookup 20 map26 = none := by decide +kernel

/-- Zone 2 of 3.7 before its first event. -/
def zone37 : Zone :=
  { enabled := true, slot1 := ⟨some 12, some 198, some 40000, true⟩, slot2 := ⟨some 13, some 203, some 39700, true⟩
    priority := 2, requested := 205, economy := 15, state := .quiet }

theorem test_zone_afternoon :
    let z := zone37.evaluate .normal 40000
    z.measured = some 198 ∧ z.eff = 205 ∧ z.normalCall = true ∧ z.state = .calling ∧
      (zone37.evaluate .low 41200).eff = 190 ∧ (zone37.evaluate .dry 41200).eff = 50 := by decide +kernel

/-- The grants of 4.8. -/
def grants48 (turn : Nat) : Rotation :=
  { limit := 2, grants := [⟨0, 4, 60000, 1, 0⟩, ⟨2, 2, 60100, 2, turn⟩, ⟨4, 2, 60400, 3, 0⟩, ⟨6, 1, 60300, 4, 0⟩] }

theorem test_limit_is_lowered :
    let r := ((grants48 0).applyLimit 61000).swapCheck 61000
    let x := ((grants48 1900).applyLimit 61000).swapCheck 61000
    r.grants.map (·.zone) = [0, 2] ∧ r.queue.map (·.zone) = [4, 6] ∧ x.grants.map (·.zone) = [0, 4] := by decide +kernel

/-- The accounts of 8.9 at 121,600. -/
def oil89 : Oil := { based := true, base := 2083, used := 4166, remainder := 2400, firing := 6000, timerRuns := true }

theorem test_days_to_dry :
    let o : Oil := { ring := [12600, 15300, 13900, 16200, 14100, 12800, 15900] }
    o.days (some 2083) 150 = some 193 ∧ o.days (some 2051) 150 = some 190 := by decide +kernel

theorem test_reconciliation :
    let o := (oil89.reconcile 121600 2051).1
    oil89.book = 2079 ∧ o.events = [] ∧ o.observed = some 19200 ∧ o.base = 2051 ∧ o.remainder = 0 := by decide +kernel

theorem test_rise_is_a_delivery :
    (Oil.rise 80520 410 1611 { based := true, base := 430, used := 19500 }).1.events =
      [⟨.delivery, 80520, some 410, some 1611, 1201, some .rise⟩] := by decide +kernel

theorem test_internal_notice_takes_a_place :
    let ps := ([⟨13, 8, .notice, 0x41, false, false, 0, 600, 0, false⟩, ⟨13, 9, .notice, 2, true, false, 0, 600, 0, false⟩,
      ⟨13, 10, .setpoint, 195, false, false, 0, 600, 0, false⟩, ⟨13, 11, .notice, 0x42, false, false, 0, 600, 0, false⟩] :
      List Post)
    ((Postbox.notify .oilDry 0 13 { posts := ps, tagCounter := 12 }).posts.map (·.tag) = [8, 10, 11, 12]) := by
  decide +kernel

theorem test_write_stops_halfway :
    let s := s0.onZone 5 fun z => { z with slot1 := { addr := some 20 } }
    let t := after (.write { params := [0xE0, 0, 1, 21, 20, 3] }) s
    (t.ports.houseTx.getLast?.map (·.frame.payload)) = some [5, 3, 2] ∧ (t.zone 3).enabled = true ∧
      (t.zone 3).slot1.addr = some 21 ∧ (t.zone 3).slot2.addr = none ∧ (t.zone 3).route = none := by decide +kernel

theorem test_notice_is_lost_at_fifteen :
    let s := s0.onPorts fun p => { p with houseTx := List.replicate 14 { frame := ⟨62, 0, 0x34, 0, []⟩ } }
    let t := raise { bit := .lockout, code := 0x06 } s
    let u := raise { bit := .recoveryWait, code := 0x07 } t
    t.ports.houseTx.length = 15 ∧ u.ports.houseTx.length = 15 ∧ u.mgmt.houseNoticeLost = 1 ∧
      u.mgmt.attn &&& AttnBit.house.word ≠ 0 := by decide +kernel

/-! ### Witnesses: the hypotheses of each statement are met

A term `fun h : Obligations.X => (h …).1 (by decide) …` can be written only where every hypothesis of that clause of X holds
at the operands named in it, so each theorem below shows, clause by clause, a state and operands that meet all the
hypotheses together. Values at the limits of a range are taken where a clause has a range. -/

/-- What a statement concludes at the operands of `f`, given the statement. -/
def Applies {X E : Prop} (_ : X → E) : Prop := X → E

theorem Applies.intro {X E : Prop} (f : X → E) : Applies f := f

/-- A hypothesis that Lean decides where it is asked for. -/
theorem met {p : Prop} (h : p := by decide) : p := h

/-- The same, decided by the kernel. -/
theorem metByKernel {p : Prop} (h : p := by decide +kernel) : p := h

def houseReq (ps : List Byte) : HouseReq := { tag := 7, params := ps }
def toolReq (ps : List Byte) : SvcReq := { source := 40, params := ps, tag := 9, time := 3 }
def fieldFrame (d s k : Byte) (p : List Byte) : RxFrame := ⟨⟨d, s, k, 0, p⟩, 5⟩
def roomReport : RxFrame := fieldFrame 0 12 0x01 [195, 0, 200, 0, 1]
def wakeFrame : RxFrame := fieldFrame 0 12 0x02 []
def takenFrame : RxFrame := ⟨⟨0, 12, 0x03, 3, []⟩, 5⟩
def nomailEntry (tries : Nat) (sent : Option Nat) : TxEntry :=
  { frame := nomailFrame 12, origin := .nomail, deadline := some 1920, tries := tries, sending := sent }
def passEntry : TxEntry := { frame := passedFrame ⟨30, 62, 0x21, 0, [1, 2]⟩, origin := .pass }
def transmitting (es : List TxEntry) (s : State) : State := s.onPorts fun p => { p with fieldTx := es }
def houseFull (n : Nat) (s : State) : State := s.onPorts fun p =>
  { p with houseTx := List.replicate n { frame := ⟨62, 0, 0x34, 0, []⟩ } }
def answering : State := s0.onPorts fun p =>
  { p with rdy := true, houseTx := [{ frame := answerFrame 7 [0], restartAnswer := true }] }
def zoneNotice : Notice := { bit := .zone, code := 0x0B, subject := 2, value1 := 3 }
def heldZone : Zone :=
  { enabled := true, slot1 := ⟨some 12, some 195, some 0, true⟩, slot2 := ⟨some 13, some 170, some 0, true⟩
    state := .quiet }
def zoned (z : Zone) (now : Clock) : State := { s0.onZone 0 (fun _ => z) with clock := now }
def turning : Rotation :=
  { limit := 3, grants := [⟨1, 2, 0, 1, 1800⟩, ⟨2, 1, 0, 2, 1900⟩], queue := [⟨4, 2, 0, 1⟩], overrun := some 0
    outputs := ⟨{ state := .opening }, { state := .closing }, {}, {}, {}, {}, {}, {}⟩ }
def rotating : State := s0.onRot fun _ => turning
def permitted (b : Bool) (st : BurnerState) : State :=
  (burnerIn st false false (some 9)).onRot fun r => { r with permit := b }
def waiting (st : RecState) (timer : Option Nat) : State :=
  { (recovIn st timer).onRecov fun r => { r with noGauge := true, auto := true } with cls := mapped.cls }
def sampling (c : BitVec 12) (s : State) : State := s.onGauge fun g => { g with conv := .tank c }
def pendingTable (es : List StrapEntry) : State := gauged.onGauge fun g =>
  { g with pend := es ++ List.replicate (24 - es.length) {} }
def accounted (now : Clock) : State := { gauged.onOil (fun o =>
  { o with based := true, base := 600, used := 50000, rebaseTime := some 5, timerRuns := true }) with clock := now }
def mailed (ps : List Post) : State := bound.onPostbox fun b => { b with posts := ps, tagCounter := 3 }
def unbound (s : State) : State := s.onZone 0 fun z => { z with slot1 := {} }
def internal (d : Byte) (tag code attempts : Nat) : Post := ⟨d, tag, .notice, code, true, false, 0, 600, attempts, false⟩
def awaited (tag code : Nat) : Post := ⟨12, tag, .notice, code, true, false, 0, 600, 0, true⟩
def pool (ps : List Post) : Postbox := { posts := ps, tagCounter := 15 }
def noticePost (d : Byte) (tag code : Nat) : Post := ⟨d, tag, .notice, code, false, true, 0, 600, 0, false⟩
def restarting (k : RestartKind) (s : State) : State := s.onMgmt fun m =>
  { m with restart := some { kind := k, answerSent := true } }

/-- A gauge in RISING one settled sample before the rise ends. -/
def risingGauge (before : Nat) : Gauge := { gauged.gauge with
  rising := true, settleRun := 2, peak := 1600, before := before }
def risen : State := s0.onGauge fun _ => risingGauge 410
def marked : State := (gauged.onGauge fun g => { g with s10 := 9740 }).onOil fun o =>
  { o with based := true, due := true }
def unreported : State := gauged.onGauge fun g => { g with sFlag := false, band := .unknown }
def reporting (n : Nat) : State := (houseFull n gauged).onGauge fun g => { g with reportDue := true }
def elsewhere : HouseReq := { tag := 7, dest := 63 }
def basedUnreported : State := unreported.onOil fun o => { o with based := true, base := 900, checkpoint := some 950 }
def closed : RecRecord := ⟨0, .house, .relocked, .unknown, none⟩
def proved : State := (recovIn .proving none).onRecov fun r => { r with
  proving := 180, log := [closed, ⟨5, .service, .pending, .unknown, none⟩] }
def listed : State := ((mailed [⟨12, 15, .notice, 2, true, false, 0, 600, 3, true⟩]).onRecov fun r => { r with log := [closed] }).onOil
  fun o => { o with events := [⟨.lossRun, 9, some 70, some 5, 65, none⟩, ⟨.delivery, 9, none, some 5, 5, some .reconcile⟩] }
def basedAt (used : Nat) : State := (burnerIn .firing true false none).onOil fun o =>
  { o with based := true, used := used, remainder := 1100 }

/-- An input whose first level is accepted while the other input's is this. -/
def settling (i : Input) (level : Bool) (other : Option Bool) : State := s0.onBurner fun b =>
  let first : Debounced := { raw := level, acc := none, change := some 2 }
  let second : Debounced := { raw := other.getD false, acc := other, change := if other = none then some 1 else none }
  { b with run := if i = .run then first else second, lock := if i = .run then second else first }

/-- LOCK about to be accepted at a level, RUN accepted at another. -/
def lockIn (st : BurnerState) (level run : Bool) : State := (lockTo st level).onBurner fun b =>
  { b with run := { raw := run, acc := some run, change := none } }

/-- An input that is accepted at the next advance. -/
def runNext (st : BurnerState) (level : Bool) : State := (runTo st level false).onBurner fun b =>
  { b with run := { b.run with change := some 1 } }

/-- The house queue at 15 frames, the latest a ROOM_UP of thermostat 12. -/
def houseEndingInRoomUp : State := (houseFull 14 mapped).onPorts fun p =>
  { p with houseTx := p.houseTx ++ [{ frame := ⟨62, 12, 0x31, 0, [1]⟩ }] }

theorem no_room_up {q : List HouseEntry} {a : Byte} {c : Nat → Prop} (hq : ∀ x ∈ q, x.frame.kind ≠ 0x31) (k : Nat) :
    ¬∃ x, q[k]? = some x ∧ x.frame.kind = 0x31 ∧ x.frame.source = a ∧ c k :=
  fun ⟨x, hx, hk, _⟩ => hq x (List.mem_of_getElem? hx) hk

theorem none_after {q : List HouseEntry} {n : Nat} {c : Nat → HouseEntry → Prop} (hq : q.length ≤ n + 1) (j : Nat)
    (hj : n < j) : ¬∃ x, q[j]? = some x ∧ c j x :=
  fun ⟨_, hx, _⟩ => nomatch (List.getElem?_eq_none (Nat.le_trans hq hj)).symm.trans hx

theorem unbound61 (i : Fin 8) (m : SlotNo) : ((bound.zone i).slot m).addr ≠ some 61 := by
  revert i; cases m <;> decide

theorem recovIn_lawful (st : RecState) (t : Option Nat) : DemandLawful (recovIn st t) := by
  refine ⟨?_, ?_, ?_⟩ <;> cases st <;> simp [recovIn, burnerIn, State.onBurner, State.onRecov]

theorem waiting_lawful (st : RecState) (t : Option Nat) : DemandLawful (waiting st t) := by
  refine ⟨?_, ?_, ?_⟩ <;> cases st <;> simp [waiting, recovIn, burnerIn, State.onBurner, State.onRecov]

theorem s0_lawful : DemandLawful s0 := by refine ⟨?_, ?_, ?_⟩ <;> decide +kernel

theorem s0_pool : PoolLawful s0 := ⟨met, fun _ => Nat.zero_le 4, .nil, .nil, .nil, met, fun _ hp => nomatch hp⟩

theorem s0_unbound (i : Fin 8) (n : SlotNo) : ((s0.zone i).slot n).addr = none := by cases n <;> revert i <;> decide

theorem s0_slots : SlotsLawful s0 := by
  refine ⟨fun i n a h => ?_, fun i m _ _ a h => ?_, fun i h => absurd (s0_unbound i .two) h⟩
  · exact nomatch (s0_unbound i n).symm.trans h
  · exact nomatch (s0_unbound i m).symm.trans h

/-- An empty queue. -/
theorem witness_StepTakesTheFrontCommand :
    Applies (fun h : Obligations.StepTakesTheFrontCommand =>
      h.2 s0 met) :=
  .intro _

/-- A command to a part without supply. -/
theorem witness_EveryCommandAnswersANextState :
    Applies (fun h : Obligations.EveryCommandAnswersANextState =>
      h.2 (.turnExpires 0) { s0 with powered := false } met met (by intros; simp)) :=
  .intro _

/-- The last second of a day, with and without an event taken first, and an input at each step of its change timer. -/
theorem witness_LineClockAdvances :
    Applies (fun h : Obligations.LineClockAdvances =>
      h.1 true false [] { s0 with clock := 86399 } met met) ∧
    Applies (fun h : Obligations.LineClockAdvances =>
      h.1 true false [.inputAccepted .run] { s0 with clock := 86399 } met met) ∧
    Applies (fun h : Obligations.LineClockAdvances =>
      h.2.1 (.valveTravelEnd 3) s0 met) ∧
    Applies (fun h : Obligations.LineClockAdvances =>
      (h.2.2 true { raw := true, acc := some true }).2.2.1 met) ∧
    Applies (fun h : Obligations.LineClockAdvances =>
      (h.2.2 true { raw := false, acc := some false }).2.2.2.1 met met) ∧
    Applies (fun h : Obligations.LineClockAdvances =>
      (h.2.2 true { raw := true, acc := some false, change := some 1 }).2.2.2.2 met met 1 met) :=
  by and_intros <;> exact .intro _

/-- UNBASED, BASED, and at the top of used; RUN accepted at the second; the roll at the second. -/
theorem witness_FiringSecondIsDelivered :
    Applies (fun h : Obligations.FiringSecondIsDelivered =>
      (h.1 true false [] (burnerIn .firing true false none) met met).imp fun _ ht => ht.2.2.2.2.1 met) ∧
    Applies (fun h : Obligations.FiringSecondIsDelivered =>
      (h.1 true false [] (basedAt 0) met met).imp fun _ ht => (ht.2.2.2.1 met).2.2.1 met) ∧
    Applies (fun h : Obligations.FiringSecondIsDelivered =>
      (h.1 true false [] (basedAt 1099511627775) met met).imp fun _ ht => (ht.2.2.2.1 met).2.2.2 met) ∧
    Applies (fun h : Obligations.FiringSecondIsDelivered =>
      h.2.1 false (runNext .starting true) met met met met) ∧
    Applies (fun h : Obligations.FiringSecondIsDelivered =>
      h.2.2.1 (runNext .firing false) met met met met) ∧
    Applies (fun h : Obligations.FiringSecondIsDelivered =>
      h.2.2.2 true false { (burnerIn .firing true false none) with clock := 86399 } met met met) :=
  by and_intros <;> exact .intro _

/-- Each row of the derived burner state, a running RESET, and a RELOAD of an image that is refused. -/
theorem witness_RestartTakesEffect :
    Applies (fun h : Obligations.RestartTakesEffect =>
      (h false true false 77 .restart (restarting .restart (burnerIn .firing false true none)) met met).imp fun _
        ht => ht.after5.after5.2.2.2.2.1 met) ∧
    Applies (fun h : Obligations.RestartTakesEffect =>
      (h false true false 77 .restart (restarting .restart (burnerIn .runout true false (some 3))) met met).imp fun
        _ ht => ht.after5.after5.after5.1 met) ∧
    Applies (fun h : Obligations.RestartTakesEffect =>
      (h false true false 77 .restart (restarting .restart (burnerIn .idle true false none)) met met).imp fun _ ht
        => ht.after5.after5.after5.2.1 met) ∧
    Applies (fun h : Obligations.RestartTakesEffect =>
      (h false true false 77 .restart (restarting .restart (burnerIn .locked true true none)) met met).imp fun _ ht
        => ht.after5.after5.after5.2.1 met) ∧
    Applies (fun h : Obligations.RestartTakesEffect =>
      (h false true false 77 .restart (restarting .restart (burnerIn .idle false false none)) met met).imp fun _ ht
        => ht.after5.after5.after5.2.2.1 met) ∧
    Applies (fun h : Obligations.RestartTakesEffect =>
      (h false true false 77 .restart (restarting .restart s0) met met).imp fun _ ht =>
        ht.after5.after5.after5.2.2.2.1 met) ∧
    Applies (fun h : Obligations.RestartTakesEffect =>
      (h false true false 77 .restart (restarting .restart (burnerIn .idle false false none)) met met).imp fun _ ht
        => ht.after5.after5.after5.2.2.2.2.1 met met met) ∧
    Applies (fun h : Obligations.RestartTakesEffect =>
      (h false true false 77 .restart (restarting .restart (burnerIn .idle false false none)) met met).imp fun _ ht
        => ht.after5.after5.after5.after5.1 met met met (.inl met)) ∧
    Applies (fun h : Obligations.RestartTakesEffect =>
      (h false true false 77 .reload (restarting .reload (recovIn .pulse (some 2))) met met).imp fun _ ht =>
        ht.after5.after5.after5.after5.2.2.2.1 met) ∧
    Applies (fun h : Obligations.RestartTakesEffect =>
      (h false true false 77 .reload (restarting .reload s0) met met).imp fun _ ht =>
        ht.after5.after5.after5.after5.2.2.2.2.1 met) ∧
    Applies (fun h : Obligations.RestartTakesEffect =>
      (h false true false 77 .restart (restarting .restart s0) met met).imp fun _ ht =>
        ht.after5.after5.after5.after5.after5.after5.2.1 met) ∧
    Applies (fun h : Obligations.RestartTakesEffect =>
      (h false true false 77 .reload (restarting .reload s0) met met).imp fun _ ht =>
        ht.after5.after5.after5.after5.after5.after5.2.2 met) :=
  by and_intros <;> exact .intro _

/-- The shortest frame and the longest. -/
theorem witness_FrameAsSentIsReceived :
    Applies (fun h : Obligations.FrameAsSentIsReceived =>
      h.1 .field (nomailFrame 12) 7 { fieldAsm := { phase := .hunt } } met met) ∧
    Applies (fun h : Obligations.FrameAsSentIsReceived =>
      h.1 .house ⟨0, 62, 0x21, 3, List.replicate 16 0xA5⟩ 7 { houseAsm := { phase := .hunt } } met met) :=
  by and_intros <;> exact .intro _

/-- Each kind of character, the length byte at 16 and 17. -/
theorem witness_CharacterIsAssembled :
    Applies (fun h : Obligations.CharacterIsAssembled =>
      (h.1 .field ⟨0xA5, false, false⟩ 7 (asm { phase := .hunt }) met met met).1 met) ∧
    Applies (fun h : Obligations.CharacterIsAssembled =>
      (h.1 .house ⟨0xA5, true, true⟩ 7 (asm { phase := .hunt }) met met met).2.1 met met) ∧
    Applies (fun h : Obligations.CharacterIsAssembled =>
      (h.1 .field ⟨0xA5, false, true⟩ 7 (asm { phase := .hunt }) met met met).2.2.1 met met met) ∧
    Applies (fun h : Obligations.CharacterIsAssembled =>
      (h.1 .field ⟨0xA4, true, true⟩ 7 (asm { phase := .hunt }) met met met).2.2.2 met met met) ∧
    Applies (fun h : Obligations.CharacterIsAssembled =>
      (h.2 .field ⟨0xA4, true, false⟩ 7 (asm { phase := .assemble, bytes := [0xA5] }) met met met).1 met met) ∧
    Applies (fun h : Obligations.CharacterIsAssembled =>
      (h.2 .house ⟨16, false, true⟩ 7 (asm { phase := .assemble, bytes := [0xA5, 0, 0, 0, 0] }) met met met).2.1
        met met) ∧
    Applies (fun h : Obligations.CharacterIsAssembled =>
      (h.2 .field ⟨17, false, true⟩ 7 (asm { phase := .assemble, bytes := [0xA5, 0, 0, 0, 0] }) met met met).2.2
        met met) :=
  by and_intros <;> exact .intro _

/-- The last character of a WAKE, good and bad, with a full queue on the house link. -/
theorem witness_EndOfAFrame :
    Applies (fun h : Obligations.EndOfAFrame =>
      (h .field ⟨54, true, true⟩ 7 (asm { phase := .assemble, expected := some 8, bytes := [0xA5, 0, 12, 2, 0, 0,
        14] }) met met met met met).1 met) ∧
    Applies (fun h : Obligations.EndOfAFrame =>
      (h .field ⟨54, true, false⟩ 7 (asm { phase := .assemble, expected := some 8, bytes := [0xA5, 0, 12, 2, 0, 0,
        14] }) met met met met met).2.1 met) ∧
    Applies (fun h : Obligations.EndOfAFrame =>
      (h .field ⟨53, false, true⟩ 7 (asm { phase := .assemble, expected := some 8, bytes := [0xA5, 0, 12, 2, 0, 0,
        14] }) met met met met met).2.2.1 met met) ∧
    Applies (fun h : Obligations.EndOfAFrame =>
      (h .field ⟨118, true, true⟩ 7 (asm { phase := .assemble, expected := some 8, bytes := [0xA5, 64, 12, 2, 0, 0,
        78] }) met met met met met).2.2.2.1 met met met) ∧
    Applies (fun h : Obligations.EndOfAFrame =>
      (h .field ⟨54, false, true⟩ 7 (asm { phase := .assemble, expected := some 8, bytes := [0xA5, 0, 12, 2, 0, 0,
        14] }) met met met met met).2.2.2.2 met met met met) ∧
    Applies (fun h : Obligations.EndOfAFrame =>
      (h .house ⟨54, false, true⟩ 7 ((asm { phase := .assemble, expected := some 8, bytes := [0xA5, 0, 12, 2, 0, 0,
        14] }).onPorts fun p => { p with houseRx := List.replicate 4 ⟨0, 0, 0, 0, []⟩ })
        met met met met met).2.2.2.2 met met met met) :=
  by and_intros <;> exact .intro _

/-- Two character times to the tick. -/
theorem witness_GapTimerPasses :
    Applies (fun h : Obligations.GapTimerPasses =>
      (h .field 88 (asm { phase := .assemble, bytes := [0xA5] }) met).1 met met) ∧
    Applies (fun h : Obligations.GapTimerPasses =>
      (h .house 22 (asm { phase := .assemble, bytes := [0xA5], bad := .parity }) met).1 met met) ∧
    Applies (fun h : Obligations.GapTimerPasses =>
      (h .house 22 (asm { phase := .skip }) met).2.1 met met) ∧
    Applies (fun h : Obligations.GapTimerPasses =>
      (h .field 22 (asm { phase := .skip }) met).2.2.2.2 met met) :=
  by and_intros <;> exact .intro _

/-- A reply behind a passed frame, three character times to the tick; a reply at its deadline. -/
theorem witness_FieldFrameBeginsOrIsLate :
    Applies (fun h : Obligations.FieldFrameBeginsOrIsLate =>
      (h.1 [passEntry] [] (nomailEntry 0 none) 132 (transmitting [passEntry, nomailEntry 0 none] s0) met met met
        met).1 met met) ∧
    Applies (fun h : Obligations.FieldFrameBeginsOrIsLate =>
      (h.1 [passEntry] [] (nomailEntry 0 none) 131 (transmitting [passEntry, nomailEntry 0 none] s0) met met met
        met).2.1 met) ∧
    Applies (fun h : Obligations.FieldFrameBeginsOrIsLate =>
      (h.1 [] [] passEntry 132 (transmitting [passEntry] s0) met met met met).1 met met) ∧
    Applies (fun h : Obligations.FieldFrameBeginsOrIsLate =>
      h.2 [] [] (nomailEntry 0 none) 1920 1920 (transmitting [nomailEntry 0 none] s0) met met met met met met) :=
  by and_intros <;> exact .intro _

/-- The first and the last character, the second and the third failed try. -/
theorem witness_EchoIsChecked :
    Applies (fun h : Obligations.EchoIsChecked =>
      (h.1 [] [] (nomailEntry 0 (some 0)) 0 0xA5 132 (.echoCheck 0xA5 false true 132) (sending 0 0)
        met met met met met met (.inl rfl)).1 met) ∧
    Applies (fun h : Obligations.EchoIsChecked =>
      (h.1 [] [] (nomailEntry 0 (some 7)) 7 ((frameBytes (nomailFrame 12)).getD 7 0) 132
        (.characterReceived .field ((frameBytes (nomailFrame 12)).getD 7 0)
          (LineChar.sent ((frameBytes (nomailFrame 12)).getD 7 0)).parity true 132) (sending 7 0)
        met met met met met met (.inr rfl)).2 met) ∧
    Applies (fun h : Obligations.EchoIsChecked =>
      (h.2 [] [] (nomailEntry 1 (some 3)) 3 (.sent 0) 132 (.characterReceived .field 0 false true 132) (sending 3 1)
        met met met met met met (.inr rfl)).1 met) ∧
    Applies (fun h : Obligations.EchoIsChecked =>
      (h.2 [] [] (nomailEntry 2 (some 3)) 3 ⟨0, true, true⟩ 132 (.echoCheck 0 true true 132) (sending 3 2)
        met met met met met met (.inl rfl)).2 met) :=
  by and_intros <;> exact .intro _

theorem witness_HouseTransmitter :
    Applies (fun h : Obligations.HouseTransmitter =>
      (h answering met).1 false) ∧
    Applies (fun h : Obligations.HouseTransmitter =>
      (h answering met).2.1 met met met (fun _ hm => by cases hm)) ∧
    Applies (fun h : Obligations.HouseTransmitter =>
      (h s0 met).2.2.1 met) ∧
    Applies (fun h : Obligations.HouseTransmitter =>
      (h (answering.onPorts fun p => { p with houseOnLine := true }) met).2.2.2 _ _ met rfl) :=
  by and_intros <;> exact .intro _

/-- 14 and 15 frames in the queue. -/
theorem witness_EventIsRaised :
    Applies (fun h : Obligations.EventIsRaised =>
      (h zoneNotice (s0.onMgmt fun m => { m with enable := 0 })).1 met) ∧
    Applies (fun h : Obligations.EventIsRaised =>
      (h zoneNotice (houseFull 14 s0)).2.1 met met) ∧
    Applies (fun h : Obligations.EventIsRaised =>
      (h zoneNotice (houseFull 15 s0)).2.2.1 met met) ∧
    Applies (fun h : Obligations.EventIsRaised =>
      (h zoneNotice s0).2.2.2 met) :=
  by and_intros <;> exact .intro _

/-- Each dropped frame, payloads of 14 and 15 bytes, the house queue at 14 and 15 frames. -/
theorem witness_ClassifierDropsOrRelaysUp :
    Applies (fun h : Obligations.ClassifierDropsOrRelaysUp =>
      (h.1 (fieldFrame 0 62 1 []) [] 9 (holding (fieldFrame 0 62 1 []) mapped) met met met).1 met) ∧
    Applies (fun h : Obligations.ClassifierDropsOrRelaysUp =>
      (h.1 (fieldFrame 0 61 1 []) [] 9 (holding (fieldFrame 0 61 1 []) mapped) met met met).2.1 met met met) ∧
    Applies (fun h : Obligations.ClassifierDropsOrRelaysUp =>
      (h.1 (fieldFrame 0 20 1 (List.replicate 15 0)) [] 9 (holding (fieldFrame 0 20 1 (List.replicate 15 0))
        (mapped.onCls fun c => { c with forwardUnlisted := true })) met met met).2.2.1 met met met met) ∧
    Applies (fun h : Obligations.ClassifierDropsOrRelaysUp =>
      ((h.1 (fieldFrame 0 50 1 []) [] 9 (holding (fieldFrame 0 50 1 []) mapped) met met met).2.2.2 met _ rfl).1 met) ∧
    Applies (fun h : Obligations.ClassifierDropsOrRelaysUp =>
      ((h.1 (fieldFrame 63 12 1 []) [] 9 (holding (fieldFrame 63 12 1 []) mapped) met met met).2.2.2 met _ rfl).2.1
        met met) ∧
    Applies (fun h : Obligations.ClassifierDropsOrRelaysUp =>
      ((h.1 (fieldFrame 5 30 1 []) [] 9 (holding (fieldFrame 5 30 1 []) mapped) met met met).2.2.2 met _ rfl).2.2.1
        met met met met) ∧
    Applies (fun h : Obligations.ClassifierDropsOrRelaysUp =>
      ((h.1 (fieldFrame 0 30 1 []) [] 9 (holding (fieldFrame 0 30 1 []) mapped) met met met).2.2.2 met _
        rfl).2.2.2.1 met met) ∧
    Applies (fun h : Obligations.ClassifierDropsOrRelaysUp =>
      ((h.1 (fieldFrame 0 40 4 [1, 2, 3]) [] 9 (holding (fieldFrame 0 40 4 [1, 2, 3]) mapped) met met met).2.2.2
        met _ rfl).2.2.2.2.1 met met met) ∧
    Applies (fun h : Obligations.ClassifierDropsOrRelaysUp =>
      ((h.1 (fieldFrame 0 12 2 [1]) [] 9 (holding (fieldFrame 0 12 2 [1]) mapped) met met met).2.2.2 met _
        rfl).after5 met met met met) ∧
    Applies (fun h : Obligations.ClassifierDropsOrRelaysUp =>
      (h.2 (fieldFrame 5 12 9 (List.replicate 14 1)) [] 9 (holding (fieldFrame 5 12 9 (List.replicate 14 1))
        (houseFull 14 mapped))
        met met met met met met (.inr ⟨_, rfl, met, met, met, met⟩)).1 met) ∧
    Applies (fun h : Obligations.ClassifierDropsOrRelaysUp =>
      (h.2 (fieldFrame 5 20 9 [1]) [] 9 (holding (fieldFrame 5 20 9 [1]) (houseFull 15 (mapped.onCls fun c => { c
        with forwardUnlisted := true })))
        met met met met met met (.inl ⟨met, met⟩)).2 met) :=
  by and_intros <;> exact .intro _

/-- Readings at and past the limits, a mode that is none. -/
theorem witness_RoomReportIsTaken :
    Applies (fun h : Obligations.RoomReportIsTaken =>
      (h.1 (fieldFrame 0 13 1 [195, 0, 200, 0, 1]) [] { valid := true, pattern := 13, mask := 63, cls := .room } 9
        (holding (fieldFrame 0 13 1 [195, 0, 200, 0, 1]) bound) met met met met met met met met met met).1 met) ∧
    Applies (fun h : Obligations.RoomReportIsTaken =>
      (h.1 roomReport [] { valid := true, pattern := 12, mask := 63, cls := .room, forwardUp := true } 9 (holding
        roomReport bound) met met met met met met met met met met).2.1 met met) ∧
    Applies (fun h : Obligations.RoomReportIsTaken =>
      ((h.1 roomReport [] { valid := true, pattern := 12, mask := 63, cls := .room, forwardUp := true } 9 (holding
        roomReport (houseFull 15 mapped)) met met met met met met met met met met).2.2 met met).2
        (no_room_up met)) ∧
    Applies (fun h : Obligations.RoomReportIsTaken =>
      ((h.1 roomReport [] { valid := true, pattern := 12, mask := 63, cls := .room, forwardUp := true } 9 (holding
        roomReport houseEndingInRoomUp) met met met met met met met met met met).2.2 met met).1 14 _ rfl
        ⟨_, rfl, met, met, met⟩ (none_after met)) ∧
    Applies (fun h : Obligations.RoomReportIsTaken =>
      (h.2 14 ⟨600, -5, 2⟩ bound).1 met) ∧
    Applies (fun h : Obligations.RoomReportIsTaken =>
      (h.2 12 ⟨-400, 301, 1⟩ bound).2 0 .one met) ∧
    Applies (fun h : Obligations.RoomReportIsTaken =>
      (h.2 12 ⟨-401, -5, 0⟩ bound).2 0 .one met) ∧
    Applies (fun h : Obligations.RoomReportIsTaken =>
      (h.2 12 ⟨601, -5, 2⟩ bound).2 0 .one met) :=
  by and_intros <;> exact .intro _

/-- The reply window to the tick, the queue at 8 frames, a TAKEN and a WAKE that meet an outstanding post, the third attempt. -/
theorem witness_WakeIsAnswered :
    Applies (fun h : Obligations.WakeIsAnswered =>
      (h.1 wakeFrame [] _ none 1926 (holding wakeFrame bound) met met met met met rfl met met met (.inl met)).1 met) ∧
    Applies (fun h : Obligations.WakeIsAnswered =>
      (h.1 wakeFrame [] _ none 1925 (holding wakeFrame (transmitting (List.replicate 8 passEntry) bound)) met met
        met met met rfl met met met (.inl met)).2.1 met met) ∧
    Applies (fun h : Obligations.WakeIsAnswered =>
      (h.1 wakeFrame [] _ none 1925 (holding wakeFrame bound) met met met met met rfl met met met (.inl met)).2.2.1
        met met met) ∧
    Applies (fun h : Obligations.WakeIsAnswered =>
      (h.1 wakeFrame [] _ none 1925 (holding wakeFrame (posted .setpoint 205 true true)) met met met met met rfl
        met met met (.inl met)).2.2.2
        [] _ [] met met rfl met met) ∧
    Applies (fun h : Obligations.WakeIsAnswered =>
      (h.1 takenFrame [] _ (some 3) 1925 (holding takenFrame (posted .notice 0x40 true true)) met met met met met
        rfl met met met (.inr met)).2.2.1 met met met) ∧
    Applies (fun h : Obligations.WakeIsAnswered =>
      (h.1 takenFrame [] _ (some 3) 1926 (holding takenFrame (posted .mode 0 true false)) met met met met met rfl
        met met met (.inr met)).1 met) ∧
    Applies (fun h : Obligations.WakeIsAnswered =>
      (h.2.1 12 (some 3) _ [] [] (posted .notice 0x40 true true) rfl met met met).1 met met) ∧
    Applies (fun h : Obligations.WakeIsAnswered =>
      (h.2.1 12 (some 3) _ [] [] (unbound (posted .mode 1 true true)) rfl met met met).2.1 met met) ∧
    Applies (fun h : Obligations.WakeIsAnswered =>
      (h.2.1 12 (some 3) _ [] [] (posted .setpoint 205 true false) rfl met met met).2.2.1 met met 0 .one met) ∧
    Applies (fun h : Obligations.WakeIsAnswered =>
      (h.2.1 12 (some 3) _ [] [] (posted .mode 0 true true) rfl met met met).2.2.2.1 met met 0 .one met) ∧
    Applies (fun h : Obligations.WakeIsAnswered =>
      (h.2.1 12 (some 4) _ [] [] (posted .mode 0 true true) rfl met met met).2.2.2.2.1 met met) ∧
    Applies (fun h : Obligations.WakeIsAnswered =>
      (h.2.1 12 none _ [] [] (mailed [⟨12, 3, .mode, 0, false, true, 0, 600, 2, true⟩]) rfl met met met).2.2.2.2.1
        met met) ∧
    Applies (fun h : Obligations.WakeIsAnswered =>
      (h.2.1 12 none _ [] [] (mailed [⟨12, 3, .mode, 0, false, true, 0, 600, 3, true⟩]) rfl met met met).after5
        met met) ∧
    Applies (fun h : Obligations.WakeIsAnswered =>
      h.2.2 12 (some 3) (posted .mode 0 false true) met) :=
  by and_intros <;> exact .intro _

/-- Refused for each row, and relayed. -/
theorem witness_PassIsRelayedDown :
    Applies (fun h : Obligations.PassIsRelayedDown =>
      h { dest := 30, tag := 7, params := [1] } mapped met) ∧
    Applies (fun h : Obligations.PassIsRelayedDown =>
      h { dest := 0, tag := 7, params := [0x21, 2] } mapped met) ∧
    Applies (fun h : Obligations.PassIsRelayedDown =>
      h { dest := 63, tag := 7, params := [0x21, 2] } (claimed mapped) met) ∧
    Applies (fun h : Obligations.PassIsRelayedDown =>
      h { dest := 12, tag := 7, params := [0x21, 2] } mapped met) ∧
    Applies (fun h : Obligations.PassIsRelayedDown =>
      h { dest := 30, tag := 7, params := [0x21, 2] } (claimed mapped) met) ∧
    Applies (fun h : Obligations.PassIsRelayedDown =>
      h { dest := 30, tag := 7, params := [0x21, 2, 3] } mapped met) :=
  by and_intros <;> exact .intro _

/-- Each pair of slots, each call. -/
theorem witness_ZoneIsEvaluated :
    Applies (fun h : Obligations.ZoneIsEvaluated =>
      (h .low 5 heldZone).1 195 170 met met met met) ∧
    Applies (fun h : Obligations.ZoneIsEvaluated =>
      (h .low 5 { heldZone with slot2 := {} }).2.1 met met) ∧
    Applies (fun h : Obligations.ZoneIsEvaluated =>
      (h .low 5 { heldZone with slot1 := {} }).2.2.1 met met) ∧
    Applies (fun h : Obligations.ZoneIsEvaluated =>
      (h .low 5 {}).2.2.2.1 met met) ∧
    Applies (fun h : Obligations.ZoneIsEvaluated =>
      (h .low 5 { heldZone with enabled := false }).after5.1 met) ∧
    Applies (fun h : Obligations.ZoneIsEvaluated =>
      (h .unknown 5 heldZone).after5.2.1 170 met met) ∧
    Applies (fun h : Obligations.ZoneIsEvaluated =>
      (h .unknown 5 { enabled := true }).after5.2.2.1 met met met met) ∧
    Applies (fun h : Obligations.ZoneIsEvaluated =>
      (h .unknown 5 { enabled := true, state := .fallbackRest }).after5.2.2.2.1 met met met) :=
  by and_intros <;> exact .intro _

/-- A zone that falls stale and starts a call, one that ends its call, one whose rank changes. -/
theorem witness_ZoneEventIsFinished :
    Applies (fun h : Obligations.ZoneEventIsFinished =>
      (h 0 id (zoned { heldZone with slot1 := {}, slot2 := {} } 0)).after5.2.2.2.2.1 4 met met) ∧
    Applies (fun h : Obligations.ZoneEventIsFinished =>
      (h 0 id (zoned { heldZone with slot1 := {}, slot2 := {} } 0)).2.2.2.2.1 met) ∧
    Applies (fun h : Obligations.ZoneEventIsFinished =>
      (h 0 (fun z => { z with enabled := false }) (zoned { heldZone with handed := some 1 }
        0)).after5.after5.1 1 met met) ∧
    Applies (fun h : Obligations.ZoneEventIsFinished =>
      (h 0 id (zoned { heldZone with handed := some 4 } 0)).after5.after5.2 4 1 met met met) :=
  by and_intros <;> exact .intro _

/-- Each limit to the second. -/
theorem witness_ZoneTimersRunOut :
    Applies (fun h : Obligations.ZoneTimersRunOut =>
      (h 0 (zoned heldZone 1800) met).1 .one 0 met met met) ∧
    Applies (fun h : Obligations.ZoneTimersRunOut =>
      (h 0 (zoned heldZone 1799) met).2.1 .one 0 met met) ∧
    Applies (fun h : Obligations.ZoneTimersRunOut =>
      (h 0 (zoned { heldZone with ovLeft := some 0, ovDur := 5 } 9) met).2.2.1 met) ∧
    Applies (fun h : Obligations.ZoneTimersRunOut =>
      (h 0 { s0 with clock := 600 } met).2.2.2.1 0 met met met met met) ∧
    Applies (fun h : Obligations.ZoneTimersRunOut =>
      (h 0 { s0 with clock := 3600 } met).2.2.2.2 0 met met met met) :=
  by and_intros <;> exact .intro _

/-- Values at and past the limits. -/
theorem witness_ZoneSettingIsWritten :
    Applies (fun h : Obligations.ZoneSettingIsWritten =>
      (h 1 2 4 0 bound met).1 met) ∧
    Applies (fun h : Obligations.ZoneSettingIsWritten =>
      (h 1 2 0 0 bound met).2.1 met) ∧
    Applies (fun h : Obligations.ZoneSettingIsWritten =>
      (h 1 0 0xFFFF 0 bound met).2.2.1 met) ∧
    Applies (fun h : Obligations.ZoneSettingIsWritten =>
      (h 1 0 51 0 bound met).2.2.2.1 met) ∧
    Applies (fun h : Obligations.ZoneSettingIsWritten =>
      (h 1 0 301 0 bound met).2.2.2.2.1 met) ∧
    Applies (fun h : Obligations.ZoneSettingIsWritten =>
      (h 1 0 1441 0 bound met).after5.1 met) ∧
    Applies (fun h : Obligations.ZoneSettingIsWritten =>
      (h 1 0 0 4 (zoned heldZone 300) met).after5.2.1 met) ∧
    Applies (fun h : Obligations.ZoneSettingIsWritten =>
      (h 1 0 0 31 { s0 with clock := 200 } met).after5.2.2.1 met) ∧
    Applies (fun h : Obligations.ZoneSettingIsWritten =>
      (h 1 0 0 2 s0 met).after5.2.2.2 met) :=
  by and_intros <;> exact .intro _

/-- Addresses 61, 62 and absent, free and held. -/
theorem witness_SlotIsWritten :
    Applies (fun h : Obligations.SlotIsWritten =>
      (h 1 0 .one 62 bound met met).1 met) ∧
    Applies (fun h : Obligations.SlotIsWritten =>
      (h 1 0 .one 0xFF (bound.onZone 0 fun z => { z with slot2 := { addr := some 13 } }) met met).2.1 met met met) ∧
    Applies (fun h : Obligations.SlotIsWritten =>
      (h 1 0 .one 0xFF bound met met).2.2.1 met met) ∧
    Applies (fun h : Obligations.SlotIsWritten =>
      (h 1 0 .one 12 bound met met).2.2.2.1 met met met) ∧
    Applies (fun h : Obligations.SlotIsWritten =>
      (h 1 0 .two 12 bound met met).2.2.2.2.1 met met met ⟨0, .one, met⟩) ∧
    Applies (fun h : Obligations.SlotIsWritten =>
      (h 1 3 .two 61 bound met met).after5.1 met met unbound61 met met) ∧
    Applies (fun h : Obligations.SlotIsWritten =>
      (h 1 0 .two 61 bound met met).after5.2 met met unbound61 met) :=
  by and_intros <;> exact .intro _

/-- A check with nothing left to swap, a swap of the lowest of two expired zones, and the three ends of the check. -/
theorem witness_SwapCheckEndsTheTurns :
    Applies (fun h : Obligations.SwapCheckEndsTheTurns =>
      (h 5 { turning with queue := [⟨4, 0, 0, 1⟩, ⟨5, 0, 0, 2⟩], turnLen := 30 } met).1.2.2 ⟨2, 1, 0, 2, 1900⟩ ⟨4,
        0, 0, 1⟩ [⟨5, 0, 0, 2⟩] met met met met) ∧
    Applies (fun h : Obligations.SwapCheckEndsTheTurns =>
      (h 5 turning met).2.1 met) ∧
    Applies (fun h : Obligations.SwapCheckEndsTheTurns =>
      (h 5 turning met).2.2.1 ⟨2, 1, 0, 2, 1900⟩ ⟨4, 2, 0, 1⟩ [] met met met met rfl met) ∧
    Applies (fun h : Obligations.SwapCheckEndsTheTurns =>
      (h 5 { turning with turnLen := 60 } met).2.2.2 (.inl met)) ∧
    Applies (fun h : Obligations.SwapCheckEndsTheTurns =>
      (h 5 { turning with queue := [] } met).2.2.2 (.inr (.inl rfl))) ∧
    Applies (fun h : Obligations.SwapCheckEndsTheTurns =>
      (h 5 { turning with queue := [⟨4, 0, 0, 1⟩] } met).2.2.2 (.inr (.inr ⟨_, _, rfl, met⟩))) :=
  by and_intros <;> exact .intro _

/-- A place free, none free, a lower, a kept and a raised limit; the calls that end and the ranks that change, the overrun to the second. -/
theorem witness_GrantsAreFilled :
    Applies (fun h : Obligations.GrantsAreFilled =>
      (h.1 5 3 2 { limit := 2, overrun := some 4, outputs := Eight.all { held := true } } met met).1 met met) ∧
    Applies (fun h : Obligations.GrantsAreFilled =>
      (h.1 5 3 2 { limit := 1, grants := [⟨1, 2, 0, 1, 0⟩] } met met).2 met) ∧
    Applies (fun h : Obligations.GrantsAreFilled =>
      (h.2.1 5 3 2 { limit := 2, turnLen := 0 }).1 met met) ∧
    Applies (fun h : Obligations.GrantsAreFilled =>
      (h.2.1 5 3 2 { turning with limit := 3 }).2.1 ⟨4, 2, 0, 1⟩ [⟨3, 2, 5, 1⟩] met rfl) ∧
    Applies (fun h : Obligations.GrantsAreFilled =>
      (h.2.1 5 3 2 { turning with limit := 2 }).2.2 met) ∧
    Applies (fun h : Obligations.GrantsAreFilled =>
      (h.2.2.1 5 { turning with limit := 1 } met met).2.2.2.1 ⟨2, 1, 0, 2, 1900⟩ met met met) ∧
    Applies (fun h : Obligations.GrantsAreFilled =>
      (h.2.2.1 5 { turning with limit := 1, grants := [⟨1, 2, 3, 1, 0⟩, ⟨2, 2, 4, 2, 0⟩, ⟨3, 2, 4, 3, 0⟩] } met
        met).2.2.2.1 ⟨3, 2, 4, 3, 0⟩ met met met) ∧
    Applies (fun h : Obligations.GrantsAreFilled =>
      (h.2.2.1 5 { turning with limit := 2 } met met).2.2.2.2.1 (.inl met)) ∧
    Applies (fun h : Obligations.GrantsAreFilled =>
      (h.2.2.1 5 turning met met).after5 ⟨4, 2, 0, 1⟩ [] met rfl) ∧
    Applies (fun h : Obligations.GrantsAreFilled =>
      (h.2.2.2.2.1 5 1 { turning with queue := [] } met).1 (.inl met) met) ∧
    Applies (fun h : Obligations.GrantsAreFilled =>
      (h.2.2.2.2.1 5 4 { turning with limit := 2 } met).2.1 met met) ∧
    Applies (fun h : Obligations.GrantsAreFilled =>
      (h.2.2.2.2.1 5 1 { turning with limit := 2 } met).2.2.1 ⟨4, 2, 0, 1⟩ [] met met) ∧
    Applies (fun h : Obligations.GrantsAreFilled =>
      ((h.2.2.2.2.1 184 1 { grants := [⟨1, 2, 0, 1, 0⟩], lastFiring := some 5 } met).2.2.2 met met met).1 5 rfl met
        met) ∧
    Applies (fun h : Obligations.GrantsAreFilled =>
      ((h.2.2.2.2.1 185 1 { grants := [⟨1, 2, 0, 1, 0⟩], lastFiring := some 5 } met).2.2.2 met met met).2 (.inr
        (.inr ⟨5, rfl, met⟩))) ∧
    Applies (fun h : Obligations.GrantsAreFilled =>
      (h.after5 5 2 4 turning met).1 [⟨1, 2, 0, 1, 1800⟩] ⟨2, 1, 0, 2, 1900⟩ [] rfl rfl) ∧
    Applies (fun h : Obligations.GrantsAreFilled =>
      (h.after5 5 4 4 turning met).2 [] ⟨4, 2, 0, 1⟩ [] rfl rfl) :=
  by and_intros <;> exact .intro _

theorem witness_RotationCommandsAreTaken :
    Applies (fun h : Obligations.RotationCommandsAreTaken =>
      (h.1 1 rotating met).1 ⟨⟨1, 2, 0, 1, 1800⟩, met, met, met⟩) ∧
    Applies (fun h : Obligations.RotationCommandsAreTaken =>
      (h.1 0 rotating met).2.1 _ rfl met met) ∧
    Applies (fun h : Obligations.RotationCommandsAreTaken =>
      (h.1 1 rotating met).2.2.1 _ rfl met met) ∧
    Applies (fun h : Obligations.RotationCommandsAreTaken =>
      (h.1 1 rotating met).2.2.2 met) ∧
    Applies (fun h : Obligations.RotationCommandsAreTaken =>
      (h.2 1 0 0 rotating met).1 met) ∧
    Applies (fun h : Obligations.RotationCommandsAreTaken =>
      (h.2 1 4 0 rotating met).2.1 met) ∧
    Applies (fun h : Obligations.RotationCommandsAreTaken =>
      ((h.2 1 7 0 s0 met).2.2 met).1 7 met) ∧
    Applies (fun h : Obligations.RotationCommandsAreTaken =>
      ((h.2 1 255 0 s0 met).2.2 met).2.1 met) ∧
    Applies (fun h : Obligations.RotationCommandsAreTaken =>
      ((h.2 1 8 0 s0 met).2.2 met).2.2 met met) :=
  by and_intros <;> exact .intro _

theorem witness_DemandConditionsAreJudged :
    Applies (fun h : Obligations.DemandConditionsAreJudged =>
      (h (permitted true .idle)).1 met met) ∧
    Applies (fun h : Obligations.DemandConditionsAreJudged =>
      (h (permitted true .starting)).2.1 met met) ∧
    Applies (fun h : Obligations.DemandConditionsAreJudged =>
      (h (permitted false .starting)).2.2.1 met met met met) ∧
    Applies (fun h : Obligations.DemandConditionsAreJudged =>
      (h (permitted false .firing)).2.2.2.1 met met met met) ∧
    Applies (fun h : Obligations.DemandConditionsAreJudged =>
      (h (permitted false .idle)).2.2.2.2 met met met) :=
  by and_intros <;> exact .intro _

theorem witness_BurnerTimersRunOut :
    Applies (fun h : Obligations.BurnerTimersRunOut =>
      (h (burnerIn .starting false false (some 0)) met).1 met met) ∧
    Applies (fun h : Obligations.BurnerTimersRunOut =>
      (h (burnerIn .runout false false (some 0)) met).2.1 met met met) ∧
    Applies (fun h : Obligations.BurnerTimersRunOut =>
      (h (burnerIn .locked true true (some 0)) met).2.2.1 met met met) ∧
    Applies (fun h : Obligations.BurnerTimersRunOut =>
      (h (burnerIn .noStart false false (some 0)) met).2.2.2.1 met met) ∧
    Applies (fun h : Obligations.BurnerTimersRunOut =>
      (h (burnerIn .senseFault false false (some 0)) met).2.2.2.2.1 met met met) ∧
    Applies (fun h : Obligations.BurnerTimersRunOut =>
      (h ((runTo .senseFault true true).onBurner fun b => { b with timer := some 0 }) met).after5.1 met met met
        met met met) ∧
    Applies (fun h : Obligations.BurnerTimersRunOut =>
      (h ((burnerIn .idle false false none).onBurner fun b => { b with gap := some 0 }) met).after5.2 met) :=
  by and_intros <;> exact .intro _

/-- Each burner state, and each end of settling. -/
theorem witness_RunIsAccepted :
    Applies (fun h : Obligations.RunIsAccepted =>
      (h.1 true (runTo .idle true false) met met met met met).1 met met) ∧
    Applies (fun h : Obligations.RunIsAccepted =>
      (h.1 true (runTo .starting true false) met met met met met).2.1 met met) ∧
    Applies (fun h : Obligations.RunIsAccepted =>
      (h.1 true (runTo .firing true false) met met met met met).2.2.1 met met) ∧
    Applies (fun h : Obligations.RunIsAccepted =>
      (h.1 true (runTo .senseFault true false) met met met met met).2.2.2.1 met met) ∧
    Applies (fun h : Obligations.RunIsAccepted =>
      (h.1 false (runTo .firing false false) met met met met met).2.2.2.2.1 met met met) ∧
    Applies (fun h : Obligations.RunIsAccepted =>
      (h.1 false (runTo .runout false false) met met met met met).after5.1 met met) ∧
    Applies (fun h : Obligations.RunIsAccepted =>
      (h.1 false (runTo .locked false true) met met met met met).after5.2.1 met met) ∧
    Applies (fun h : Obligations.RunIsAccepted =>
      (h.1 false (runTo .senseFault false false) met met met met met).after5.2.2.1 met met met) ∧
    Applies (fun h : Obligations.RunIsAccepted =>
      (h.1 false (runTo .senseFault false true) met met met met met).after5.2.2.2.1 met met met) ∧
    Applies (fun h : Obligations.RunIsAccepted =>
      (h.1 false (runTo .noStart false false) met met met met met).after5.2.2.2.2 met met) ∧
    Applies (fun h : Obligations.RunIsAccepted =>
      (h.2 .run _ _ (settling .run false none) met rfl rfl (.inl met)).1 (.inr rfl)) ∧
    Applies (fun h : Obligations.RunIsAccepted =>
      (h.2 .lock _ _ (settling .lock false (some false)) met rfl rfl (.inr met)).2.1 met met) ∧
    Applies (fun h : Obligations.RunIsAccepted =>
      (h.2 .run _ _ (settling .run false (some true)) met rfl rfl (.inl met)).2.2.1 met met) ∧
    Applies (fun h : Obligations.RunIsAccepted =>
      (h.2 .lock _ _ (settling .lock true (some true)) met rfl rfl (.inr met)).2.2.2 met true met) :=
  by and_intros <;> exact .intro _

/-- Each burner state, each lockout and each lock clear. -/
theorem witness_LockIsAccepted :
    Applies (fun h : Obligations.LockIsAccepted =>
      (h.1 true (lockTo .firing true) met met met met met).1 met met) ∧
    Applies (fun h : Obligations.LockIsAccepted =>
      (h.1 true (lockIn .senseFault true true) met met met met met).2.1 met met met) ∧
    Applies (fun h : Obligations.LockIsAccepted =>
      (h.1 true (lockTo .senseFault true) met met met met met).2.2.1 met met met) ∧
    Applies (fun h : Obligations.LockIsAccepted =>
      (h.1 false (lockTo .locked false) met met met met met).2.2.2.1 met met met) ∧
    Applies (fun h : Obligations.LockIsAccepted =>
      (h.1 false (lockIn .locked false true) met met met met met).2.2.2.2.1 met met met) ∧
    Applies (fun h : Obligations.LockIsAccepted =>
      (h.1 false (lockIn .senseFault false true) met met met met met).after5.1 met met met) ∧
    Applies (fun h : Obligations.LockIsAccepted =>
      (h.1 false (lockTo .senseFault false) met met met met met).after5.2.1 met met met) ∧
    Applies (fun h : Obligations.LockIsAccepted =>
      (h.1 false (lockTo .idle false) met met met met met).after5.2.2 met met met) ∧
    Applies (fun h : Obligations.LockIsAccepted =>
      (h.2.1 false .firing (burnerIn .firing true true none) met).1 met met) ∧
    Applies (fun h : Obligations.LockIsAccepted =>
      (h.2.1 true .idle { burnerIn .idle false true none with clock := 86399 } met).2.1 met met) ∧
    Applies (fun h : Obligations.LockIsAccepted =>
      (h.2.1 false .firing (recovIn .proving none) met).2.2.1 met) ∧
    Applies (fun h : Obligations.LockIsAccepted =>
      (h.2.1 false .senseFault (recovIn .checking (some 3)) met).2.2.2 met met) ∧
    Applies (fun h : Obligations.LockIsAccepted =>
      (h.2.2 (recovIn .cooling (some 3)) met).1 (.inl rfl)) ∧
    Applies (fun h : Obligations.LockIsAccepted =>
      (h.2.2 (recovIn .hard none) met).1 met) ∧
    Applies (fun h : Obligations.LockIsAccepted =>
      (h.2.2 (recovIn .checking (some 3)) met).2.1 met) ∧
    Applies (fun h : Obligations.LockIsAccepted =>
      (h.2.2 (recovIn .proving none) met).2.2 met met) :=
  by and_intros <;> exact .intro _

/-- Values at and past the limits. -/
theorem witness_BurnerAndRecoverySettingIsWritten :
    Applies (fun h : Obligations.BurnerAndRecoverySettingIsWritten =>
      (h.1 5 true (recovIn .await none) met).1 met) ∧
    Applies (fun h : Obligations.BurnerAndRecoverySettingIsWritten =>
      (h.1 5 false s0 met).2.1 met) ∧
    Applies (fun h : Obligations.BurnerAndRecoverySettingIsWritten =>
      (h.1 5 true (recovIn .waitOil none) met).2.2 met) ∧
    Applies (fun h : Obligations.BurnerAndRecoverySettingIsWritten =>
      (h.2 5 2 0 (recovIn .waitOil none) met).1 met) ∧
    Applies (fun h : Obligations.BurnerAndRecoverySettingIsWritten =>
      (h.2 5 73 0 (recovIn .waitOil none) met).2.1 met) ∧
    Applies (fun h : Obligations.BurnerAndRecoverySettingIsWritten =>
      (h.2 5 0 59 (recovIn .proving none) met).2.2 met) :=
  by and_intros <;> exact .intro _

/-- Each row of the due check. -/
theorem witness_DueCheckDecides :
    Applies (fun h : Obligations.DueCheckDecides =>
      (h.1 (claimed (recovIn .held none))).1 met met) ∧
    Applies (fun h : Obligations.DueCheckDecides =>
      (h.1 (claimed (recovIn .due none))).2.1 met met) ∧
    Applies (fun h : Obligations.DueCheckDecides =>
      (h.1 (recovIn .waitOil none)).2.2.1 met met met) ∧
    Applies (fun h : Obligations.DueCheckDecides =>
      (h.1 (recovIn .due none)).2.2.2.1 met met met) ∧
    Applies (fun h : Obligations.DueCheckDecides =>
      (h.1 ((waiting .await none).onRecov fun r => { r with auto := false })).2.2.2.2.1 met met met met) ∧
    Applies (fun h : Obligations.DueCheckDecides =>
      (h.1 ((waiting .held none).onRecov fun r => { r with auto := false })).after5.1 met met met met) ∧
    Applies (fun h : Obligations.DueCheckDecides =>
      (h.1 ((waiting .due none).onRecov fun r => { r with spacing := some 0 })).after5.2.1 met met met met met) ∧
    Applies (fun h : Obligations.DueCheckDecides =>
      (h.1 ((waiting .cooling none).onRecov fun r => { r with spacing := some 3 })).after5.2.2.1 met met met met
        met) ∧
    Applies (fun h : Obligations.DueCheckDecides =>
      (h.1 ((waiting .hard none).onRecov fun r => { r with budget := [0, 0] })).after5.2.2.2.1 met met met met
        met met) ∧
    Applies (fun h : Obligations.DueCheckDecides =>
      (h.1 ((waiting .due none).onRecov fun r => { r with budget := [0, 0] })).after5.2.2.2.2.1 met met met met
        met met) ∧
    Applies (fun h : Obligations.DueCheckDecides =>
      (h.1 ((waiting .due none).onRecov fun r => { r with budget := [0] })).after5.after5.1 met met met met
        met met) ∧
    Applies (fun h : Obligations.DueCheckDecides =>
      (h.2 (recovIn .cooling (some 0)) met).1 met met) ∧
    Applies (fun h : Obligations.DueCheckDecides =>
      (h.2 ((waiting .due none).onRecov fun r => { r with spacing := some 0 }) met).2.1 met met) ∧
    Applies (fun h : Obligations.DueCheckDecides =>
      (h.2 ((waiting .cooling none).onRecov fun r => { r with spacing := some 0 }) met).2.2.1 met met) :=
  by and_intros <;> exact .intro _

theorem witness_PulseSequenceRuns :
    Applies (fun h : Obligations.PulseSequenceRuns =>
      (h (recovIn .pregap (some 0)) met (recovIn_lawful _ _)).1 met met) ∧
    Applies (fun h : Obligations.PulseSequenceRuns =>
      (h (recovIn .pulse (some 0)) met (recovIn_lawful _ _)).2.1 met met) ∧
    Applies (fun h : Obligations.PulseSequenceRuns =>
      (h (recovIn .postgap (some 0)) met (recovIn_lawful _ _)).2.2.1 met met met) ∧
    Applies (fun h : Obligations.PulseSequenceRuns =>
      (h ((burnerIn .idle false false none).onRecov fun r => { r with state := .postgap, timer := some 0 })
        met ⟨met, met, met⟩).2.2.2.1 met met met) ∧
    Applies (fun h : Obligations.PulseSequenceRuns =>
      (h (recovIn .checking (some 0)) met (recovIn_lawful _ _)).2.2.2.2 met met) :=
  by and_intros <;> exact .intro _

/-- The proving time to the second. -/
theorem witness_AttemptIsProvedAndClaimExpires :
    Applies (fun h : Obligations.AttemptIsProvedAndClaimExpires =>
      (h ((recovIn .proving none).onRecov fun r => { r with proving := 180 }) met).1 met met) ∧
    Applies (fun h : Obligations.AttemptIsProvedAndClaimExpires =>
      ((h proved met).1 met met).imp fun _ ht => ht.2.2.2.2 [closed] _ [] rfl rfl (by simp [closed])) ∧
    Applies (fun h : Obligations.AttemptIsProvedAndClaimExpires =>
      (h ((recovIn .proving none).onRecov fun r => { r with proving := 179 }) met).2.1 met met) ∧
    Applies (fun h : Obligations.AttemptIsProvedAndClaimExpires =>
      (h (claimed (recovIn .held none)) met).2.2 met) :=
  by and_intros <;> exact .intro _

theorem witness_ClaimsAreOperated :
    Applies (fun h : Obligations.ClaimsAreOperated =>
      (h.1 (houseReq [0x34, 0x12]) 0x34 0x12 mapped met met).1 met) ∧
    Applies (fun h : Obligations.ClaimsAreOperated =>
      (h.1 (houseReq [0x34, 0x12]) 0x34 0x12 (claimed mapped) met met).2.1 met) ∧
    Applies (fun h : Obligations.ClaimsAreOperated =>
      (h.1 (houseReq [0x34, 0x12]) 0x34 0x12 (claimed (recovIn .held none)) met met).2.2 met) ∧
    Applies (fun h : Obligations.ClaimsAreOperated =>
      (h.2 (toolReq [0x34, 0x12, 0]) 0x34 0x12 0 mapped met).1 met) ∧
    Applies (fun h : Obligations.ClaimsAreOperated =>
      (h.2 (toolReq [0x34, 0x12, 0]) 0x34 0x12 0 (claimed mapped) met).2.1 met) ∧
    Applies (fun h : Obligations.ClaimsAreOperated =>
      (h.2 (toolReq [0x34, 0x12, 0]) 0x34 0x12 0 (claimed mapped) met).2.2 met) :=
  by and_intros <;> exact .intro _

theorem witness_ResetsAreRequested :
    Applies (fun h : Obligations.ResetsAreRequested =>
      (h (houseReq []) (toolReq [0x34, 0x12, 0]) 0x34 0x12 0 (waiting .due none) met met met).1 met) ∧
    Applies (fun h : Obligations.ResetsAreRequested =>
      (h (houseReq []) (toolReq [0x34, 0x12, 0]) 0x34 0x12 0 (claimed (waiting .hard none)) met met met).2.1 met) ∧
    Applies (fun h : Obligations.ResetsAreRequested =>
      (h (houseReq []) (toolReq [0x34, 0x12, 0]) 0x34 0x12 0 (claimed (waiting .hard none)) met met met).2.2.1 met) ∧
    Applies (fun h : Obligations.ResetsAreRequested =>
      (h (houseReq []) (toolReq [0x34, 0x12, 0]) 0x34 0x12 0 (waiting .hard none) met met met).2.2.2
        (waiting_lawful _ _) met met .service) :=
  by and_intros <;> exact .intro _

theorem witness_SampleIsTimed :
    Applies (fun h : Obligations.SampleIsTimed =>
      (h (s0.onGauge fun g => { g with sampleTimer := 0, conv := .idle }) met).1 met) ∧
    Applies (fun h : Obligations.SampleIsTimed =>
      (h s0 met).2.1 met 3000) ∧
    Applies (fun h : Obligations.SampleIsTimed =>
      (h (s0.onGauge fun g => { g with reportTimer := some 0 }) met).2.2 met) :=
  by and_intros <;> exact .intro _

/-- A count below its limit, one above; the third in a row with a report due; an account due at a rise and outside one. -/
theorem witness_InvalidSampleIsTaken :
    Applies (fun h : Obligations.InvalidSampleIsTaken =>
      h 204 3000 (sampling 3000 gauged) met met) ∧
    Applies (fun h : Obligations.InvalidSampleIsTaken =>
      (h 204 3000 (sampling 3000 gauged) met met).imp fun _ hu => (hu.after5.2.1 met).1 metByKernel) ∧
    Applies (fun h : Obligations.InvalidSampleIsTaken =>
      (h 3891 3000 (sampling 3000 ((reporting 14).onGauge fun g => { g with invalidRun := 2 })) met met).imp fun _
        hu => (hu.after5.2.1 met).1 metByKernel) ∧
    Applies (fun h : Obligations.InvalidSampleIsTaken =>
      (h 204 3000 (sampling 3000 (risen.onOil fun o => { o with based := true, due := true })) met met).imp fun _
        hu => (hu.after5.2.1 met).2.1 metByKernel (.inr metByKernel)) ∧
    Applies (fun h : Obligations.InvalidSampleIsTaken =>
      (h 204 3000 (sampling 3000 marked) met met).imp fun _ hu => (hu.after5.2.1 met).2.2 974 metByKernel
        metByKernel metByKernel) :=
  by and_intros <;> exact .intro _

/-- Counts at the limits; the first sample, one out of RISING and the last of RISING; a head just below a point. -/
theorem witness_ValidSampleIsSmoothed :
    Applies (fun h : Obligations.ValidSampleIsSmoothed =>
      (h.1 3890 2800 gauged.gauge met met met met met met).after5.2.2.1 met met) ∧
    Applies (fun h : Obligations.ValidSampleIsSmoothed =>
      (h.1 205 3300 { gauged.gauge with sFlag := false, fault := true, validRun := 2 } met met met met met
        met).after5.2.1 met) ∧
    Applies (fun h : Obligations.ValidSampleIsSmoothed =>
      ((h.1 800 3000 (risingGauge 410) met met met met met met).after5.2.2.2.1 met met).2.2.2.2.1 met met) ∧
    Applies (fun h : Obligations.ValidSampleIsSmoothed =>
      ((h.1 800 3000 (risingGauge 5000) met met met met met met).after5.2.2.2.1 met met).after5 met met) ∧
    Applies (fun h : Obligations.ValidSampleIsSmoothed =>
      (h.1 800 3000 { gauged.gauge with band := .dry } met met met met met met).after5.after5.2 met) ∧
    Applies (fun h : Obligations.ValidSampleIsSmoothed =>
      h.2.1 800 3000 { s0.gauge with fault := true, validRun := 2 } met met met met (.inl met)) ∧
    Applies (fun h : Obligations.ValidSampleIsSmoothed =>
      h.2.1 800 3000 { gauged.gauge with fault := true, validRun := 1 } met met met met (.inr met)) ∧
    Applies (fun h : Obligations.ValidSampleIsSmoothed =>
      h.2.2.1 [(0, 0)] [(900, 2000)] (200, 210) (400, 700) 399 met met met) ∧
    Applies (fun h : Obligations.ValidSampleIsSmoothed =>
      h.2.2.1 [(0, 0)] [(900, 2000)] (200, 210) (400, 700) 200 met met met) ∧
    Applies (fun h : Obligations.ValidSampleIsSmoothed =>
      h.2.2.2 [(0, 0), (200, 210)] (400, 700) 400 met met) :=
  by and_intros <;> exact .intro _

/-- The first sample, the end of a rise, a loss at its threshold, a report at 14 and 15 frames, a marked reconciliation, a restore, no table. -/
theorem witness_SampleIsHandedOn :
    Applies (fun h : Obligations.SampleIsHandedOn =>
      (h.1 800 3000 (sampling 3000 gauged) met met met met met met met met met).imp fun _ hu => hu.2.2.1
        metByKernel) ∧
    Applies (fun h : Obligations.SampleIsHandedOn =>
      (h.1 800 3000 (sampling 3000 unreported) met met met met met met met met met).imp fun _ hu => hu.2.2.2.2.1
        metByKernel metByKernel) ∧
    Applies (fun h : Obligations.SampleIsHandedOn =>
      (h.1 800 3000 (sampling 3000 unreported) met met met met met met met met met).imp fun _ hu => hu.after5.1
        metByKernel) ∧
    Applies (fun h : Obligations.SampleIsHandedOn =>
      (h.1 800 3000 (sampling 3000 basedUnreported) met met met met met met met met met).imp fun _ hu =>
        hu.after5.1 metByKernel) ∧
    Applies (fun h : Obligations.SampleIsHandedOn =>
      (h.1 800 3000 (sampling 3000 (risen.onOil fun o => { o with checkpoint := some 999 })) met met met met met
        met met met met).imp fun _ hu => hu.after5.2.1 410 974 999 metByKernel metByKernel metByKernel
        metByKernel) ∧
    Applies (fun h : Obligations.SampleIsHandedOn =>
      (h.1 800 3000 (sampling 3000 risen) met met met met met met met met met).imp fun _ hu => hu.after5.2.2.1
        410 974 metByKernel metByKernel) ∧
    Applies (fun h : Obligations.SampleIsHandedOn =>
      (h.1 800 3000 (sampling 3000 (gauged.onOil fun o => { o with checkpoint := some 671 })) met met met met met
        met met met met).imp fun _ hu => hu.after5.2.2.2.1 metByKernel metByKernel metByKernel 671 metByKernel
        metByKernel metByKernel) ∧
    Applies (fun h : Obligations.SampleIsHandedOn =>
      ((h.1 800 3000 (sampling 3000 (reporting 14)) metByKernel metByKernel metByKernel metByKernel metByKernel
        metByKernel metByKernel metByKernel metByKernel).imp fun _ hu => (hu.after5.2.2.2.2.1 metByKernel
        metByKernel metByKernel metByKernel).2.2.2.1 metByKernel metByKernel)) ∧
    Applies (fun h : Obligations.SampleIsHandedOn =>
      ((h.1 800 3000 (sampling 3000 (reporting 15)) metByKernel metByKernel metByKernel metByKernel metByKernel
        metByKernel metByKernel metByKernel metByKernel).imp fun _ hu => (hu.after5.2.2.2.2.1 metByKernel
        metByKernel metByKernel metByKernel).2.2.2.2 metByKernel metByKernel)) ∧
    Applies (fun h : Obligations.SampleIsHandedOn =>
      (h.1 800 3000 (sampling 3000 marked) met met met met met met met met met).imp fun _ hu =>
        hu.after5.after5 metByKernel metByKernel metByKernel metByKernel metByKernel) ∧
    Applies (fun h : Obligations.SampleIsHandedOn =>
      (h.1 800 3000 (sampling 3000 (gauged.onGauge fun g => { g with fault := true, validRun := 2, sFlag := false
        })) met met met met met met met met met).imp fun _ hu => hu.2.2.2.2.1 metByKernel metByKernel) ∧
    Applies (fun h : Obligations.SampleIsHandedOn =>
      h.2.1 800 3000 (sampling 3000 s0) metByKernel metByKernel metByKernel metByKernel metByKernel metByKernel
        (.inl metByKernel)) ∧
    Applies (fun h : Obligations.SampleIsHandedOn =>
      h.2.1 800 3000 (sampling 3000 (s0.onGauge fun g => { g with fault := true, validRun := 2 })) metByKernel
        metByKernel metByKernel metByKernel metByKernel metByKernel (.inl metByKernel)) ∧
    Applies (fun h : Obligations.SampleIsHandedOn =>
      h.2.1 800 3000 (sampling 3000 (marked.onGauge fun g => { g with fault := true })) metByKernel metByKernel
        metByKernel metByKernel metByKernel metByKernel (.inr metByKernel)) ∧
    Applies (fun h : Obligations.SampleIsHandedOn =>
      (h.2.2 gauged).2.2.2 (.inr (.inl ⟨met, met⟩))) ∧
    Applies (fun h : Obligations.SampleIsHandedOn =>
      (h.2.2 (gauged.onGauge fun g => { g with band := .low })).1 met met) ∧
    Applies (fun h : Obligations.SampleIsHandedOn =>
      (h.2.2 (gauged.onGauge fun g => { g with band := .dry, lastBand := some .low })).2.1 met met) ∧
    Applies (fun h : Obligations.SampleIsHandedOn =>
      (h.2.2 (gauged.onGauge fun g => { g with lastBand := some .low })).2.2.1 met (.inl met)) :=
  by and_intros <;> exact .intro _

theorem witness_StrappingTableIsCommitted :
    Applies (fun h : Obligations.StrappingTableIsCommitted =>
      (h (houseReq []) (saving .body) met met).1 met met) ∧
    Applies (fun h : Obligations.StrappingTableIsCommitted =>
      ((h (houseReq []) gauged met met).2 met).1 met) ∧
    Applies (fun h : Obligations.StrappingTableIsCommitted =>
      ((h (houseReq []) (pendingTable [⟨some 0, 0⟩, ⟨none, 5⟩, ⟨some 3, 8⟩]) met met).2 met).2.1 met met) ∧
    Applies (fun h : Obligations.StrappingTableIsCommitted =>
      ((h (houseReq []) (pendingTable [⟨some 1, 0⟩, ⟨some 3, 8⟩]) met met).2 met).2.2.1 met (1, 0) [(3, 8)] met met
        met) ∧
    Applies (fun h : Obligations.StrappingTableIsCommitted =>
      ((h (houseReq []) (pendingTable [⟨some 0, 0⟩, ⟨some 3, 8⟩, ⟨some 4, 8⟩]) met met).2 met).2.2.2.1
        met [(0, 0)] (3, 8) (4, 8) [] met met met met) ∧
    Applies (fun h : Obligations.StrappingTableIsCommitted =>
      ((h (houseReq []) (pendingTable [⟨some 0, 0⟩, ⟨some 3, 8⟩, ⟨none, 9⟩]) met met).2 met).2.2.2.2 met met met
        met) :=
  by and_intros <;> exact .intro _

/-- The thresholds where they meet, the reconcile interval to the second. -/
theorem witness_GaugeSettingIsWritten :
    Applies (fun h : Obligations.GaugeSettingIsWritten =>
      (h 7 0 500 gauged met).1 met) ∧
    Applies (fun h : Obligations.GaugeSettingIsWritten =>
      (h 7 0 150 gauged met).2.1 met) ∧
    Applies (fun h : Obligations.GaugeSettingIsWritten =>
      (h 7 0 101 gauged met).2.2.1 met) ∧
    Applies (fun h : Obligations.GaugeSettingIsWritten =>
      (h 7 61 0 gauged met).2.2.2.1 met) ∧
    Applies (fun h : Obligations.GaugeSettingIsWritten =>
      (h 7 1 0 (accounted 3605) met).2.2.2.2 met) :=
  by and_intros <;> exact .intro _

theorem witness_ReconciliationAndDailyRoll :
    Applies (fun h : Obligations.ReconciliationAndDailyRoll =>
      ((h ((accounted 86405).onGauge fun g => { g with rising := true }) met).1 5 met met met met).1 met) ∧
    Applies (fun h : Obligations.ReconciliationAndDailyRoll =>
      ((h (accounted 86405) met).1 5 met met met met).2 600 met met met) ∧
    Applies (fun h : Obligations.ReconciliationAndDailyRoll =>
      (h { s0.onOil (fun o => { o with rollDue := true, today := 5 }) with clock := 86400 } met).2.1 met) ∧
    Applies (fun h : Obligations.ReconciliationAndDailyRoll =>
      (h { (s0.onOil (fun o => { o with rollDue := true, today := 5 })).onRot
        (fun r => { r with lastFiring := some 86400 }) with clock := 86400 } met).2.2 met met met met) :=
  by and_intros <;> exact .intro _

/-- Each refusal, a setpoint of 300, a post superseded, refreshed and taken, 4 and 24 posts held. -/
theorem witness_HousePostIsTaken :
    Applies (fun h : Obligations.HousePostIsTaken =>
      (h (houseReq [62, 1, 5, 0, 1, 0]) 62 1 5 0 1 0 bound met met met).1 1 met) ∧
    Applies (fun h : Obligations.HousePostIsTaken =>
      (h (houseReq [12, 1, 45, 1, 1, 0]) 12 1 45 1 1 0 bound met met met).1 2 met) ∧
    Applies (fun h : Obligations.HousePostIsTaken =>
      (h (houseReq [20, 3, 0x7F, 0, 1, 1]) 20 3 0x7F 0 1 1 bound met met met).1 0x0B met) ∧
    Applies (fun h : Obligations.HousePostIsTaken =>
      ((h (houseReq [12, 1, 44, 1, 240, 1]) 12 1 44 1 240 1 (posted .setpoint 200 true true) met met met).2 met).1
        [] ⟨12, 3, .setpoint, 200, false, true, 0, 600, 0, true⟩ [] met met met met met) ∧
    Applies (fun h : Obligations.HousePostIsTaken =>
      ((h (houseReq [12, 3, 0x40, 0, 240, 1]) 12 3 0x40 0 240 1 (posted .notice 0x40 true false) met met met).2
        met).2.1
        [] ⟨12, 3, .notice, 0x40, false, false, 0, 600, 0, true⟩ [] met met met met met met) ∧
    Applies (fun h : Obligations.HousePostIsTaken =>
      (((h (houseReq [12, 1, 205, 0, 240, 1]) 12 1 205 0 240 1 (mailed (List.replicate 4 (noticePost 12 3 0x41)))
        met met met).2 met).2.2 met).1 met) ∧
    Applies (fun h : Obligations.HousePostIsTaken =>
      (((h (houseReq [12, 1, 205, 0, 240, 1]) 12 1 205 0 240 1 (mailed (List.replicate 24 (noticePost 13 3 0x41)))
        met met met).2 met).2.2 met).2.1 met met) ∧
    Applies (fun h : Obligations.HousePostIsTaken =>
      (((h (houseReq [12, 1, 205, 0, 240, 1]) 12 1 205 0 240 1 (mailed (List.replicate 23 (noticePost 13 3 0x41)))
        met met met).2 met).2.2 met).2.2 met met) :=
  by and_intros <;> exact .intro _

/-- The expiry to the second. -/
theorem witness_PostIsWithdrawnOrExpires :
    Applies (fun h : Obligations.PostIsWithdrawnOrExpires =>
      ((h [] [] (noticePost 12 3 0x40) (mailed [noticePost 12 3 0x40]) met met).1 (houseReq [12, 3]) 12 3 met met
        met).1 met met met met) ∧
    Applies (fun h : Obligations.PostIsWithdrawnOrExpires =>
      ((h [] [] (noticePost 12 3 0x40) (mailed [noticePost 12 3 0x40]) met met).1 (houseReq [12, 4]) 12 4 met met
        met).2 met) ∧
    Applies (fun h : Obligations.PostIsWithdrawnOrExpires =>
      ((h [] [] (noticePost 12 3 0x40) { mailed [noticePost 12 3 0x40] with clock := 600 } met met).2 met).1 (.inl
        met)) ∧
    Applies (fun h : Obligations.PostIsWithdrawnOrExpires =>
      ((h [] [] (noticePost 12 3 0x40) { mailed [noticePost 12 3 0x40] with clock := 601 } met met).2 met).1 (.inr
        met)) ∧
    Applies (fun h : Obligations.PostIsWithdrawnOrExpires =>
      ((h [] [] (noticePost 12 3 0x40) { mailed [noticePost 12 3 0x40] with clock := 599 } met met).2 met).2 met
        met) :=
  by and_intros <;> exact .intro _

/-- Notices that cancel, take the place of their own code, are added, displace another, and are lost. -/
theorem witness_InternalNoticesArePosted :
    Applies (fun h : Obligations.InternalNoticesArePosted =>
      (h.1 .oilOk 9 12 (pool [internal 12 3 4 0, internal 12 4 5 1]) met).1 ⟨_, List.mem_cons_self .., met⟩) ∧
    Applies (fun h : Obligations.InternalNoticesArePosted =>
      (h.1 .oilLow 9 12 (pool [internal 12 15 4 1, internal 12 0 4 0]) met).2.1 [internal 12 15 4 1] _ [] met rfl
        met met) ∧
    Applies (fun h : Obligations.InternalNoticesArePosted =>
      (h.1 .oilLow 9 12 (pool [internal 12 15 4 1]) met).2.2.1 met met met) ∧
    Applies (fun h : Obligations.InternalNoticesArePosted =>
      (h.1 .oilLow 9 12 (pool (List.replicate 23 (noticePost 13 3 0x41) ++ [internal 13 15 4 0])) met).2.2.2.1
        (List.replicate 23 (noticePost 13 3 0x41)) _ [] met met met rfl met met met) ∧
    Applies (fun h : Obligations.InternalNoticesArePosted =>
      (h.1 .oilLow 9 12 (pool [awaited 3 5, internal 12 4 5 0, noticePost 12 5 0x41, internal 12 6 6 0])
        met).2.2.2.2.1 [awaited 3 5] _ _ met met rfl met met met met) ∧
    Applies (fun h : Obligations.InternalNoticesArePosted =>
      (h.1 .oilLow 9 12 (pool (awaited 3 5 :: List.replicate 3 (noticePost 12 5 0x41))) met).after5.1 met met
        met) ∧
    Applies (fun h : Obligations.InternalNoticesArePosted =>
      (h.1 .oilLow 9 12 (pool (List.replicate 24 (noticePost 13 3 0x41))) met).after5.2 met met met met) ∧
    Applies (fun h : Obligations.InternalNoticesArePosted =>
      h.2 .oilDry bound) :=
  by and_intros <;> exact .intro _

/-- A READ up to the end of table space, and one past it. -/
theorem witness_ReadingRequestsAnswer :
    Applies (fun h : Obligations.ReadingRequestsAnswer =>
      (h (houseReq [0xF0, 3, 16]) (toolReq [0x84, 0, 16]) 0xF0 3 16 0 0 mapped met).1 met met) ∧
    Applies (fun h : Obligations.ReadingRequestsAnswer =>
      (h (houseReq [0xF1, 3, 16]) (toolReq [0x84, 0, 16]) 0xF1 3 16 0 0 mapped met).1 met met) ∧
    Applies (fun h : Obligations.ReadingRequestsAnswer =>
      (h (houseReq []) (toolReq [0x84, 0, 16]) 0x84 0 16 0 0 mapped met).2.1 met met) ∧
    Applies (fun h : Obligations.ReadingRequestsAnswer =>
      (h (houseReq []) (toolReq [0x84, 0, 16]) 0x84 0 16 0 0 mapped met).2.2.1 met met met) ∧
    Applies (fun h : Obligations.ReadingRequestsAnswer =>
      (h (houseReq []) (toolReq [0x84, 0, 16]) 0x84 0 16 0 0 mapped met).2.2.2.1 met met) ∧
    Applies (fun h : Obligations.ReadingRequestsAnswer =>
      ((h (houseReq [0, 0]) (toolReq [0x84, 0, 16]) 0 0 0 0 0 mapped met).2.2.2.2 met met).1 met met) ∧
    Applies (fun h : Obligations.ReadingRequestsAnswer =>
      ((h (houseReq [0, 0]) (toolReq [0x84, 0, 16]) 0 0 0 0 0 listed met).2.2.2.2 met met).2.1 _ met rfl) ∧
    Applies (fun h : Obligations.ReadingRequestsAnswer =>
      ((h (houseReq [1, 0]) (toolReq [0x84, 0, 16]) 0 0 0 1 0 mapped met).2.2.2.2 met met).2.2.1 met met) ∧
    Applies (fun h : Obligations.ReadingRequestsAnswer =>
      ((h (houseReq [1, 0]) (toolReq [0x84, 0, 16]) 0 0 0 1 0 listed met).2.2.2.2 met met).2.2.2.1 _ met rfl) ∧
    Applies (fun h : Obligations.ReadingRequestsAnswer =>
      ((h (houseReq [1, 1]) (toolReq [0x84, 0, 16]) 0 0 0 1 1 listed met).2.2.2.2 met met).2.2.2.1 _ met rfl) ∧
    Applies (fun h : Obligations.ReadingRequestsAnswer =>
      ((h (houseReq [2, 0]) (toolReq [0x84, 0, 16]) 0 0 0 2 0 mapped met).2.2.2.2 met met).2.2.2.2.1 met met) ∧
    Applies (fun h : Obligations.ReadingRequestsAnswer =>
      ((h (houseReq [2, 0]) (toolReq [0x84, 0, 16]) 0 0 0 2 0 listed met).2.2.2.2 met met).after5.1 _ met rfl
        met) ∧
    Applies (fun h : Obligations.ReadingRequestsAnswer =>
      ((h (houseReq [3, 0]) (toolReq [0x84, 0, 16]) 0 0 0 3 0 mapped met).2.2.2.2 met met).after5.2 met) :=
  by and_intros <;> exact .intro _

theorem witness_UnknownRequestsAreTurnedAway :
    Applies (fun h : Obligations.UnknownRequestsAreTurnedAway =>
      (h (houseReq [0x11, 3]) (toolReq [2, 1, 1, 1]) 0x11 [3] ⟨0, 62, 0x31, 0, []⟩ mapped).1 met met met met) ∧
    Applies (fun h : Obligations.UnknownRequestsAreTurnedAway =>
      (h (houseReq []) (toolReq [2, 1, 1, 1]) 0 [] ⟨0, 62, 0x31, 0, []⟩ mapped).2.1 met met met) ∧
    Applies (fun h : Obligations.UnknownRequestsAreTurnedAway =>
      (h { tag := 7, dest := 63 } (toolReq [2, 1, 1, 1]) 0 [] ⟨0, 62, 0x31, 0, []⟩ mapped).2.2.1 met met) ∧
    Applies (fun h : Obligations.UnknownRequestsAreTurnedAway =>
      (h (houseReq [0x11, 3]) (toolReq [2, 1, 1, 1]) 2 [1, 1, 1] ⟨0, 62, 0x31, 0, []⟩ mapped).2.2.2.1 met met met) ∧
    Applies (fun h : Obligations.UnknownRequestsAreTurnedAway =>
      (h (houseReq [0x11, 3]) (toolReq [2, 1, 1, 1]) 2 [1, 1, 1] ⟨0, 62, 0x31, 0, []⟩ (transmitting (List.replicate
        8 passEntry) mapped)).2.2.2.1 met met met) ∧
    Applies (fun h : Obligations.UnknownRequestsAreTurnedAway =>
      (h (houseReq [0x11, 3]) (toolReq [2, 1, 1, 1]) 2 [1, 1, 1] ⟨0, 62, 0x31, 0, []⟩ (mapped.onPorts fun p => { p
        with fde := true })).2.2.2.2.1 met met met _ (.head _)) ∧
    Applies (fun h : Obligations.UnknownRequestsAreTurnedAway =>
      (h (houseReq [0x11, 3]) (toolReq [2, 1, 1, 1]) 2 [1, 1, 1] ⟨0, 62, 0x31, 0, []⟩ mapped).after5.1 met met
        met) ∧
    Applies (fun h : Obligations.UnknownRequestsAreTurnedAway =>
      ((h (houseReq [0, 0]) (toolReq []) 0 [] ⟨0, 62, 0x31, 0, []⟩ mapped).after5.2 _ (.head _) met).2 met (.inl
        met)) ∧
    Applies (fun h : Obligations.UnknownRequestsAreTurnedAway =>
      ((h elsewhere (toolReq []) 0 [] ⟨0, 62, 0x31, 0, []⟩ mapped).after5.2 (.status elsewhere, 0x10, 0, 0)
        (by simp) met).1 met) ∧
    Applies (fun h : Obligations.UnknownRequestsAreTurnedAway =>
      ((h (houseReq [1]) (toolReq []) 0 [] ⟨0, 62, 0x31, 0, []⟩ mapped).after5.2 (.status (houseReq [1]), 0x10,
        0, 0) (by simp) met).2 met (.inr met)) :=
  by and_intros <;> exact .intro _

/-- Fields at and past their limits, the limits of the areas that take no write, the first and the last counter. -/
theorem witness_TableIsWritten :
    Applies (fun h : Obligations.TableIsWritten =>
      (h (houseReq [0xC0, 1, 19, 121]) 0 0 0 19 121 0 s0 met).1 met met met) ∧
    Applies (fun h : Obligations.TableIsWritten =>
      ((h (houseReq [1, 0, 1]) 0 1 0 1 0 0 s0 met).2.1 met met met met).2 metByKernel) ∧
    Applies (fun h : Obligations.TableIsWritten =>
      ((h (houseReq [7, 0, 1]) 0 7 0 1 0 0 s0 met).2.1 met met met met).1 metByKernel) ∧
    Applies (fun h : Obligations.TableIsWritten =>
      ((h (houseReq [0x20, 2, 1]) 0 32 2 1 0 0 s0 met).2.1 met met met met).1 metByKernel) ∧
    Applies (fun h : Obligations.TableIsWritten =>
      ((h (houseReq [0xEF, 3, 1]) 0 239 3 1 0 0 s0 met).2.1 met met met met).1 metByKernel) ∧
    Applies (fun h : Obligations.TableIsWritten =>
      ((h (houseReq [0, 4, 1]) 0 0 4 1 0 0 s0 met).2.1 met met met met).1 metByKernel) ∧
    Applies (fun h : Obligations.TableIsWritten =>
      (h (houseReq [0x84, 1, 9]) 0 0 0 9 0 0 s0 met).2.2.1 met met met) ∧
    Applies (fun h : Obligations.TableIsWritten =>
      ((h (houseReq [0x82, 1, 9]) 0 0 0 9 0 0 s0 met).2.2.2.1 met met).1 met) ∧
    Applies (fun h : Obligations.TableIsWritten =>
      ((h (houseReq [0x84, 1, 0x85, 3]) 0 0 0 133 3 0 s0 met).2.2.2.1 met met).2.1 met) ∧
    Applies (fun h : Obligations.TableIsWritten =>
      ((h (houseReq [0xC2, 1, 59, 0]) 0 0 0 59 0 0 s0 met).2.2.2.1 met met).2.2.1 met) ∧
    Applies (fun h : Obligations.TableIsWritten =>
      ((h (houseReq [0xC5, 1, 6]) 0 0 0 6 0 0 s0 met).2.2.2.1 met met).2.2.2.1 met) ∧
    Applies (fun h : Obligations.TableIsWritten =>
      ((h (houseReq [0xC7, 1, 0]) 0 0 0 0 0 0 s0 met).2.2.2.1 met met).2.2.2.2.1 met) ∧
    Applies (fun h : Obligations.TableIsWritten =>
      ((h (houseReq [0xC8, 1, 9, 7]) 0 0 0 9 7 0 s0 met).2.2.2.1 met met).after5.1 met) ∧
    Applies (fun h : Obligations.TableIsWritten =>
      ((h (houseReq [0xCA, 1, 1, 1]) 0 0 0 1 1 0 s0 met).2.2.2.1 met met).after5.2.1 met) ∧
    Applies (fun h : Obligations.TableIsWritten =>
      ((h (houseReq [0xCC, 1, 31]) 0 0 0 31 0 0 s0 met).2.2.2.1 met met).after5.2.2.1 met) ∧
    Applies (fun h : Obligations.TableIsWritten =>
      ((h (houseReq [0xCD, 1, 0]) 0 0 0 0 0 0 s0 met).2.2.2.1 met met).after5.2.2.2.1 met) ∧
    Applies (fun h : Obligations.TableIsWritten =>
      ((h (houseReq [0, 2, 9, 0]) 0 0 0 9 0 0 s0 met).2.2.2.1 met met).after5.2.2.2.2.1 met) ∧
    Applies (fun h : Obligations.TableIsWritten =>
      ((h (houseReq [2, 2, 0xE9, 3]) 0 0 0 233 3 0 s0 met).2.2.2.1 met met).after5.after5.1 met) ∧
    Applies (fun h : Obligations.TableIsWritten =>
      ((h (houseReq [4, 2, 99, 0]) 0 0 0 99 0 0 s0 met).2.2.2.1 met met).after5.after5.2.1 met) ∧
    Applies (fun h : Obligations.TableIsWritten =>
      ((h (houseReq [6, 2, 6]) 0 0 0 6 0 0 s0 met).2.2.2.1 met met).after5.after5.2.2.1 met) ∧
    Applies (fun h : Obligations.TableIsWritten =>
      ((h (houseReq [8, 2, 19, 0]) 0 0 0 19 0 0 s0 met).2.2.2.1 met met).after5.after5.2.2.2.1 met) ∧
    Applies (fun h : Obligations.TableIsWritten =>
      ((h (houseReq [0xE0, 2, 1, 1]) 0 0 0 1 1 0 s0 met).2.2.2.1 met met).after5.after5.2.2.2.2.1 met) ∧
    Applies (fun h : Obligations.TableIsWritten =>
      ((h (houseReq [0xE3, 2, 201]) 0 0 0 201 0 0 s0 met).2.2.2.1 met met).after5.after5.after5.1 met) ∧
    Applies (fun h : Obligations.TableIsWritten =>
      ((h (houseReq [0xE4, 2, 19, 0]) 0 0 0 19 0 0 s0 met).2.2.2.1 met met).after5.after5.after5.2.1 met) ∧
    Applies (fun h : Obligations.TableIsWritten =>
      ((h (houseReq [0xE6, 2, 49, 0]) 0 0 0 49 0 0 s0 met).2.2.2.1 met met).after5.after5.after5.2.2.1 met) ∧
    Applies (fun h : Obligations.TableIsWritten =>
      ((h (houseReq [0xDC, 2, 0xB9, 11]) 0 0 0 185 11 0 s0 met).2.2.2.1 met
        met).after5.after5.after5.2.2.2.1 23 met met) ∧
    Applies (fun h : Obligations.TableIsWritten =>
      ((h (houseReq [0x82, 2, 0xFF, 0xFF]) 0 0 0 255 255 0 s0 met).2.2.2.1 met
        met).after5.after5.after5.2.2.2.2 0 met met) ∧
    Applies (fun h : Obligations.TableIsWritten =>
      (h (houseReq [0x7C, 0, 7, 63, 64, 3]) 0 7 0 63 64 0 s0 met).2.2.2.2.1 met met 15 met 3 met) ∧
    Applies (fun h : Obligations.TableIsWritten =>
      ((h (houseReq []) 3 0 0 9 0 5 s0 met).after5.1 0 met met).1 met) ∧
    Applies (fun h : Obligations.TableIsWritten =>
      ((h (houseReq []) 3 0 0 9 0 0 s0 met).after5.1 39 met met).2 met) ∧
    Applies (fun h : Obligations.TableIsWritten =>
      (h (houseReq []) 3 0 0 9 0 0x1234 s0 met).after5.2.1 met met) ∧
    Applies (fun h : Obligations.TableIsWritten =>
      (h (houseReq [9, 0x80]) 3 0 0 9 0x80 0 s0 met).after5.2.2 met met) :=
  by and_intros <;> exact .intro _

theorem witness_RestartIsRequested :
    Applies (fun h : Obligations.RestartIsRequested =>
      (h (houseReq []) s0 met).1 met met) ∧
    Applies (fun h : Obligations.RestartIsRequested =>
      (h (houseReq []) s0 met).2.1 met met) ∧
    Applies (fun h : Obligations.RestartIsRequested =>
      ((h (houseReq [0, 0, 5]) (saving .mark) met).2.2 met).1 met met) ∧
    Applies (fun h : Obligations.RestartIsRequested =>
      ((h (houseReq []) (saving .mark) met).2.2 met).2.1 met met) ∧
    Applies (fun h : Obligations.RestartIsRequested =>
      ((h (houseReq []) (saving .mark) met).2.2 met).2.2.1 met met) ∧
    Applies (fun h : Obligations.RestartIsRequested =>
      ((h (houseReq []) (saving .mark) met).2.2 met).2.2.2 met met) :=
  by and_intros <;> exact .intro _

/-- Each phase. -/
theorem witness_SaveRuns :
    Applies (fun h : Obligations.SaveRuns =>
      ((h (houseReq []) s0 (show Memory.wf _ by decide)).1 met met met met).1 met) ∧
    Applies (fun h : Obligations.SaveRuns =>
      ((h (houseReq []) (s0.onStore fun t => { t with present := true }) (show Memory.wf _ by decide)).1 met met
        met met).2 met) ∧
    Applies (fun h : Obligations.SaveRuns =>
      ((h (houseReq []) (saving .mark) (show Memory.wf _ by decide)).2 _ met rfl List.length_replicate).1 rfl) ∧
    Applies (fun h : Obligations.SaveRuns =>
      ((h (houseReq []) (saving .body) (show Memory.wf _ by decide)).2 _ met rfl List.length_replicate).2.1 rfl) ∧
    Applies (fun h : Obligations.SaveRuns =>
      ((h (houseReq []) (saving .header) (show Memory.wf _ by decide)).2 _ met rfl List.length_replicate).2.2.1 rfl) ∧
    Applies (fun h : Obligations.SaveRuns =>
      ((h (houseReq []) (saving .body) (show Memory.wf _ by decide)).2 _ met rfl List.length_replicate).2.2.2 met) :=
  by and_intros <;> exact .intro _

/-- The first and the last byte of the image. -/
theorem witness_SaveEnds :
    Applies (fun h : Obligations.SaveEnds =>
      (h ⟨.readback, List.replicate 774 7⟩ [] (saving .readback) met (show Memory.wf _ by decide) rfl rfl).1 (fun _
        ⟨_, hd, _⟩ => nomatch hd)) ∧
    Applies (fun h : Obligations.SaveEnds =>
      (h ⟨.readback, List.replicate 774 7⟩ [(0, 8)] (saving .readback) met (show Memory.wf _ by decide) rfl
        rfl).2.1 0
        ⟨(0, 8), List.mem_singleton.2 rfl, rfl, by decide⟩ (fun _ _ => Nat.zero_le _)) ∧
    Applies (fun h : Obligations.SaveEnds =>
      (h ⟨.readback, List.replicate 774 7⟩ [(773, 8)] (saving .readback) met (show Memory.wf _ by decide) rfl
        rfl).2.1 773
        ⟨(773, 8), List.mem_singleton.2 rfl, rfl, by decide +kernel⟩
        (by rintro y ⟨d, hd, rfl, -⟩; rw [List.mem_singleton.1 hd]; exact Nat.le_refl _)) :=
  by and_intros <;> exact .intro _

theorem witness_SavedImageIsAccepted :
    Applies (fun h : Obligations.SavedImageIsAccepted =>
      h (List.replicate 768 0) {} List.length_replicate met met) :=
  .intro _

theorem witness_MemoryStaysCanonical :
    Applies (fun h : Obligations.MemoryStaysCanonical =>
      h s0 s0 (show Memory.wf _ by decide) rfl) :=
  .intro _

theorem witness_ClaimStaysCoherent :
    Applies (fun h : Obligations.ClaimStaysCoherent =>
      h s0 s0 (by decide : s0.recov.word = 0 ↔ s0.recov.side = .none) rfl) :=
  .intro _

theorem witness_DemandStaysLawful :
    Applies (fun h : Obligations.DemandStaysLawful =>
      h s0 s0 s0_lawful rfl) :=
  .intro _

theorem witness_QueuesStayWithinPlaces :
    Applies (fun h : Obligations.QueuesStayWithinPlaces =>
      h.1 s0 s0 ⟨met, met, met, met, met, met, met, met⟩ rfl) ∧
    Applies (fun h : Obligations.QueuesStayWithinPlaces =>
      h.2.1 s0 s0 ⟨met, met, met, met, met, met⟩ rfl) ∧
    Applies (fun h : Obligations.QueuesStayWithinPlaces =>
      h.2.2.1 s0 s0 s0_pool rfl) ∧
    Applies (fun h : Obligations.QueuesStayWithinPlaces =>
      h.2.2.2.1 s0 s0 s0_slots rfl) ∧
    Applies (fun h : Obligations.QueuesStayWithinPlaces =>
      h.2.2.2.2 s0 s0 ⟨met, met, met⟩ rfl) :=
  by and_intros <;> exact .intro _

end Sys2Proof.Tests
end

