-- ==== Sys2Proof/Proofs/ZoneEvaluation.lean ====
section
/-! The evaluation of a zone (R41, R44 to R49): one equation for each of its four outcomes, then E, M and the frame of
all of them. -/

namespace Sys2Proof.Machine

/-! ### The measured value (R41) -/

@[simp] theorem Slot.freshReading_of_fresh {t : Slot} (h : t.fresh = true) : t.freshReading = t.reading := if_pos h

@[simp] theorem Slot.freshReading_of_aged {t : Slot} (h : t.fresh = false) : t.freshReading = none := by
  simp [Slot.freshReading, h]

@[simp] theorem lowest_none_left (b : Option Int) : lowest none b = b := rfl

@[simp] theorem lowest_none_right (a : Option Int) : lowest a none = a := by cases a <;> rfl

@[simp] theorem lowest_some_some (a b : Int) : lowest (some a) (some b) = some (min a b) := rfl

/-! ### The effective setpoint (R44) -/

/-- Step 2 of R44 as one chain: OFF and DRY give the frost setpoint, whichever of the two it is. -/
theorem Zone.rawEff_eq (band : Band) (z : Zone) :
    z.rawEff band = if z.mode = .off ∨ band = .dry then z.frostSet
      else if band = .low then z.baseSet - z.economy else z.baseSet := by
  unfold Zone.rawEff
  cases z.mode <;> cases band <;> rfl

/-! ### The four outcomes of an evaluation -/

section evaluate

variable {band : Band} {now : Clock} {z : Zone}

theorem ZoneState.inFallback_iff {st : ZoneState} :
    st.inFallback = true ↔ st = .fallbackOn ∨ st = .fallbackRest := by
  simp [ZoneState.inFallback]

theorem Zone.evaluate_of_disabled (h : z.enabled = false) : z.evaluate band now = (z.refresh band).toOff := by
  simp [Zone.evaluate, h]

theorem Zone.evaluate_of_measured {m : Int} (h : z.enabled = true) (hm : z.measure = some m) :
    z.evaluate band now = (z.refresh band).judgeCalls m := by
  simp [Zone.evaluate, h, hm]

theorem Zone.evaluate_of_stays_in_fallback (h : z.enabled = true) (hm : z.measure = none)
    (hf : z.state.inFallback = true) : z.evaluate band now = z.refresh band := by
  simp [Zone.evaluate, h, hm, hf]

theorem Zone.evaluate_of_falls_back (h : z.enabled = true) (hm : z.measure = none)
    (hf : z.state.inFallback = false) : z.evaluate band now = (z.refresh band).enterFallback now := by
  simp [Zone.evaluate, h, hm, hf]

/-- An evaluation ends in one of four ways. -/
theorem Zone.evaluate_cases (band : Band) (now : Clock) (z : Zone) :
    z.evaluate band now = (z.refresh band).toOff ∨
    (∃ m, z.evaluate band now = (z.refresh band).judgeCalls m) ∨
    z.evaluate band now = z.refresh band ∨
    z.evaluate band now = (z.refresh band).enterFallback now := by
  cases enabled : z.enabled with
  | false => exact .inl (evaluate_of_disabled enabled)
  | true =>
    cases measured : z.measure with
    | some m => exact .inr (.inl ⟨m, evaluate_of_measured enabled measured⟩)
    | none =>
      cases fallback : z.state.inFallback with
      | true => exact .inr (.inr (.inl (evaluate_of_stays_in_fallback enabled measured fallback)))
      | false => exact .inr (.inr (.inr (evaluate_of_falls_back enabled measured fallback)))

/-! ### What every outcome shares -/

@[simp] theorem Zone.evaluate_eff : (z.evaluate band now).eff = z.effective band := by
  obtain h | ⟨m, h⟩ | h | h := z.evaluate_cases band now <;> rw [h] <;> rfl

@[simp] theorem Zone.evaluate_measured : (z.evaluate band now).measured = z.measure := by
  obtain h | ⟨m, h⟩ | h | h := z.evaluate_cases band now <;> rw [h] <;> rfl

/-- Beside E, M, the two calls, the state and the cycle start, an evaluation changes nothing. -/
theorem Zone.evaluate_frame :
    z.evaluate band now = { z with
      eff := (z.evaluate band now).eff
      measured := (z.evaluate band now).measured
      normalCall := (z.evaluate band now).normalCall
      frostFlag := (z.evaluate band now).frostFlag
      state := (z.evaluate band now).state
      cycleStart := (z.evaluate band now).cycleStart } := by
  obtain h | ⟨m, h⟩ | h | h := z.evaluate_cases band now <;> rw [h] <;> rfl

end evaluate

/-- Settles O20: M and E by their own equations, the calls and the state by the outcome that the premises of each
clause select, and the frame of all four outcomes. -/
theorem zoneIsEvaluated : Obligations.ZoneIsEvaluated := by
  intro band now z e base raw
  have measured : e.measured = z.measure := Zone.evaluate_measured
  refine ⟨?bothFresh, ?firstFresh, ?secondFresh, ?stale, ?setpoint, ?off, ?calls, ?entry, ?stays, Zone.evaluate_frame⟩
  case bothFresh =>
    intro a b fresh₁ fresh₂ reading₁ reading₂
    simp [measured, Zone.measure, fresh₁, fresh₂, reading₁, reading₂]
  case firstFresh =>
    intro fresh₁ aged₂
    simp [measured, Zone.measure, fresh₁, aged₂]
  case secondFresh =>
    intro aged₁ fresh₂
    simp [measured, Zone.measure, aged₁, fresh₂]
  case stale =>
    intro aged₁ aged₂
    simp [measured, Zone.measure, aged₁, aged₂]
  case setpoint =>
    have raw_eq : z.rawEff band = raw := z.rawEff_eq band
    calc e.eff = clampInt z.frostSet 300 (z.rawEff band) := Zone.evaluate_eff
      _ = clampInt z.frostSet 300 raw := by rw [raw_eq]
  case off =>
    intro disabled
    have outcome : e = (z.refresh band).toOff := Zone.evaluate_of_disabled disabled
    rw [outcome]
    exact ⟨rfl, rfl, rfl, rfl⟩
  case calls =>
    intro m enabled reading
    have outcome : e = (z.refresh band).judgeCalls m :=
      Zone.evaluate_of_measured enabled (measured.symm.trans reading)
    rw [outcome]
    exact ⟨rfl, rfl, rfl, rfl⟩
  case entry =>
    intro enabled noReading notOn notRest
    have outside : z.state.inFallback = false := by simp [ZoneState.inFallback, notOn, notRest]
    have outcome : e = (z.refresh band).enterFallback now :=
      Zone.evaluate_of_falls_back enabled (measured.symm.trans noReading) outside
    rw [outcome]
    exact ⟨rfl, rfl, rfl, rfl⟩
  case stays =>
    intro enabled noReading fallback
    have outcome : e = z.refresh band :=
      Zone.evaluate_of_stays_in_fallback enabled (measured.symm.trans noReading) (ZoneState.inFallback_iff.2 fallback)
    rw [outcome]
    exact ⟨rfl, rfl⟩

end Sys2Proof.Machine
end

section
/-! The end of a Rotation Unit event (R60, R71 to R73, R76): one lemma per row of R71's table for one output, then the
outputs of a settled Rotation Unit with its permit and PUMP, then the state after the event. -/

namespace Sys2Proof.Machine

/-! ### Eight things by their numbers -/

@[simp] theorem Eight.get_ofFn {α : Type} (f : Fin 8 → α) (i : Fin 8) : (Eight.ofFn f).get i = f i := by
  match i with
  | 0 | 1 | 2 | 3 | 4 | 5 | 6 | 7 => rfl

@[simp] theorem Eight.get_map {α β : Type} (f : α → β) (e : Eight α) (i : Fin 8) :
    (e.map f).get i = f (e.get i) := by
  match i with
  | 0 | 1 | 2 | 3 | 4 | 5 | 6 | 7 => rfl

theorem eightNumbers_any (p : Fin 8 → Bool) : eightNumbers.any p = true ↔ ∃ i, p i = true := by
  have all : ∀ i, i ∈ eightNumbers := by decide
  simp [all]

theorem Eight.toList_any {α : Type} (p : α → Bool) (e : Eight α) :
    e.toList.any p = true ↔ ∃ i, p (e.get i) = true := by
  have numbered : e.toList = eightNumbers.map e.get := rfl
  rw [numbered, List.any_map]
  exact eightNumbers_any (p ∘ e.get)

/-! ### One output (R70 to R72) -/

theorem Output.relay_iff {o : Output} : o.relay = true ↔ o.state = .opening ∨ o.state = .opened := by
  unfold Output.relay
  cases o.state <;> decide

section judgement

variable {travel : Nat} {o : Output}

theorem Output.judge_wanted_shutOrClosing (h : o.state = .shut ∨ o.state = .closing) :
    o.judge travel true = { o with state := .opening, travel := travel } := by
  obtain h | h := h <;> simp [Output.judge, Output.toOpening, h]

theorem Output.judge_wanted_openingOrOpen (h : o.state = .opening ∨ o.state = .opened) : o.judge travel true = o := by
  obtain h | h := h <;> simp [Output.judge, h]

theorem Output.judge_unwanted_opening (h : o.state = .opening) :
    o.judge travel false = { o with state := .closing, travel := travel } := by
  simp [Output.judge, Output.toClosing, h]

theorem Output.judge_unwanted_of_ne_opening (h : o.state ≠ .opening) : o.judge travel false = o := by
  cases state : o.state with
  | opening => exact absurd state h
  | shut | opened | closing => simp [Output.judge, state]

@[simp] theorem Output.judgeOpen_wanted (anyOpening : Bool) : o.judgeOpen travel true anyOpening = o := by
  simp [Output.judgeOpen]

theorem Output.judgeOpen_of_not_open (wanted anyOpening : Bool) (h : o.state ≠ .opened) :
    o.judgeOpen travel wanted anyOpening = o := by
  simp [Output.judgeOpen, h]

theorem Output.judgeOpen_stays {anyOpening : Bool} (h : o.held = true ∨ anyOpening = true) :
    o.judgeOpen travel false anyOpening = o := by
  obtain h | h := h <;> simp [Output.judgeOpen, h]

theorem Output.judgeOpen_closes (h : o.state = .opened) (free : o.held = false) :
    o.judgeOpen travel false false = { o with state := .closing, travel := travel } := by
  simp [Output.judgeOpen, Output.toClosing, h, free]

end judgement

/-! ### The settled Rotation Unit -/

section settle

variable (routes : Routes) (r : Rotation)

/-- Some wanted output is OPENING once the wanted ones are judged, so that R72 keeps the unwanted OPEN ones open. -/
def Rotation.makesBeforeBreak : Bool :=
  eightNumbers.any fun i => r.wanted routes i &&
    decide (((r.outputs.get i).judge r.travelTime (r.wanted routes i)).state = .opening)

theorem Rotation.wanted_iff (i : Fin 8) :
    r.wanted routes i = true ↔ ∃ g ∈ r.grants, routes.get g.zone = some i := by
  simp [Rotation.wanted]

theorem Rotation.settle_outputs (i : Fin 8) :
    (r.settle routes).outputs.get i =
      ((r.outputs.get i).judge r.travelTime (r.wanted routes i)).judgeOpen r.travelTime (r.wanted routes i)
        (r.makesBeforeBreak routes) := by
  simp [Rotation.settle, Rotation.setPump, Rotation.judgeOutputs, Rotation.makesBeforeBreak]

variable {routes r}

theorem Rotation.settle_outputs_wanted {i : Fin 8} (h : r.wanted routes i = true) :
    (r.settle routes).outputs.get i = (r.outputs.get i).judge r.travelTime true := by
  rw [settle_outputs, h, Output.judgeOpen_wanted]

theorem Rotation.settle_outputs_unwanted {i : Fin 8} (h : r.wanted routes i = false) :
    (r.settle routes).outputs.get i =
      ((r.outputs.get i).judge r.travelTime false).judgeOpen r.travelTime false (r.makesBeforeBreak routes) := by
  rw [settle_outputs, h]

variable (routes r)

/-- The second pass leaves the wanted outputs alone, so R72 may as well be read on the settled outputs. -/
theorem Rotation.makesBeforeBreak_iff :
    r.makesBeforeBreak routes = true ↔
      ∃ j, r.wanted routes j = true ∧ ((r.settle routes).outputs.get j).state = .opening := by
  rw [Rotation.makesBeforeBreak, eightNumbers_any]
  refine exists_congr fun j => ?_
  rw [Bool.and_eq_true, decide_eq_true_iff]
  refine and_congr_right fun wanted => ?_
  rw [settle_outputs_wanted wanted, wanted]

theorem Rotation.settle_permit :
    (r.settle routes).permit = true ↔ ∃ g ∈ r.grants, routes.get g.zone = none ∨
      ∃ i, routes.get g.zone = some i ∧ ((r.settle routes).outputs.get i).state = .opened := by
  have given : (r.settle routes).permit = (r.settle routes).permitNow routes := rfl
  rw [given, Rotation.permitNow, List.any_eq_true]
  refine exists_congr fun g => and_congr_right fun _ => ?_
  cases routes.get g.zone <;> simp

theorem Rotation.settle_pump :
    (r.settle routes).pump = true ↔
      (∃ i, ((r.settle routes).outputs.get i).state = .opening ∨ ((r.settle routes).outputs.get i).state = .opened) ∨
      (∃ g ∈ r.grants, routes.get g.zone = none) ∨ (r.bypass = true ∧ r.overrun ≠ none) := by
  have afresh : (r.settle routes).pump = (r.settle routes).pumpNow routes := rfl
  have kept : (r.settle routes).grants = r.grants ∧ (r.settle routes).bypass = r.bypass ∧
      (r.settle routes).overrun = r.overrun := ⟨rfl, rfl, rfl⟩
  rw [afresh, Rotation.pumpNow, Bool.or_eq_true, Bool.or_eq_true, Eight.toList_any, or_assoc]
  simp [kept, Output.relay_iff, Option.isSome_iff_ne_none]

end settle

/-! ### The state after the event -/

@[simp] theorem routesOf_get (s : State) (z : Fin 8) : (routesOf s).get z = (s.zone z).route := by
  simp [routesOf, State.zone]

@[simp] theorem rotationEvent_rot (f : Rotation → Rotation) (s : State) :
    (rotationEvent f s).rot = (f s.rot).settle (routesOf s) := by
  simp [rotationEvent]

/-- The demand conditions are judged exactly where the event has changed the permit (R73, R82). -/
theorem rotationEvent_eq (f : Rotation → Rotation) (s : State) :
    rotationEvent f s =
      if (rotationEvent f s).rot.permit = s.rot.permit then { s with rot := (rotationEvent f s).rot }
      else judgeDemand { s with rot := (rotationEvent f s).rot } := by
  rw [rotationEvent_rot]
  rfl

theorem judgeDemand_heatOnly (s : State) : HeatOnly s (judgeDemand s) := by
  unfold judgeDemand
  (repeat' split) <;> rfl

theorem rotationEvent_heatOnly (f : Rotation → Rotation) (s : State) : HeatOnly s (rotationEvent f s) := by
  rw [rotationEvent_eq]
  split
  · rfl
  · have judged := judgeDemand_heatOnly { s with rot := (rotationEvent f s).rot }
    rw [HeatOnly] at judged ⊢
    exact judged.trans (by simp)

/-- Settles O25: the clauses of an output by the rows of R71's table, with `makesBeforeBreak` for R72; the permit, PUMP
and the judged demand by their own lemmas. -/
theorem rotationEventSettles : Obligations.RotationEventSettles := by
  intro f s t r wanted
  have settled : r = (f s.rot).settle (routesOf s) := rotationEvent_rot f s
  have same : r.grants = (f s.rot).grants ∧ r.bypass = (f s.rot).bypass ∧ r.overrun = (f s.rot).overrun ∧
      r.travelTime = (f s.rot).travelTime := by rw [settled]; exact ⟨rfl, rfl, rfl, rfl⟩
  obtain ⟨grants, bypass, overrun, travel⟩ := same
  have wanted_iff : ∀ i, (f s.rot).wanted (routesOf s) i = true ↔ wanted i := by
    simp [Rotation.wanted_iff, wanted, grants]
  have output_wanted : ∀ i, wanted i → r.outputs.get i = ((f s.rot).outputs.get i).judge r.travelTime true := by
    intro i wants
    rw [travel, settled, Rotation.settle_outputs_wanted ((wanted_iff i).2 wants)]
  have output_unwanted : ∀ i, ¬wanted i → r.outputs.get i =
      (((f s.rot).outputs.get i).judge r.travelTime false).judgeOpen r.travelTime false
        ((f s.rot).makesBeforeBreak (routesOf s)) := by
    intro i unwanted
    rw [travel, settled, Rotation.settle_outputs_unwanted (Bool.eq_false_iff.2 (mt (wanted_iff i).1 unwanted))]
  have opening : (f s.rot).makesBeforeBreak (routesOf s) = true ↔
      ∃ j, wanted j ∧ (r.outputs.get j).state = .opening := by
    simp only [Rotation.makesBeforeBreak_iff, wanted_iff, ← settled]
  refine ⟨grants, by rw [settled]; rfl, by rw [settled]; rfl, overrun, ?outputs, ?permit, ?pump, ?relays,
    rotationEvent_eq f s, by simp [t], rotationEvent_heatOnly f s⟩
  case outputs =>
    intro i o
    refine ⟨?opens, ?staysWanted, ?staysShut, ?reverses, ?staysOpen, ?closes⟩
    case opens =>
      intro wants shut
      rw [output_wanted i wants, Output.judge_wanted_shutOrClosing shut]
    case staysWanted =>
      intro wants opens
      rw [output_wanted i wants, Output.judge_wanted_openingOrOpen opens]
    case staysShut =>
      intro unwanted shut
      have notOpening : o.state ≠ .opening := by obtain h | h := shut <;> simp [h]
      have notOpen : o.state ≠ .opened := by obtain h | h := shut <;> simp [h]
      rw [output_unwanted i unwanted, Output.judge_unwanted_of_ne_opening notOpening,
        Output.judgeOpen_of_not_open _ _ notOpen]
    case reverses =>
      intro unwanted moving
      rw [output_unwanted i unwanted, Output.judge_unwanted_opening moving]
      exact Output.judgeOpen_of_not_open _ _ (by simp)
    case staysOpen =>
      intro unwanted isOpen kept
      have notOpening : o.state ≠ .opening := by simp [isOpen]
      rw [output_unwanted i unwanted, Output.judge_unwanted_of_ne_opening notOpening]
      exact Output.judgeOpen_stays (kept.imp_right opening.2)
    case closes =>
      intro unwanted isOpen free noneOpening
      have notOpening : o.state ≠ .opening := by simp [isOpen]
      rw [output_unwanted i unwanted, Output.judge_unwanted_of_ne_opening notOpening,
        Bool.eq_false_iff.2 (mt opening.1 noneOpening), Output.judgeOpen_closes isOpen free]
  case permit =>
    rw [grants, settled]
    simpa using Rotation.settle_permit (routesOf s) (f s.rot)
  case pump =>
    rw [grants, bypass, overrun, settled]
    simpa using Rotation.settle_pump (routesOf s) (f s.rot)
  case relays =>
    exact fun i => Output.relay_iff

end Sys2Proof.Machine
end

section
/-! An event and its NOTICE (R15, R173, R174): one equation for each of the three things that `raise` can do, then the
bit that stands set after all of them. -/

namespace Sys2Proof.Machine

/-! ### The bits of the attention status -/

@[simp] theorem setAttn_attn (b : AttnBit) (s : State) : (setAttn b s).mgmt.attn = s.mgmt.attn ||| b.word := rfl

@[simp] theorem loseNotice_attn (s : State) :
    (loseNotice s).mgmt.attn = s.mgmt.attn ||| AttnBit.house.word := rfl

/-- ATTN is set as soon as one enabled bit stands in the status (R15). -/
theorem State.attnPin_of_bit {b : AttnBit} {s : State} (enabled : s.mgmt.enable &&& b.word ≠ 0)
    (stands : s.mgmt.attn &&& b.word = b.word) : s.attnPin = true := by
  have common : s.mgmt.attn &&& s.mgmt.enable ≠ 0 := by
    intro clear
    apply enabled
    calc s.mgmt.enable &&& b.word
        = s.mgmt.enable &&& (s.mgmt.attn &&& b.word) := by rw [stands]
      _ = (s.mgmt.attn &&& s.mgmt.enable) &&& b.word := by
          rw [← BitVec.and_assoc, BitVec.and_comm s.mgmt.enable]
      _ = 0 := by rw [clear]; exact BitVec.zero_and
  simpa [State.attnPin] using common

/-! ### The three outcomes of an event -/

section raise

variable {n : Notice} {s : State}

/-- A NOTICE is no ANSWER, so the sixteenth place of the house transmit queue is closed to it (R13). -/
theorem Notice.houseAccepts_frame (n : Notice) (now : Clock) (s : State) :
    houseAccepts (n.frame now) s = true ↔ s.ports.houseTx.length < 15 := by
  have kind : (n.frame now).kind ≠ kindAnswer := by simp [Notice.frame, kindNotice, kindAnswer]
  simp [houseAccepts, kind]

theorem raise_of_disabled (disabled : s.mgmt.enable &&& n.bit.word = 0) : raise n s = setAttn n.bit s := if_pos disabled

theorem raise_of_accepted (enabled : s.mgmt.enable &&& n.bit.word ≠ 0) (room : s.ports.houseTx.length < 15) :
    raise n s = pushHouse { frame := n.frame s.clock } (setAttn n.bit s) := by
  rw [raise, if_neg enabled, if_pos ((n.houseAccepts_frame _ s).2 room)]

theorem raise_of_lost (enabled : s.mgmt.enable &&& n.bit.word ≠ 0) (full : 15 ≤ s.ports.houseTx.length) :
    raise n s = loseNotice (setAttn n.bit s) := by
  rw [raise, if_neg enabled, if_neg (mt (n.houseAccepts_frame _ s).1 (Nat.not_lt.2 full))]

/-- Whatever becomes of its NOTICE, the bit of an event stands set (R173, R174). -/
theorem raise_sets_bit (n : Notice) (s : State) : (raise n s).mgmt.attn &&& n.bit.word = n.bit.word := by
  have absorb : ∀ a w : BitVec 16, (a ||| w) &&& w = w := by
    intro a w
    ext i
    cases h : w[i] <;> simp [h]
  by_cases enabled : s.mgmt.enable &&& n.bit.word = 0
  · rw [raise_of_disabled enabled]
    exact absorb _ _
  · obtain room | full := Nat.lt_or_ge s.ports.houseTx.length 15
    · rw [raise_of_accepted enabled room]
      exact absorb _ _
    · rw [raise_of_lost enabled full, loseNotice_attn, setAttn_attn, BitVec.or_assoc,
        BitVec.or_comm n.bit.word, ← BitVec.or_assoc]
      exact absorb _ _

end raise

/-- Settles O15: the three outcomes by their own equations, ATTN by the bit that all of them leave set. -/
theorem eventIsRaised : Obligations.EventIsRaised := by
  intro n s
  refine ⟨?disabled, ?accepted, ?lost, ?pin⟩
  case disabled => exact raise_of_disabled
  case accepted => exact raise_of_accepted
  case lost => exact raise_of_lost
  case pin =>
    intro enabled
    have still : (raise n s).mgmt.enable &&& n.bit.word ≠ 0 := by simpa using enabled
    exact State.attnPin_of_bit still (raise_sets_bit n s)

end Sys2Proof.Machine
end

section
/-! The laws that every command keeps (O55 to O58): what they say of one state, block by block, and how an update of one
block keeps them. The relation `Sound` is a preorder, so that each operation of the model has one lemma: its parts are
sound, one after the other. -/

-- The proofs of this section are elaborated one after another: side by side they take more threads, each with a stack of
-- its own, than the memory of the check has room for.
set_option Elab.async false

namespace Sys2Proof.Machine

/-! ### The laws, each said of the block that it is about -/

/-- R153 of a pool. -/
structure Postbox.Lawful (b : Postbox) : Prop where
  total : b.posts.length ≤ 24
  each : ∀ d, (b.posts.filter fun p => decide (p.dest = d)).length ≤ 4
  tags : b.posts.Pairwise fun p q => p.dest = q.dest → p.tag ≠ q.tag
  single : b.posts.Pairwise fun p q => p.dest = q.dest → p.kind = q.kind → p.kind = .notice
  oldest : b.posts.Pairwise fun p q => p.dest = q.dest → q.outstanding = false
  ranges : b.tagCounter < 16 ∧ ∀ p ∈ b.posts, p.tag < 16 ∧ p.attempts ≤ 3

theorem poolLawful_iff {s : State} : PoolLawful s ↔ s.postbox.Lawful :=
  ⟨fun ⟨total, each, tags, single, oldest, ranges⟩ => ⟨total, each, tags, single, oldest, ranges⟩,
    fun ⟨total, each, tags, single, oldest, ranges⟩ => ⟨total, each, tags, single, oldest, ranges⟩⟩

/-- The slots of eight zone records (R36, R37). -/
structure SlotTable (recs : Eight Zone) : Prop where
  device : ∀ i n a, ((recs.get i).slot n).addr = some a → 1 ≤ a ∧ a ≤ 61
  once : ∀ i m j n a, ((recs.get i).slot m).addr = some a → ((recs.get j).slot n).addr = some a → i = j ∧ m = n
  behind : ∀ i, (recs.get i).slot2.addr ≠ none → (recs.get i).slot1.addr ≠ none

theorem slotsLawful_iff {s : State} : SlotsLawful s ↔ SlotTable s.zones.recs :=
  ⟨fun ⟨device, once, behind⟩ => ⟨device, once, behind⟩, fun ⟨device, once, behind⟩ => ⟨device, once, behind⟩⟩

/-- The counts of seconds of the Supervisor in their 32 bits (R93). -/
def Burner.Wide (b : Burner) : Prop := b.firingTotal ≤ secondsTop ∧ b.period ≤ secondsTop ∧ b.lastPeriod ≤ secondsTop

/-- The accounts in their widths (R139, R140). -/
def Oil.Wide (o : Oil) : Prop := o.used ≤ usedTop ∧ o.firing ≤ secondsTop ∧ o.remainder < 3600

/-- The part of `DemandLawful` that stands while a change of a demand condition has not been judged yet: the relays go with
the states, and DEMAND is energized after settling alone (R80, R82, R90). -/
structure RelaysLawful (s : State) : Prop where
  states : s.burner.demand = true ↔ s.burner.state = .starting ∨ s.burner.state = .firing
  settled : s.burner.demand = true → s.burner.settled = true
  pulse : s.burner.reset = true ↔ s.recov.state = .pulse

/-- The laws of one state but for the judgement of the demand conditions. The house transmit queue has one for each bound
from 15 up: 16 is its places (R13), and 15 is what is left of them while a request is worked (R168). -/
inductive Law where
  | memory
  | claim
  | fieldRx
  | houseRx
  | fieldTx
  | houseTx (places : Nat) (enough : 15 ≤ places)
  | recoveryLog
  | oilEvents
  | budget
  | grants
  | burnerWidths
  | oilWidths
  | pool
  | slots
  | entries
  | tables
  | relays

def Law.holds : Law → State → Prop
  | .memory, s => Memory.wf s.store.mem
  | .claim, s => s.recov.word = 0 ↔ s.recov.side = .none
  | .fieldRx, s => s.ports.fieldRx.length ≤ 4
  | .houseRx, s => s.ports.houseRx.length ≤ 4
  | .fieldTx, s => s.ports.fieldTx.length ≤ 8
  | .houseTx n _, s => s.ports.houseTx.length ≤ n
  | .recoveryLog, s => s.recov.log.length ≤ 16
  | .oilEvents, s => s.oil.events.length ≤ 16
  | .budget, s => s.recov.budget.length ≤ 5
  | .grants, s => s.rot.grants.length ≤ s.rot.limit
  | .burnerWidths, s => s.burner.Wide
  | .oilWidths, s => s.oil.Wide
  | .pool, s => s.postbox.Lawful
  | .slots, s => SlotTable s.zones.recs
  | .entries, s => s.cls.entries.length = 16
  | .tables, s => s.gauge.live.length = 24 ∧ s.gauge.pend.length = 24
  | .relays, s => RelaysLawful s

/-- `t` meets every law that `s` meets. -/
def Keeps (s t : State) : Prop := ∀ law : Law, law.holds s → law.holds t

/-- `t` meets every law that `s` meets, `DemandLawful` among them. -/
structure Sound (s t : State) : Prop where
  keeps : Keeps s t
  demand : DemandLawful s → DemandLawful t

theorem Keeps.refl (s : State) : Keeps s s := fun _ h => h

theorem Keeps.trans {s t u : State} (first : Keeps s t) (second : Keeps t u) : Keeps s u :=
  fun law h => second law (first law h)

theorem Sound.refl (s : State) : Sound s s := ⟨.refl s, id⟩

theorem Sound.trans {s t u : State} (first : Sound s t) (second : Sound t u) : Sound s u :=
  ⟨first.keeps.trans second.keeps, second.demand ∘ first.demand⟩

/-! ### The demand conditions and what they depend on (R82) -/

theorem demandConditions_iff {s : State} :
    demandConditions s = true ↔ s.rot.permit = true ∧ (s.recov.state = .none ∨ s.recov.state = .proving) ∧
      oilPermit s = true ∧ s.burner.reset = false ∧ s.burner.gap = none ∧ s.burner.settled = true ∧
      (s.burner.state = .idle ∨ s.burner.state = .starting ∨ s.burner.state = .firing) := by
  simp [demandConditions, Recovery.allowsDemand, and_assoc, or_assoc]

theorem DemandLawful.relays {s : State} (h : DemandLawful s) : RelaysLawful s where
  states := h.states
  settled on := (demandConditions_iff.1 (h.permitted on)).2.2.2.2.2.1
  pulse := h.pulse

/-- `t` has the relays, the states and what the demand conditions are judged by of `s`. -/
structure DemandAlike (s t : State) : Prop where
  demand : t.burner.demand = s.burner.demand := by rfl
  state : t.burner.state = s.burner.state := by rfl
  reset : t.burner.reset = s.burner.reset := by rfl
  gap : t.burner.gap = s.burner.gap := by rfl
  settled : t.burner.settled = s.burner.settled := by rfl
  dryStop : t.burner.dryStop = s.burner.dryStop := by rfl
  recovery : t.recov.state = s.recov.state := by rfl
  permit : t.rot.permit = s.rot.permit := by rfl
  band : t.gauge.band = s.gauge.band := by rfl

theorem DemandAlike.conditions {s t : State} (a : DemandAlike s t) : demandConditions t = demandConditions s := by
  have oil : oilPermit t = oilPermit s := by rw [oilPermit, a.band, a.dryStop]; rfl
  rw [Bool.eq_iff_iff, demandConditions_iff, demandConditions_iff, a.permit, a.recovery, oil, a.reset, a.gap, a.settled,
    a.state]

theorem DemandAlike.lawful {s t : State} (a : DemandAlike s t) (h : DemandLawful s) : DemandLawful t where
  states := by rw [a.demand, a.state]; exact h.states
  permitted := by rw [a.demand, a.conditions]; exact h.permitted
  pulse := by rw [a.reset, a.recovery]; exact h.pulse

theorem DemandAlike.relays {s t : State} (a : DemandAlike s t) (h : RelaysLawful s) : RelaysLawful t where
  states := by rw [a.demand, a.state]; exact h.states
  settled := by rw [a.demand, a.settled]; exact h.settled
  pulse := by rw [a.reset, a.recovery]; exact h.pulse

/-! ### Updates of one block -/

section blocks

variable {s : State}

theorem onMgmt_sound (f : Management → Management) (s : State) : Sound s (s.onMgmt f) where
  keeps law h := by
    cases law with
    | relays => exact DemandAlike.relays {} h
    | _ => exact h
  demand := DemandAlike.lawful {}

theorem reach_sound (t : Tick) (s : State) : Sound s (s.reach t) where
  keeps law h := by
    cases law with
    | relays => exact DemandAlike.relays {} h
    | _ => exact h
  demand := DemandAlike.lawful {}

theorem drawn_sound (s : State) : Sound s s.drawn where
  keeps law h := by
    cases law with
    | relays => exact DemandAlike.relays {} h
    | _ => exact h
  demand := DemandAlike.lawful {}

/-- The queues of the ports stay within the places that they have. -/
structure Ports.Kept (p q : Ports) : Prop where
  fieldRx : p.fieldRx.length ≤ 4 → q.fieldRx.length ≤ 4 := by exact id
  houseRx : p.houseRx.length ≤ 4 → q.houseRx.length ≤ 4 := by exact id
  fieldTx : p.fieldTx.length ≤ 8 → q.fieldTx.length ≤ 8 := by exact id
  houseTx : ∀ n, 15 ≤ n → p.houseTx.length ≤ n → q.houseTx.length ≤ n := by exact fun _ _ => id

theorem onPorts_sound {f : Ports → Ports} (kept : s.ports.Kept (f s.ports)) : Sound s (s.onPorts f) where
  keeps law h := by
    cases law with
    | fieldRx => exact kept.fieldRx h
    | houseRx => exact kept.houseRx h
    | fieldTx => exact kept.fieldTx h
    | houseTx n enough => exact kept.houseTx n enough h
    | relays => exact DemandAlike.relays {} h
    | _ => exact h
  demand := DemandAlike.lawful {}

theorem onCls_sound {f : Classifier → Classifier}
    (kept : s.cls.entries.length = 16 → (f s.cls).entries.length = 16) : Sound s (s.onCls f) where
  keeps law h := by
    cases law with
    | entries => exact kept h
    | relays => exact DemandAlike.relays {} h
    | _ => exact h
  demand := DemandAlike.lawful {}

theorem onZones_sound {f : ZoneUnit → ZoneUnit} (kept : SlotTable s.zones.recs → SlotTable (f s.zones).recs) :
    Sound s (s.onZones f) where
  keeps law h := by
    cases law with
    | slots => exact kept h
    | relays => exact DemandAlike.relays {} h
    | _ => exact h
  demand := DemandAlike.lawful {}

/-- A change of the Rotation Unit may move the permit, so that DEMAND is not lawful before it is judged. -/
theorem onRot_keeps {f : Rotation → Rotation}
    (kept : s.rot.grants.length ≤ s.rot.limit → (f s.rot).grants.length ≤ (f s.rot).limit) : Keeps s (s.onRot f) := by
  intro law h
  cases law with
  | grants => exact kept h
  | relays => exact ⟨h.states, h.settled, h.pulse⟩
  | _ => exact h

theorem onRot_sound {f : Rotation → Rotation}
    (kept : s.rot.grants.length ≤ s.rot.limit → (f s.rot).grants.length ≤ (f s.rot).limit)
    (permit : (f s.rot).permit = s.rot.permit) : Sound s (s.onRot f) where
  keeps := onRot_keeps kept
  demand := DemandAlike.lawful { permit }

/-- The records, the budget list and the claim word of the Recovery Controller keep their laws. -/
structure Recovery.Kept (r q : Recovery) : Prop where
  log : r.log.length ≤ 16 → q.log.length ≤ 16 := by exact id
  budget : r.budget.length ≤ 5 → q.budget.length ≤ 5 := by exact id
  claim : (r.word = 0 ↔ r.side = .none) → (q.word = 0 ↔ q.side = .none) := by exact id

theorem onRecov_sound {f : Recovery → Recovery} (kept : s.recov.Kept (f s.recov))
    (state : (f s.recov).state = s.recov.state) : Sound s (s.onRecov f) := by
  have alike : DemandAlike s (s.onRecov f) := { recovery := state }
  refine ⟨fun law h => ?_, alike.lawful⟩
  cases law with
  | recoveryLog => exact kept.log h
  | budget => exact kept.budget h
  | claim => exact kept.claim h
  | relays => exact alike.relays h
  | _ => exact h

/-- A change of the Tank Gauge may move the band. -/
theorem onGauge_keeps {f : Gauge → Gauge}
    (kept : s.gauge.live.length = 24 ∧ s.gauge.pend.length = 24 →
      (f s.gauge).live.length = 24 ∧ (f s.gauge).pend.length = 24) : Keeps s (s.onGauge f) := by
  intro law h
  cases law with
  | tables => exact kept h
  | relays => exact ⟨h.states, h.settled, h.pulse⟩
  | _ => exact h

theorem onGauge_sound {f : Gauge → Gauge}
    (kept : s.gauge.live.length = 24 ∧ s.gauge.pend.length = 24 →
      (f s.gauge).live.length = 24 ∧ (f s.gauge).pend.length = 24)
    (band : (f s.gauge).band = s.gauge.band) : Sound s (s.onGauge f) where
  keeps := onGauge_keeps kept
  demand := DemandAlike.lawful { band }

/-- The oil events list and the widths of the accounts keep their laws. -/
structure Oil.Kept (o q : Oil) : Prop where
  events : o.events.length ≤ 16 → q.events.length ≤ 16 := by exact id
  wide : o.Wide → q.Wide := by exact id

theorem onOil_sound {f : Oil → Oil} (kept : s.oil.Kept (f s.oil)) : Sound s (s.onOil f) where
  keeps law h := by
    cases law with
    | oilEvents => exact kept.events h
    | oilWidths => exact kept.wide h
    | relays => exact DemandAlike.relays {} h
    | _ => exact h
  demand := DemandAlike.lawful {}

theorem onPostbox_sound {f : Postbox → Postbox} (kept : s.postbox.Lawful → (f s.postbox).Lawful) :
    Sound s (s.onPostbox f) where
  keeps law h := by
    cases law with
    | pool => exact kept h
    | relays => exact DemandAlike.relays {} h
    | _ => exact h
  demand := DemandAlike.lawful {}

theorem onStore_sound {f : Store → Store} (kept : Memory.wf s.store.mem → Memory.wf (f s.store).mem) :
    Sound s (s.onStore f) where
  keeps law h := by
    cases law with
    | memory => exact kept h
    | relays => exact DemandAlike.relays {} h
    | _ => exact h
  demand := DemandAlike.lawful {}

/-- A change of the Supervisor that leaves its relays, states and settling and its reset gap, such as that of a timer. -/
theorem onBurner_sound {f : Burner → Burner} (wide : s.burner.Wide → (f s.burner).Wide)
    (demand : (f s.burner).demand = s.burner.demand) (state : (f s.burner).state = s.burner.state)
    (reset : (f s.burner).reset = s.burner.reset) (gap : (f s.burner).gap = s.burner.gap)
    (settled : (f s.burner).settled = s.burner.settled) (dryStop : (f s.burner).dryStop = s.burner.dryStop) :
    Sound s (s.onBurner f) := by
  have alike : DemandAlike s (s.onBurner f) := { demand, state, reset, gap, settled, dryStop }
  refine ⟨fun law h => ?_, alike.lawful⟩
  cases law with
  | burnerWidths => exact wide h
  | relays => exact alike.relays h
  | _ => exact h

/-- A change of the Supervisor to a state without DEMAND, the relay released: there is nothing to permit. -/
theorem onBurner_released {f : Burner → Burner} (wide : s.burner.Wide → (f s.burner).Wide)
    (demand : (f s.burner).demand = false) (state : (f s.burner).state ≠ .starting ∧ (f s.burner).state ≠ .firing)
    (reset : (f s.burner).reset = s.burner.reset) : Sound s (s.onBurner f) := by
  have states : (f s.burner).demand = true ↔ (f s.burner).state = .starting ∨ (f s.burner).state = .firing := by
    simp [demand, state.1, state.2]
  refine ⟨fun law h => ?_, fun h => ⟨states, ?_, ?_⟩⟩
  · cases law with
    | burnerWidths => exact wide h
    | relays =>
      refine ⟨states, fun on => ?_, ?_⟩
      · exact absurd (demand.symm.trans on) (by simp)
      · rw [State.onBurner_burner, reset]; exact h.pulse
    | _ => exact h
  · intro on
    exact absurd (demand.symm.trans on) (by simp)
  · rw [State.onBurner_burner, reset]; exact h.pulse

end blocks

end Sys2Proof.Machine
end

section
/-! Every operation keeps the laws: attention, Oil Accounting and the Burner Supervisor's outputs. -/

-- The proofs of this section are elaborated one after another: side by side they take more threads, each with a stack of
-- its own, than the memory of the check has room for.
set_option Elab.async false

namespace Sys2Proof.Machine

/-! ### Attention and the house transmit queue -/

theorem pushHouse_sound {e : HouseEntry} {s : State} (room : s.ports.houseTx.length < 15) : Sound s (pushHouse e s) :=
  onPorts_sound { houseTx := fun n enough _ => by rw [List.length_append, List.length_singleton]; omega }

theorem raise_sound (n : Notice) (s : State) : Sound s (raise n s) := by
  unfold raise
  split
  · exact onMgmt_sound _ _
  · split
    · rename_i room
      exact (onMgmt_sound _ _).trans (pushHouse_sound ((n.houseAccepts_frame _ s).1 room))
    · exact (onMgmt_sound _ _).trans (onMgmt_sound _ _)

theorem raiseAll_sound (ns : List Notice) (s : State) : Sound s (raiseAll ns s) := by
  induction ns generalizing s with
  | nil => exact .refl s
  | cons n ns ih => exact (raise_sound n s).trans (ih _)

/-! ### Oil Accounting -/

theorem joinBounded_length_le {α : Type} {n : Nat} {l : List α} (x : α) (pos : 0 < n) (h : l.length ≤ n) :
    (joinBounded n l x).length ≤ n := by
  unfold joinBounded
  split <;> simp <;> omega

theorem Oil.Kept.refl (o : Oil) : o.Kept o := {}

theorem Oil.Kept.trans {o p q : Oil} (first : o.Kept p) (second : p.Kept q) : o.Kept q :=
  ⟨second.events ∘ first.events, second.wide ∘ first.wide⟩

theorem Oil.addEvent_kept (e : OilEvent) (o : Oil) : o.Kept (o.addEvent e) where
  events := joinBounded_length_le e (by decide)

theorem Oil.rebase_kept (now : Clock) (v : Nat) (o : Oil) : o.Kept (o.rebase now v) where
  wide _ := ⟨Nat.zero_le _, Nat.zero_le _, Nat.succ_pos _⟩

theorem Oil.unbase_kept (o : Oil) : o.Kept o.unbase := {}

theorem Oil.burn_kept (o : Oil) : o.Kept o.burn := by
  unfold Oil.burn
  split
  · exact { wide := fun _ => ⟨Nat.min_le_left _ _, Nat.min_le_left _ _, Nat.mod_lt _ (by decide)⟩ }
  · exact {}

theorem Oil.reconcile_kept (now : Clock) (sl : Nat) (o : Oil) : o.Kept (o.reconcile now sl).1 := by
  have recorded : o.Kept (o.reconcileRecord now sl).1 := by
    unfold Oil.reconcileRecord
    split
    · exact o.addEvent_kept _
    · split
      · exact (o.addEvent_kept _).trans {}
      · exact .refl o
  exact (recorded.trans {}).trans (Oil.rebase_kept _ _ _)

theorem Oil.idleCheck_kept (now : Clock) (sl : Nat) (o : Oil) : o.Kept (o.idleCheck now sl).1 := by
  unfold Oil.idleCheck
  split
  · split
    · exact {}
    · split
      · exact (o.addEvent_kept _).trans {}
      · exact .refl o
  · exact {}

theorem Oil.sampleReport_kept (now : Clock) (valid : Bool) (sl : Option Nat) (first : Bool) (dryT : Nat) (o : Oil) :
    o.Kept (o.sampleReport now valid sl first dryT).1 := by
  unfold Oil.sampleReport
  split
  · split
    · exact {}
    · refine Oil.Kept.trans ?_ ((Oil.idleCheck_kept _ _ _).trans {})
      split
      · split
        · exact o.reconcile_kept _ _
        · exact o.rebase_kept _ _
      · exact .refl o
  · exact .refl o

theorem Oil.rise_kept (now : Clock) (before after : Nat) (o : Oil) : o.Kept (o.rise now before after).1 :=
  ((o.addEvent_kept _).trans {}).trans (Oil.rebase_kept _ _ _)

theorem Oil.roll_kept (early : Bool) (o : Oil) : o.Kept (o.roll early) := {}

section oil

variable (s : State)

theorem oilTakes_sound {f : Oil → Oil × List Notice} {s : State} (kept : s.oil.Kept (f s.oil).1) :
    Sound s (oilTakes f s) :=
  (onOil_sound kept).trans (raiseAll_sound _ _)

theorem reconcileOrMark_sound : Sound s (reconcileOrMark s) := by
  unfold reconcileOrMark
  split
  · split
    · exact onOil_sound {}
    · exact oilTakes_sound (Oil.reconcile_kept _ _ _)
  · exact onOil_sound {}

theorem reconcileAfterSample_sound : Sound s (reconcileAfterSample s) := by
  unfold reconcileAfterSample
  split
  · exact reconcileOrMark_sound s
  · exact .refl s

theorem reconcileTimerExpires_sound : Sound s (reconcileTimerExpires s) := by
  unfold reconcileTimerExpires
  split
  · exact reconcileOrMark_sound s
  · exact .refl s

theorem dailyRingRoll_sound (beforeSecond : Bool) : Sound s (dailyRingRoll beforeSecond s) := by
  unfold dailyRingRoll
  split
  · exact onOil_sound (Oil.roll_kept _ _)
  · exact .refl s

end oil

/-! ### The burner's states and relays -/

section burner

variable (s : State)

/-- The end of a FIRING period keeps the widths of the Supervisor's counts. -/
theorem Burner.endPeriod_wide {b : Burner} (wide : b.Wide) : b.endPeriod.Wide :=
  ⟨wide.1, Nat.zero_le _, wide.2.1⟩

theorem leaveFiring_sound : Sound s (leaveFiring s) :=
  (onBurner_sound Burner.endPeriod_wide rfl rfl rfl rfl rfl rfl).trans (onOil_sound {})

/-- STARTING or FIRING left for RUNOUT, IDLE or NO_START. -/
theorem toRunout_sound : Sound s (s.onBurner Burner.toRunout) :=
  onBurner_released id rfl (by simp [Burner.toRunout]) rfl

theorem toIdle_sound : Sound s (s.onBurner Burner.toIdle) :=
  onBurner_released id rfl (by simp [Burner.toIdle]) rfl

theorem RelaysLawful.lawful {s : State} (h : RelaysLawful s)
    (permitted : s.burner.demand = true → demandConditions s = true) : DemandLawful s :=
  ⟨h.states, permitted, h.pulse⟩

/-- The demand conditions still hold once DEMAND is energized in STARTING. -/
theorem demandConditions_start {s : State} (conditions : demandConditions s = true) :
    demandConditions (s.onBurner Burner.start) = true := by
  obtain ⟨permit, recovery, oil, reset, gap, settled, -⟩ := demandConditions_iff.1 conditions
  exact demandConditions_iff.2 ⟨permit, recovery, oil, reset, gap, settled, .inr (.inl rfl)⟩

theorem start_sound {s : State} (conditions : demandConditions s = true) : Sound s (s.onBurner Burner.start) := by
  have kept : RelaysLawful s → RelaysLawful (s.onBurner Burner.start) := fun h =>
    ⟨by simp [Burner.start], fun _ => (demandConditions_iff.1 conditions).2.2.2.2.2.1, h.pulse⟩
  refine ⟨fun law h => ?_, fun h => (kept h.relays).lawful fun _ => demandConditions_start conditions⟩
  cases law with
  | relays => exact kept h
  | _ => exact h

theorem judgeDemand_sound : Sound s (judgeDemand s) := by
  unfold judgeDemand
  split
  · split
    · split
      · exact start_sound ‹_›
      · exact .refl s
    · split
      · exact .refl s
      · exact toRunout_sound s
    · split
      · exact .refl s
      · exact (leaveFiring_sound s).trans (toRunout_sound _)
    · exact .refl s
  · exact .refl s

/-- The judgement brings DEMAND to what its conditions say, whatever has changed among them before. -/
theorem judgeDemand_lawful {s : State} (h : RelaysLawful s) : DemandLawful (judgeDemand s) := by
  refine ((judgeDemand_sound s).keeps .relays h).lawful ?_
  have off : s.burner.state ≠ .starting → s.burner.state ≠ .firing → s.burner.demand ≠ true := fun notStarting notFiring on =>
    (h.states.1 on).elim notStarting notFiring
  unfold judgeDemand
  split
  · split
    · rename_i idle
      split
      · exact fun _ => demandConditions_start ‹_›
      · exact fun on => absurd on (off (by simp [idle]) (by simp [idle]))
    · split
      · exact fun _ => ‹_›
      · exact fun on => by simp [Burner.toRunout] at on
    · split
      · exact fun _ => ‹_›
      · exact fun on => by simp [Burner.toRunout] at on
    · exact fun on => absurd on (off ‹_› ‹_›)
  · rename_i settling
    exact fun on => absurd (h.settled on) settling

/-- A change that keeps the laws but for the judgement is sound with the judgement behind it. -/
theorem Keeps.judged {s t : State} (kept : Keeps s t) : Sound s (judgeDemand t) where
  keeps := kept.trans (judgeDemand_sound t).keeps
  demand h := judgeDemand_lawful (kept .relays h.relays)

theorem enterIdle_sound : Sound s (enterIdle s) := (toIdle_sound s).keeps.judged

/-- FIRING is entered from STARTING, with DEMAND energized already (R83). -/
theorem enterFiring_sound {s : State} (starting : s.burner.state = .starting) : Sound s (enterFiring s) := by
  refine Sound.trans ?_ (onOil_sound {})
  have kept : RelaysLawful s → RelaysLawful (s.onBurner Burner.toFiring) := fun h =>
    ⟨by simp [Burner.toFiring, h.states, starting], h.settled, h.pulse⟩
  refine ⟨fun law h => ?_, fun h => (kept h.relays).lawful fun on => ?_⟩
  · cases law with
    | relays => exact kept h
    | burnerWidths => exact ⟨h.1, Nat.zero_le _, h.2.2⟩
    | _ => exact h
  · obtain ⟨permit, recovery, oil, reset, gap, settled, -⟩ := demandConditions_iff.1 (h.permitted on)
    exact demandConditions_iff.2 ⟨permit, recovery, oil, reset, gap, settled, .inr (.inr rfl)⟩

theorem enterSenseFault_sound (left : BurnerState) : Sound s (enterSenseFault left s) :=
  (onBurner_released id rfl (by simp) rfl).trans (raise_sound _ _)

theorem startLimitExpires_sound : Sound s (startLimitExpires s) := by
  unfold startLimitExpires
  split
  · exact onBurner_released id rfl (by simp) rfl
  · exact .refl s

/-- A timer of the Supervisor alone changes. -/
theorem burnerTimer_sound (timer : Burner → Option Nat) : Sound s (s.onBurner fun b => { b with timer := timer b }) :=
  onBurner_sound id rfl rfl rfl rfl rfl rfl

theorem runoutLimitExpires_sound : Sound s (runoutLimitExpires s) := by
  unfold runoutLimitExpires
  split
  · split
    · split
      · exact enterSenseFault_sound s _
      · exact enterIdle_sound s
    · split
      · exact enterSenseFault_sound s _
      · exact burnerTimer_sound s _
    · exact .refl s
  · exact .refl s

theorem backOffExpires_sound : Sound s (backOffExpires s) := by
  unfold backOffExpires
  split
  · exact enterIdle_sound s
  · exact .refl s

theorem clearTimerExpires_sound : Sound s (clearTimerExpires s) := by
  unfold clearTimerExpires
  split
  · split
    · exact toIdle_sound s
    · exact enterIdle_sound s
  · exact .refl s

/-- A change of the reset gap is one of demand condition 4. -/
theorem burnerGap_keeps (gap : Burner → Option Nat) : Keeps s (s.onBurner fun b => { b with gap := gap b }) := by
  intro law h
  cases law with
  | relays => exact ⟨h.states, h.settled, h.pulse⟩
  | _ => exact h

theorem resetGapEnds_sound : Sound s (resetGapEnds s) := by
  unfold resetGapEnds
  split
  · exact (burnerGap_keeps s _).judged
  · exact .refl s

end burner

end Sys2Proof.Machine
end

section
/-! Every operation keeps the laws: the Rotation Unit and the Zone Unit. -/

-- The proofs of this section are elaborated one after another: side by side they take more threads, each with a stack of
-- its own, than the memory of the check has room for.
set_option Elab.async false

namespace Sys2Proof.Machine

/-! ### The grant set within the concurrent limit (R62, R67, R69) -/

/-- The grant set within the concurrent limit. -/
def Rotation.Within (r : Rotation) : Prop := r.grants.length ≤ r.limit

section within

variable {now : Clock} {r : Rotation}

theorem Rotation.grant_within (w : Wait) (room : r.grants.length < r.limit) : (r.grant now w).Within := by
  rw [Rotation.Within, Rotation.grant, Rotation.clearOverrun, List.length_append]
  exact Nat.succ_le_of_lt room

theorem fillFrom_within (ws : List Wait) (h : r.Within) : (fillFrom now ws r).Within := by
  induction ws generalizing r with
  | nil => exact h
  | cons w ws ih =>
    unfold fillFrom
    split
    · exact ih (Rotation.grant_within w ‹_›)
    · exact h

theorem Rotation.fill_within (h : r.Within) : (r.fill now).Within := fillFrom_within _ h

/-- Of two grants the swap check takes one of them. -/
theorem swapFirst_mem (a b : Grant) : swapFirst now a b = a ∨ swapFirst now a b = b := by
  unfold swapFirst
  (repeat' split) <;> simp

theorem foldl_choice_mem {α : Type} {choose : α → α → α} (one : ∀ a b, choose a b = a ∨ choose a b = b) (l : List α) (a : α) :
    l.foldl choose a ∈ a :: l := by
  induction l generalizing a with
  | nil => simp
  | cons b l ih =>
    obtain h | h := one a b
    · rw [List.foldl_cons, h]
      obtain same | later := List.mem_cons.1 (ih a)
      · rw [same]
        exact List.mem_cons_self
      · exact List.mem_cons_of_mem _ (List.mem_cons_of_mem _ later)
    · rw [List.foldl_cons, h]
      exact List.mem_cons_of_mem _ (ih b)

theorem Rotation.candidate_mem {c : Grant} (h : r.candidate now = some c) : c ∈ r.grants ∧ r.expired c = true := by
  unfold Rotation.candidate at h
  split at h
  · simp at h
  · rename_i g gs filtered
    have taken : c ∈ r.grants.filter r.expired := by
      rw [filtered, ← Option.some.inj h]
      exact foldl_choice_mem swapFirst_mem gs g
    exact List.mem_filter.1 taken

/-- Taking the records of one granted zone out leaves fewer. -/
theorem filter_zone_length_lt {gs : List Grant} {c : Grant} (h : c ∈ gs) :
    (gs.filter fun g => decide (g.zone ≠ c.zone)).length < gs.length :=
  List.length_filter_lt_length_iff_exists.2 ⟨c, h, by simp⟩

theorem swapLoop_within (n : Nat) (h : r.Within) : (swapLoop now n r).Within := by
  induction n generalizing r with
  | zero => exact h
  | succ n ih =>
    unfold swapLoop
    split
    · rename_i c w q taken _
      split
      · refine ih (Rotation.grant_within w ?_)
        exact Nat.lt_of_lt_of_le (filter_zone_length_lt (Rotation.candidate_mem taken).1) h
      · exact h
    · exact h

theorem Rotation.swapCheck_within (h : r.Within) : (r.swapCheck now).Within := swapLoop_within _ h

/-- Of two grants a lowered limit moves out one of them. -/
theorem limitFirst_mem (a b : Grant) : limitFirst now a b = a ∨ limitFirst now a b = b := by
  unfold limitFirst
  (repeat' split) <;> simp

theorem shedLoop_within (n : Nat) (h : r.grants.length ≤ n + r.limit) : (shedLoop now n r).Within := by
  induction n generalizing r with
  | zero => simpa [Rotation.Within, shedLoop] using h
  | succ n ih =>
    unfold shedLoop
    split
    · rename_i none
      simp [Rotation.Within, none]
    · rename_i g gs some
      split
      · refine ih ?_
        have fewer := filter_zone_length_lt (some ▸ foldl_choice_mem (limitFirst_mem (now := now)) gs g)
        simp only [Rotation.join] at fewer ⊢
        omega
      · exact Nat.not_lt.1 ‹_›

theorem Rotation.applyLimit_within (r : Rotation) : (r.applyLimit now).Within :=
  Rotation.fill_within (shedLoop_within _ (Nat.le_add_right _ _))

theorem Rotation.startOfCall_within (z : Fin 8) (rank : Nat) (h : r.Within) : (r.startOfCall now z rank).Within :=
  Rotation.swapCheck_within (Rotation.fill_within h)

theorem Rotation.judgeOverrun_within (h : r.Within) : (r.judgeOverrun now).Within := by
  unfold Rotation.judgeOverrun
  split
  · exact h
  · split <;> exact h

theorem Rotation.remove_within (z : Fin 8) (h : r.Within) : (r.remove z).Within :=
  Nat.le_trans (List.length_filter_le _ _) h

theorem Rotation.endOfCall_within (z : Fin 8) (h : r.Within) : (r.endOfCall now z).Within := by
  have filled : ((r.remove z).fill now).Within := Rotation.fill_within (Rotation.remove_within z h)
  unfold Rotation.endOfCall
  refine Rotation.swapCheck_within ?_
  split
  · exact Rotation.judgeOverrun_within filled
  · exact filled

theorem Rotation.rankChange_within (z : Fin 8) (rank : Nat) (h : r.Within) : (r.rankChange now z rank).Within :=
  Rotation.swapCheck_within (by simpa [Rotation.Within] using h)

end within

/-! ### The events of the Rotation Unit -/

section rotation

variable (s : State)

theorem rotationEvent_sound {f : Rotation → Rotation} {s : State} (within : s.rot.Within → (f s.rot).Within) :
    Sound s (rotationEvent f s) := by
  have kept : Keeps s (s.onRot fun r => (f r).settle (routesOf s)) := onRot_keeps within
  unfold rotationEvent givePermit
  split
  · exact onRot_sound within ‹_›
  · exact kept.judged

theorem handOver_sound (z : Fin 8) (old new : Option Nat) : Sound s (handOver z old new s) := by
  unfold handOver
  split
  · exact rotationEvent_sound (Rotation.startOfCall_within _ _)
  · exact rotationEvent_sound (Rotation.endOfCall_within _)
  · split
    · exact .refl s
    · exact rotationEvent_sound (Rotation.rankChange_within _ _)
  · exact .refl s

theorem routeChange_sound (z : Fin 8) : Sound s (routeChange z s) := by
  unfold routeChange
  split
  · exact rotationEvent_sound id
  · exact .refl s

theorem turnExpires_sound (z : Fin 8) : Sound s (turnExpires z s) := by
  unfold turnExpires
  split
  · exact rotationEvent_sound Rotation.swapCheck_within
  · exact .refl s

theorem valveTravelEnd_sound (i : Fin 8) : Sound s (valveTravelEnd i s) := by
  unfold valveTravelEnd
  split
  · exact rotationEvent_sound id
  · exact .refl s

theorem overrunEnds_sound : Sound s (overrunEnds s) := by
  unfold overrunEnds
  split
  · exact rotationEvent_sound id
  · exact .refl s

theorem setPump_sound : Sound s (setPump s) := onRot_sound id rfl

end rotation

/-! ### One zone record -/

theorem Eight.get_set {α : Type} (e : Eight α) (i j : Fin 8) (a : α) :
    (e.set i a).get j = if j = i then a else e.get j := by
  match i with
  | 0 | 1 | 2 | 3 | 4 | 5 | 6 | 7 =>
    match j with
    | 0 | 1 | 2 | 3 | 4 | 5 | 6 | 7 => rfl

@[simp] theorem Eight.get_set_self {α : Type} (e : Eight α) (i : Fin 8) (a : α) : (e.set i a).get i = a := by
  rw [Eight.get_set, if_pos rfl]

/-- The record `y` has the slot addresses of `z`. -/
def Zone.SameSlots (z y : Zone) : Prop := y.slot1.addr = z.slot1.addr ∧ y.slot2.addr = z.slot2.addr

theorem Zone.SameSlots.slot {z y : Zone} (h : z.SameSlots y) (n : SlotNo) : (y.slot n).addr = (z.slot n).addr := by
  cases n with
  | one => exact h.1
  | two => exact h.2

theorem Zone.SameSlots.trans {x y z : Zone} (first : x.SameSlots y) (second : y.SameSlots z) : x.SameSlots z :=
  ⟨second.1.trans first.1, second.2.trans first.2⟩

theorem SlotTable.of_same {recs new : Eight Zone} (same : ∀ i, (recs.get i).SameSlots (new.get i)) (h : SlotTable recs) :
    SlotTable new where
  device i n a := by rw [(same i).slot]; exact h.device i n a
  once i m j n a := by rw [(same i).slot, (same j).slot]; exact h.once i m j n a
  behind i := by rw [(same i).1, (same i).2]; exact h.behind i

section zones

variable (s : State)

theorem onZone_sound {i : Fin 8} {f : Zone → Zone} {s : State} (same : (s.zone i).SameSlots (f (s.zone i))) :
    Sound s (s.onZone i f) := by
  refine onZones_sound (SlotTable.of_same fun j => ?_)
  rw [Eight.get_set]
  split
  · rename_i here
    rw [here]
    exact same
  · exact ⟨rfl, rfl⟩

theorem Zone.evaluate_sameSlots (band : Band) (now : Clock) (z : Zone) : z.SameSlots (z.evaluate band now) := by
  rw [Zone.evaluate_frame]
  exact ⟨rfl, rfl⟩

theorem evaluateZone_sound (i : Fin 8) : Sound s (evaluateZone i s) := by
  have attention : ∀ (old new : ZoneState) (t : State), Sound t (zoneAttention i old new t) := fun old new t => by
    unfold zoneAttention
    split
    · exact raise_sound _ _
    · exact .refl t
  have stored : Sound s (storeEvaluated i ((s.zone i).evaluate s.gauge.band s.clock) s) :=
    onZone_sound ((s.zone i).evaluate_sameSlots _ _)
  exact (stored.trans (attention _ _ _)).trans (handOver_sound _ _ _ _)

theorem zoneEvent_sound {i : Fin 8} {f : Zone → Zone} {s : State} (same : (s.zone i).SameSlots (f (s.zone i))) :
    Sound s (zoneEvent i f s) :=
  (onZone_sound same).trans (evaluateZone_sound _ i)

/-- A fold of sound steps is sound. -/
theorem foldl_sound {α : Type} {f : State → α → State} (each : ∀ s a, Sound s (f s a)) (l : List α) :
    Sound s (l.foldl f s) := by
  induction l generalizing s with
  | nil => exact .refl s
  | cons a l ih => exact (each s a).trans (ih _)

theorem evaluateAll_sound : Sound s (evaluateAll s) := foldl_sound s (fun t i => evaluateZone_sound t i) _

theorem Zone.onSlot_sameSlots {n : SlotNo} {f : Slot → Slot} (z : Zone) (same : ∀ t, (f t).addr = t.addr) :
    z.SameSlots (z.onSlot n f) := by
  cases n with
  | one => exact ⟨same _, rfl⟩
  | two => exact ⟨rfl, same _⟩

theorem Zone.takeReport_sameSlots (now : Clock) (n : SlotNo) (r : Report) (z : Zone) :
    z.SameSlots (z.takeReport now n r) := by
  have read : z.SameSlots (if r.readingValid then z.onSlot n (·.take now r.reading) else z) := by
    split
    · exact z.onSlot_sameSlots fun _ => rfl
    · exact ⟨rfl, rfl⟩
  unfold Zone.takeReport
  cases modeOfByte r.mode <;> exact read

@[simp] theorem Slot.ageOut_addr (now : Clock) (limit : Nat) (t : Slot) : (t.ageOut now limit).addr = t.addr := by
  unfold Slot.ageOut
  split <;> rfl

theorem takeReport_sound (a : Byte) (r : Report) : Sound s (takeReport a r s) := by
  unfold takeReport
  split
  · exact .refl s
  · exact (onZones_sound id).trans (zoneEvent_sound (Zone.takeReport_sameSlots _ _ _ _))

theorem zoneDelivered_sound (a : Byte) (kind : PostKind) (value : Nat) : Sound s (zoneDelivered a kind value s) := by
  unfold zoneDelivered
  split
  · exact .refl s
  · split
    · exact zoneEvent_sound ⟨rfl, rfl⟩
    · exact zoneEvent_sound ⟨rfl, rfl⟩
    · exact .refl s

theorem readingAgesOut_sound (i : Fin 8) (n : SlotNo) : Sound s (readingAgesOut i n s) := by
  unfold readingAgesOut
  split
  · exact .refl s
  · exact zoneEvent_sound (Zone.onSlot_sameSlots _ fun t => t.ageOut_addr _ _)

theorem overrideExpires_sound (i : Fin 8) : Sound s (overrideExpires i s) := by
  unfold overrideExpires
  split
  · exact zoneEvent_sound ⟨rfl, rfl⟩
  · exact .refl s

theorem fallbackPhaseChange_sound (i : Fin 8) : Sound s (fallbackPhaseChange i s) := by
  unfold fallbackPhaseChange
  split
  · refine zoneEvent_sound ?_
    unfold Zone.phaseChange
    split <;> exact ⟨rfl, rfl⟩
  · exact .refl s

end zones

end Sys2Proof.Machine
end

section
/-! Every operation keeps the laws: the pool of posts (R153). The first element that a test holds of splits a list in two,
which says at once what `find?`, `removeFirst` and `mapFirst` make of it; a pool is lawful after a post of it has been
replaced, after posts have left it, and after one has been added with a free tag. -/

-- The proofs of this section are elaborated one after another: side by side they take more threads, each with a stack of
-- its own, than the memory of the check has room for.
set_option Elab.async false

namespace Sys2Proof.Machine

/-! ### The first element that a test holds of -/

/-- `x` is the first element of `l` that `q` holds of, between `pre` and `post`. -/
structure FirstOf {α : Type} (q : α → Bool) (l pre : List α) (x : α) (post : List α) : Prop where
  split : l = pre ++ x :: post
  before : ∀ y ∈ pre, q y = false
  here : q x = true

section first

variable {α : Type} {q : α → Bool} {l pre post : List α} {x : α}

theorem firstOf_cases (q : α → Bool) (l : List α) : (∀ y ∈ l, q y = false) ∨ ∃ pre x post, FirstOf q l pre x post := by
  cases found : l.find? q with
  | none => exact .inl fun y mem => by simpa using List.find?_eq_none.1 found y mem
  | some x =>
    obtain ⟨here, pre, post, split, before⟩ := List.find?_eq_some_iff_append.1 found
    exact .inr ⟨pre, x, post, split, fun y mem => by simpa using before y mem, here⟩

theorem firstOf_of_any (h : l.any q = true) : ∃ pre x post, FirstOf q l pre x post := by
  obtain none | first := firstOf_cases q l
  · obtain ⟨y, mem, holds⟩ := List.any_eq_true.1 h
    exact absurd holds (by simp [none y mem])
  · exact first

theorem firstOf_of_find? (h : l.find? q = some x) : ∃ pre post, FirstOf q l pre x post := by
  obtain ⟨here, pre, post, split, before⟩ := List.find?_eq_some_iff_append.1 h
  exact ⟨pre, post, split, fun y mem => by simpa using before y mem, here⟩

theorem FirstOf.find? (h : FirstOf q l pre x post) : l.find? q = some x :=
  List.find?_eq_some_iff_append.2 ⟨h.here, pre, post, h.split, fun y mem => by simp [h.before y mem]⟩

theorem removeFirst_of_none (h : ∀ y ∈ l, q y = false) : removeFirst q l = l := by
  induction l with
  | nil => rfl
  | cons y l ih =>
    rw [removeFirst, h y List.mem_cons_self, ih fun z mem => h z (List.mem_cons_of_mem _ mem)]
    rfl

theorem mapFirst_of_none (f : α → α) (h : ∀ y ∈ l, q y = false) : mapFirst q f l = l := by
  induction l with
  | nil => rfl
  | cons y l ih =>
    rw [mapFirst, h y List.mem_cons_self, ih fun z mem => h z (List.mem_cons_of_mem _ mem)]
    rfl

theorem FirstOf.removeFirst (h : FirstOf q l pre x post) : removeFirst q l = pre ++ post := by
  obtain ⟨rfl, before, here⟩ := h
  induction pre with
  | nil => simp [Machine.removeFirst, here]
  | cons y pre ih =>
    simp [Machine.removeFirst, before y List.mem_cons_self, ih fun z mem => before z (List.mem_cons_of_mem _ mem)]

theorem FirstOf.mapFirst (h : FirstOf q l pre x post) (f : α → α) : mapFirst q f l = pre ++ f x :: post := by
  obtain ⟨rfl, before, here⟩ := h
  induction pre with
  | nil => simp [Machine.mapFirst, here]
  | cons y pre ih =>
    simp [Machine.mapFirst, before y List.mem_cons_self, ih fun z mem => before z (List.mem_cons_of_mem _ mem)]

theorem removeFirst_sublist (q : α → Bool) (l : List α) : (removeFirst q l).Sublist l := by
  obtain none | ⟨pre, x, post, first⟩ := firstOf_cases q l
  · exact (removeFirst_of_none none).symm ▸ List.Sublist.refl l
  · rw [first.removeFirst, first.split]
    exact (List.sublist_cons_self x post).append_left pre

@[simp] theorem mapFirst_length (q : α → Bool) (f : α → α) (l : List α) : (mapFirst q f l).length = l.length := by
  obtain none | ⟨pre, x, post, first⟩ := firstOf_cases q l
  · rw [mapFirst_of_none f none]
  · rw [first.mapFirst, first.split]
    simp

theorem removeFirst_length_le (q : α → Bool) (l : List α) : (removeFirst q l).length ≤ l.length :=
  (removeFirst_sublist q l).length_le

end first

/-! ### Tags (R153) -/

/-- The values tried from `c` on are the first `k` taken ones and then a free one, which the search ends at. -/
theorem freeTag_eq {tags : List Nat} {n k c : Nat} (room : k < n) (free : (c + k) % 16 ∉ tags)
    (taken : ∀ j < k, (c + j) % 16 ∈ tags) : freeTag tags n c = (c + k) % 16 := by
  induction n generalizing k c with
  | zero => omega
  | succ n ih =>
    cases k with
    | zero => simp [freeTag, show c % 16 ∉ tags by simpa using free]
    | succ k =>
      have here : c % 16 ∈ tags := by simpa using taken 0 (Nat.succ_pos k)
      have shift : ∀ j, c + 1 + j = c + (j + 1) := by omega
      rw [freeTag, if_pos (by simpa using here), ← shift k]
      refine ih (k := k) (by omega) (by rwa [shift]) fun j less => ?_
      rw [shift]
      exact taken (j + 1) (by omega)

/-- Among more values than there are tags, one is free. -/
theorem exists_free (tags : List Nat) (c : Nat) (few : tags.length < 16) : ∃ k ≤ tags.length, (c + k) % 16 ∉ tags := by
  refine Classical.byContradiction fun none => ?_
  have all : ∀ k, k ≤ tags.length → (c + k) % 16 ∈ tags := fun k near =>
    Classical.byContradiction fun free => none ⟨k, near, free⟩
  have apart : ((List.range (tags.length + 1)).map fun k => (c + k) % 16).Nodup := by
    refine List.pairwise_map.2 (List.Pairwise.imp_of_mem (fun {i j} hi hj less same => ?_) List.pairwise_lt_range)
    have near := List.mem_range.1 hj
    omega
  have within : ((List.range (tags.length + 1)).map fun k => (c + k) % 16) ⊆ tags := by
    intro v mem
    obtain ⟨k, less, rfl⟩ := List.mem_map.1 mem
    exact all k (Nat.le_of_lt_succ (List.mem_range.1 less))
  have count := apart.length_le_of_subset within
  rw [List.length_map, List.length_range] at count
  omega

/-- Of the numbers with a property there is a least one. -/
theorem exists_least {p : Nat → Prop} (some : ∃ k, p k) : ∃ k, p k ∧ ∀ j < k, ¬p j := by
  obtain ⟨k, met⟩ := some
  induction k using Nat.strongRecOn with
  | _ k ih =>
    by_cases smaller : ∃ j, j < k ∧ p j
    · obtain ⟨j, less, met'⟩ := smaller
      exact ih j less met'
    · exact ⟨k, met, fun j less met' => smaller ⟨j, less, met'⟩⟩

/-- The tag searched for is the first free one, at most as far on as there are tags. -/
theorem freeTag_spec (tags : List Nat) (c : Nat) (few : tags.length < 16) :
    ∃ k ≤ tags.length, freeTag tags 16 c = (c + k) % 16 ∧ (c + k) % 16 ∉ tags ∧ ∀ j < k, (c + j) % 16 ∈ tags := by
  obtain ⟨k, ⟨near, free⟩, least⟩ := exists_least (exists_free tags c few)
  have taken : ∀ j < k, (c + j) % 16 ∈ tags := fun j less =>
    Classical.byContradiction fun open' => least j less ⟨by omega, open'⟩
  exact ⟨k, near, freeTag_eq (by omega) free taken, free, taken⟩

/-- The next tag of a device with at most 4 posts: below 16, and no other post of the device has it. -/
theorem Postbox.nextTag_free {d : Byte} {b : Postbox} (few : (b.of d).length < 16) :
    b.nextTag d < 16 ∧ ∀ p ∈ b.posts, p.dest = d → p.tag ≠ b.nextTag d := by
  obtain ⟨k, -, found, free, -⟩ := freeTag_spec ((b.of d).map (·.tag)) b.tagCounter (by simpa using few)
  rw [Postbox.nextTag, found]
  refine ⟨Nat.mod_lt _ (by decide), fun p mem dest same => free ?_⟩
  rw [← same]
  exact List.mem_map_of_mem (List.mem_filter.2 ⟨mem, by simp [dest]⟩)

/-! ### What keeps a pool lawful -/

section pool

variable {b : Postbox}

theorem Postbox.Lawful.of_sublist {posts : List Post} (h : b.Lawful) (left : posts.Sublist b.posts) :
    ({ b with posts := posts } : Postbox).Lawful where
  total := Nat.le_trans left.length_le h.total
  each d := Nat.le_trans (left.filter _).length_le (h.each d)
  tags := h.tags.sublist left
  single := h.single.sublist left
  oldest := h.oldest.sublist left
  ranges := ⟨h.ranges.1, fun p mem => h.ranges.2 p (left.mem mem)⟩

/-- The post `x` of a pool gives way to `y`, of the same device and kind, with a tag of its own; `y` is outstanding only as
the device's oldest post. -/
theorem Postbox.Lawful.replace {pre post : List Post} {x y : Post} {counter : Nat} (h : b.Lawful)
    (split : b.posts = pre ++ x :: post) (dest : y.dest = x.dest) (kind : y.kind = x.kind) (attempts : y.attempts ≤ 3)
    (small : y.tag < 16) (tag : ∀ p ∈ pre ++ post, p.dest = x.dest → p.tag ≠ y.tag)
    (oldest : y.outstanding = true → ∀ p ∈ pre, p.dest ≠ x.dest) (bound : counter < 16) :
    ({ b with posts := pre ++ y :: post, tagCounter := counter } : Postbox).Lawful := by
  obtain ⟨total, each, tags, single, old, -, ranges⟩ := h
  rw [split] at total each tags single old ranges
  simp only [List.pairwise_append, List.pairwise_cons, List.mem_cons, List.mem_append] at tags single old ranges tag
  constructor
  case total => simpa using total
  case each =>
    intro d
    have := each d
    simpa [List.filter_append, List.filter_cons, dest, apply_ite List.length] using this
  case tags =>
    simp only [List.pairwise_append, List.pairwise_cons, List.mem_cons]
    obtain ⟨tagsPre, ⟨-, tagsPost⟩, across⟩ := tags
    refine ⟨tagsPre, ⟨fun p mem same => (tag p (.inr mem) (same.symm.trans dest)).symm, tagsPost⟩, ?_⟩
    rintro p mem q (rfl | memPost) same
    · exact tag p (.inl mem) (same.trans dest)
    · exact across p mem q (.inr memPost) same
  case single =>
    simp only [List.pairwise_append, List.pairwise_cons, List.mem_cons]
    obtain ⟨singlePre, ⟨fromX, singlePost⟩, across⟩ := single
    refine ⟨singlePre, ⟨fun p mem => by rw [dest, kind]; exact fromX p mem, singlePost⟩, ?_⟩
    rintro p mem q (rfl | memPost)
    · rw [dest, kind]
      exact across p mem x (.inl rfl)
    · exact across p mem q (.inr memPost)
  case oldest =>
    simp only [List.pairwise_append, List.pairwise_cons, List.mem_cons]
    obtain ⟨oldPre, ⟨fromX, oldPost⟩, across⟩ := old
    refine ⟨oldPre, ⟨fun p mem => by rw [dest]; exact fromX p mem, oldPost⟩, ?_⟩
    rintro p mem q (rfl | memPost) same
    · exact Bool.eq_false_iff.2 fun on => oldest on p mem (same.trans dest)
    · exact across p mem q (.inr memPost) same
  case ranges =>
    refine ⟨bound, fun p mem => ?_⟩
    obtain mem | rfl | mem : p ∈ pre ∨ p = y ∨ p ∈ post := by simpa using mem
    · exact ranges p (.inl mem)
    · exact ⟨small, attempts⟩
    · exact ranges p (.inr (.inr mem))

/-- The first post that a test holds of is changed, but for its device, kind and tag, and is not made outstanding. -/
theorem Postbox.Lawful.change {q : Post → Bool} {f : Post → Post} (h : b.Lawful)
    (same : ∀ p, (f p).dest = p.dest ∧ (f p).kind = p.kind ∧ (f p).tag = p.tag)
    (attempts : ∀ p, p.attempts ≤ 3 → (f p).attempts ≤ 3)
    (outstanding : ∀ p, (f p).outstanding = true → p.outstanding = true) :
    ({ b with posts := mapFirst q f b.posts } : Postbox).Lawful := by
  obtain none | ⟨pre, x, post, first⟩ := firstOf_cases q b.posts
  · rw [mapFirst_of_none f none]
    exact h
  · rw [first.mapFirst]
    obtain ⟨dest, kind, tag⟩ := same x
    have mem : x ∈ b.posts := by simp [first.split]
    have tags := h.tags
    have oldest := h.oldest
    simp only [first.split, List.pairwise_append, List.pairwise_cons, List.mem_cons] at tags oldest
    refine h.replace first.split dest kind (attempts x (h.ranges.2 x mem).2) (tag ▸ (h.ranges.2 x mem).1) ?_ ?_ h.ranges.1
    · intro p mem' sameDest
      rw [tag]
      obtain mem' | mem' := List.mem_append.1 mem'
      · exact tags.2.2 p mem' x (.inl rfl) sameDest
      · exact (tags.2.1.1 p mem' sameDest.symm).symm
    · intro on p mem' sameDest
      exact absurd (outstanding x on) (by simp [oldest.2.2 p mem' x (.inl rfl) sameDest])

/-- A post joins the pool: there is a place for it, it is not outstanding, and it is the only one of its kind but for
NOTICE. -/
theorem Postbox.Lawful.add {p : Post} (h : b.Lawful) (places : (b.of p.dest).length < 4) (total : b.posts.length < 24)
    (fresh : p.outstanding = false) (attempts : p.attempts ≤ 3)
    (single : ∀ q ∈ b.posts, q.dest = p.dest → q.kind = p.kind → q.kind = .notice) : (b.add p).Lawful := by
  obtain ⟨small, free⟩ := Postbox.nextTag_free (d := p.dest) (b := b) (by omega)
  constructor
  case total =>
    rw [Postbox.add, List.length_append]
    exact Nat.succ_le_of_lt total
  case each =>
    intro d
    have := h.each d
    by_cases here : p.dest = d
    · subst here
      have grown : ((b.add p).posts.filter fun q => decide (q.dest = p.dest)).length = (b.of p.dest).length + 1 := by
        simp [Postbox.add, Postbox.of]
      rw [grown]
      exact Nat.succ_le_of_lt places
    · simpa [Postbox.add, here] using this
  case tags => simpa [Postbox.add, List.pairwise_append] using ⟨h.tags, free⟩
  case single => simpa [Postbox.add, List.pairwise_append] using ⟨h.single, single⟩
  case oldest => simpa [Postbox.add, List.pairwise_append, fresh] using h.oldest
  case ranges =>
    refine ⟨Nat.mod_lt _ (by decide), fun q mem => ?_⟩
    obtain mem | rfl : q ∈ b.posts ∨ q = { p with tag := b.nextTag p.dest } := by simpa [Postbox.add] using mem
    · exact h.ranges.2 q mem
    · exact ⟨small, attempts⟩

end pool

/-! ### Internal notices (R157 to R159) -/

section internal

variable {b : Postbox}

/-- An internal notice that is unsent, or may be removed, makes room for another. -/
theorem Postbox.Lawful.exchange {q : Post → Bool} {p : Post} (h : b.Lawful)
    (places : ((removeFirst q b.posts).filter fun x => decide (x.dest = p.dest)).length < 4)
    (some : b.posts.any q = true) (fresh : p.outstanding = false) (attempts : p.attempts ≤ 3) (notice : p.kind = .notice) :
    (({ b with posts := removeFirst q b.posts } : Postbox).add p).Lawful := by
  obtain ⟨pre, x, post, first⟩ := firstOf_of_any some
  refine (h.of_sublist (removeFirst_sublist q _)).add places ?_ fresh attempts fun y _ _ kind => kind.trans notice
  have total := h.total
  rw [first.split] at total
  simp only [first.removeFirst, List.length_append, List.length_cons] at total ⊢
  omega

/-- With one of its posts gone, a device has a place. -/
theorem Postbox.Lawful.places_removed {q : Post → Bool} {d : Byte} (h : b.Lawful) (some : b.posts.any q = true)
    (own : ∀ p, q p = true → p.dest = d) :
    ((removeFirst q b.posts).filter fun x => decide (x.dest = d)).length < 4 := by
  obtain ⟨pre, x, post, first⟩ := firstOf_of_any some
  have each := h.each d
  rw [first.split] at each
  simp only [first.removeFirst, List.filter_append, List.filter_cons, own x first.here, decide_true, if_true,
    List.length_append, List.length_cons] at each ⊢
  omega

theorem Postbox.place_lawful {p : Post} (h : b.Lawful) (fresh : p.outstanding = false) (attempts : p.attempts ≤ 3)
    (notice : p.kind = .notice) : (b.place p).Lawful := by
  have lost : ({ b with noticeLost := satInc b.noticeLost } : Postbox).Lawful :=
    ⟨h.total, h.each, h.tags, h.single, h.oldest, h.ranges⟩
  unfold Postbox.place
  split
  · rename_i few
    split
    · exact h.add few ‹_› fresh attempts fun q _ _ kind => kind.trans notice
    · split
      · refine h.exchange ?_ ‹_› fresh attempts notice
        exact Nat.lt_of_le_of_lt ((removeFirst_sublist _ _).filter _).length_le few
      · exact lost
  · split
    · rename_i some
      have any : b.posts.any (fun x => decide (x.dest = p.dest) && x.displaceable) = true := by
        simpa [Postbox.of, and_assoc] using some
      exact h.exchange (h.places_removed any fun q own => by simp_all) any fresh attempts notice
    · exact lost

theorem Postbox.notify_lawful (n : Internal) (now : Clock) (d : Byte) (h : b.Lawful) : (b.notify n now d).Lawful := by
  unfold Postbox.notify
  split
  · exact h.of_sublist List.filter_sublist
  · split
    · exact h.exchange (h.places_removed ‹_› fun p own => by simp_all [Post.unsentInternal, internalPost]) ‹_› rfl
        (Nat.zero_le 3) rfl
    · exact Postbox.place_lawful h rfl (Nat.zero_le 3) rfl

end internal

/-! ### The operations of the Postbox -/

section postbox

variable (s : State)

theorem resolve_sound (p : Post) (o : PostOutcome) : Sound s (resolve p o s) := by
  unfold resolve
  split
  · exact raise_sound _ _
  · exact .refl s

theorem dropPost_sound (q : Post → Bool) : Sound s (dropPost q s) :=
  onPostbox_sound fun h => h.of_sublist (removeFirst_sublist _ _)

theorem postInternal_sound (n : Internal) : Sound s (postInternal n s) := by
  refine onPostbox_sound fun h => ?_
  generalize boundAddresses s = ds
  generalize s.postbox = b at h
  induction ds generalizing b with
  | nil => exact h
  | cons d ds ih => exact ih _ (Postbox.notify_lawful n s.clock d h)

/-- A counter of the Postbox is no part of the pool's laws. -/
theorem Postbox.Lawful.of_same {b c : Postbox} (h : b.Lawful) (posts : c.posts = b.posts)
    (counter : c.tagCounter = b.tagCounter) : c.Lawful := by
  obtain ⟨total, each, tags, single, oldest, ranges⟩ := h
  constructor <;> simpa only [posts, counter]

theorem stray_sound (taken : Option Nat) :
    Sound s (s.onPostbox fun b => if taken.isSome then { b with strayTaken := satInc b.strayTaken } else b) := by
  refine onPostbox_sound fun h => ?_
  split
  · exact h.of_same rfl rfl
  · exact h

theorem meetOutstanding_sound (d : Byte) (taken : Option Nat) : Sound s (meetOutstanding d taken s) := by
  unfold meetOutstanding
  split
  · rename_i p _
    split
    · split
      · exact (dropPost_sound s _).trans (resolve_sound _ _ _)
      · exact ((dropPost_sound s _).trans (resolve_sound _ _ _)).trans (zoneDelivered_sound _ _ _ _)
    · refine (stray_sound s taken).trans ?_
      by_cases last : 3 ≤ p.attempts
      · rw [if_pos last]
        exact (dropPost_sound _ _).trans (resolve_sound _ _ _)
      · rw [if_neg last]
        exact .refl _
  · exact stray_sound s taken

/-- The frame that the field transmit queue has a place for. -/
theorem pushField_sound {e : TxEntry} {s : State} (room : fieldAccepts s = true) : Sound s (pushField e s) := by
  have few : s.ports.fieldTx.length < 8 := by simpa [fieldAccepts] using room
  refine onPorts_sound { fieldTx := fun _ => ?_ }
  rw [List.length_append, List.length_singleton]
  omega

/-- The oldest post of a device becomes outstanding (R162). -/
theorem offered_sound {d : Byte} {p : Post} {rest : List Post} {s : State} (oldest : s.postbox.of d = p :: rest) :
    Sound s (changePost (Post.named d p.tag) (fun p => { p with outstanding := true }) s) := by
  refine onPostbox_sound fun h => ?_
  obtain none | ⟨pre, x, post, first⟩ := firstOf_cases (Post.named d p.tag) s.postbox.posts
  · rw [mapFirst_of_none _ none]
    exact h
  · rw [first.mapFirst]
    obtain ⟨dest, -⟩ : x.dest = d ∧ x.tag = p.tag := by simpa [Post.named] using first.here
    have mem : x ∈ s.postbox.posts := by simp [first.split]
    have tags := h.tags
    simp only [first.split, List.pairwise_append, List.pairwise_cons, List.mem_cons] at tags
    refine h.replace first.split rfl rfl (h.ranges.2 x mem).2 (h.ranges.2 x mem).1 ?_ ?_ h.ranges.1
    · intro y mem' same
      obtain mem' | mem' := List.mem_append.1 mem'
      · exact tags.2.2 y mem' x (.inl rfl) same
      · exact (tags.2.1.1 y mem' same.symm).symm
    · intro _ y mem' same
      have older : y ∈ pre.filter fun z => decide (z.dest = d) := List.mem_filter.2 ⟨mem', by simp [same, dest]⟩
      rw [Postbox.of, first.split, List.filter_append] at oldest
      cases named : pre.filter fun z => decide (z.dest = d) with
      | nil => simp [named] at older
      | cons z zs =>
        rw [named, List.cons_append] at oldest
        obtain ⟨memZ, destZ⟩ := List.mem_filter.1 (named ▸ List.mem_cons_self : z ∈ pre.filter fun z => decide (z.dest = d))
        have := first.before z memZ
        simp_all [Post.named]

theorem offerReply_sound (d : Byte) (endTime : Tick) : Sound s (offerReply d endTime s) := by
  unfold offerReply
  split
  · exact onPorts_sound {}
  · split
    · split
      · exact pushField_sound ‹_›
      · exact (offered_sound ‹_›).trans (pushField_sound ‹_›)
    · exact onPostbox_sound fun h => h.of_same rfl rfl

theorem wake_sound (d : Byte) (taken : Option Nat) (endTime : Tick) : Sound s (wake d taken endTime s) :=
  (meetOutstanding_sound s d taken).trans (offerReply_sound _ _ _)

theorem reportOutcome_sound (e : TxEntry) (o : TxOutcome) : Sound s (reportOutcome e o s) := by
  have same : ∀ p : Post, (p.transmitted o).dest = p.dest ∧ (p.transmitted o).kind = p.kind ∧
      (p.transmitted o).tag = p.tag := by
    intro p
    unfold Post.transmitted
    (repeat' split) <;> exact ⟨rfl, rfl, rfl⟩
  have attempts : ∀ p : Post, p.attempts ≤ 3 → (p.transmitted o).attempts ≤ 3 := by
    intro p few
    unfold Post.transmitted
    split
    · exact Nat.min_le_left _ _
    · split <;> exact few
  have outstanding : ∀ p : Post, (p.transmitted o).outstanding = true → p.outstanding = true := by
    intro p
    unfold Post.transmitted
    (repeat' split) <;> simp
  unfold reportOutcome
  split
  · exact onPostbox_sound fun h => h.change same attempts outstanding
  · exact .refl s

theorem postExpires_sound (d : Byte) (tag : Nat) : Sound s (postExpires d tag s) := by
  unfold postExpires
  split
  · split
    · exact (dropPost_sound s _).trans (resolve_sound _ _ _)
    · exact .refl s
  · exact .refl s

end postbox

end Sys2Proof.Machine
end

section
/-! Every operation keeps the laws: the Recovery Controller, the inputs of the burner, and the Tank Gauge. -/

-- The proofs of this section are elaborated one after another: side by side they take more threads, each with a stack of
-- its own, than the memory of the check has room for.
set_option Elab.async false

namespace Sys2Proof.Machine

/-! ### The recovery state, its records and its budget -/

section recovery

variable (s : State)

/-- RESET goes with PULSE, and the demand conditions are judged (R90, R97). -/
theorem recovTo_sound (st : RecState) (timer : Option Nat) : Sound s (recovTo st timer s) := by
  refine Keeps.judged fun law h => ?_
  cases law with
  | relays => exact ⟨h.states, h.settled, by simp [Burner.followPulse]⟩
  | _ => exact h

theorem addRecord_sound (begin : Clock) (c : Cause) (o : RecOutcome) : Sound s (addRecord begin c o s) :=
  onRecov_sound { log := joinBounded_length_le _ (by decide) } rfl

theorem closeRecord_sound (o : RecOutcome) : Sound s (closeRecord o s) :=
  onRecov_sound { log := by simp } rfl

theorem addBudget_sound (t : Clock) : Sound s (addBudget t s) := by
  refine onRecov_sound { budget := fun few => ?_ } rfl
  dsimp only
  split
  · rw [List.length_append, List.length_singleton]
    omega
  · exact few

theorem Recovery.ageBudget_kept (now : Clock) (r : Recovery) : r.Kept (r.ageBudget now) where
  budget := Nat.le_trans (List.length_filter_le _ _)

theorem beginPulse_sound (c : Cause) : Sound s (beginPulse c s) :=
  (addRecord_sound s _ _ _).trans (recovTo_sound _ _ _)

theorem toCooling_sound : Sound s (toCooling s) := recovTo_sound s _ _

/-- The budget list emptied (R107, R110). -/
theorem emptyBudget_sound : Sound s (s.onRecov fun r => { r with budget := [] }) :=
  onRecov_sound { budget := fun _ => Nat.zero_le _ } rfl

theorem enterWait_sound (st : RecState) : Sound s (enterWait st s) := by
  unfold enterWait
  split
  · exact .refl s
  · exact (recovTo_sound s _ _).trans (raise_sound _ _)

theorem enterHard_sound : Sound s (enterHard s) := by
  unfold enterHard
  split
  · exact .refl s
  · exact ((recovTo_sound s _ _).trans (raise_sound _ _)).trans (postInternal_sound _ _)

theorem dueCheck_sound : Sound s (dueCheck s) := by
  unfold dueCheck
  split
  · exact enterWait_sound s _
  split
  · exact enterWait_sound s _
  split
  · exact enterWait_sound s _
  split
  · split
    · exact .refl s
    · exact recovTo_sound s _ _
  split
  · exact enterHard_sound s
  · exact (addBudget_sound s _).trans (beginPulse_sound _ _)

theorem dueTrigger_sound : Sound s (dueTrigger s) := by
  unfold dueTrigger
  split
  · exact dueCheck_sound s
  · exact .refl s

theorem proveAttempt_sound : Sound s (proveAttempt s) :=
  (((closeRecord_sound s _).trans (recovTo_sound _ _ _)).trans (raise_sound _ _)).trans (postInternal_sound _ _)

theorem manualReset_sound : Sound s (manualReset s) :=
  ((((addRecord_sound s _ _ _).trans (emptyBudget_sound _)).trans (recovTo_sound _ _ _)).trans (raise_sound _ _)).trans
    (postInternal_sound _ _)

theorem powerOnPenalty_sound : Sound s (powerOnPenalty s) := by
  unfold powerOnPenalty
  refine Sound.trans ?_ (addRecord_sound _ _ _ _)
  split
  · exact addBudget_sound s _
  · exact .refl s

theorem takeLockout_sound (present : Bool) (left : BurnerState) : Sound s (takeLockout present left s) := by
  unfold takeLockout
  split
  · have begun := ((toCooling_sound s).trans (raise_sound (lockoutNotice left s.gauge.band present) _)).trans
      (postInternal_sound _ .boilerFault)
    cases present with
    | true => exact begun.trans (powerOnPenalty_sound _)
    | false => exact begun
  · exact ((closeRecord_sound s _).trans (toCooling_sound _)).trans (raise_sound _ _)
  · exact .refl s

theorem toProving_sound : Sound s (toProving s) := (onRecov_sound {} rfl).trans (recovTo_sound _ _ _)

theorem takeLockClear_sound : Sound s (takeLockClear s) := by
  unfold takeLockClear
  split
  case h_7 => exact toProving_sound s
  case h_8 => exact .refl s
  all_goals exact manualReset_sound s

/-! ### The timers and the claim of the Recovery Controller -/

theorem coolOffExpires_sound : Sound s (coolOffExpires s) := by
  unfold coolOffExpires
  split
  · exact dueCheck_sound s
  · exact .refl s

theorem spacingExpires_sound : Sound s (spacingExpires s) := by
  unfold spacingExpires
  split
  · exact (onRecov_sound {} rfl).trans (dueTrigger_sound _)
  · exact .refl s

theorem budgetEntryAgesOut_sound : Sound s (budgetEntryAgesOut s) := onRecov_sound (Recovery.ageBudget_kept _ _) rfl

theorem pregapEnds_sound : Sound s (pregapEnds s) := by
  unfold pregapEnds
  split
  · exact recovTo_sound s _ _
  · exact .refl s

theorem pulseEnds_sound : Sound s (pulseEnds s) := by
  unfold pulseEnds
  split
  · exact recovTo_sound s _ _
  · exact .refl s

theorem postgapEnds_sound : Sound s (postgapEnds s) := by
  unfold postgapEnds
  split
  · refine Sound.trans (t := s.onRecov fun r => { r with spacing := some r.spacingTime }) (onRecov_sound {} rfl) ?_
    by_cases clear : s.burner.lock.acc = some false
    · rw [if_pos clear]
      exact toProving_sound _
    · rw [if_neg clear]
      exact recovTo_sound _ _ _
  · exact .refl s

theorem checkingExpires_sound : Sound s (checkingExpires s) := by
  unfold checkingExpires
  split
  · exact (closeRecord_sound s _).trans (toCooling_sound _)
  · exact .refl s

theorem provedEvent_sound : Sound s (provedEvent s) := by
  unfold provedEvent
  split
  · exact proveAttempt_sound s
  · exact .refl s

theorem clearClaim_sound : Sound s (s.onRecov Recovery.clearClaim) :=
  onRecov_sound { claim := fun _ => by simp [Recovery.clearClaim] } rfl

theorem claimHoldExpires_sound : Sound s (claimHoldExpires s) := by
  unfold claimHoldExpires
  split
  · exact ((clearClaim_sound s).trans (raise_sound _ _)).trans (dueTrigger_sound _)
  · exact .refl s

theorem remoteReset_sound : Sound s (remoteReset s).2 := by
  unfold remoteReset
  (repeat' split) <;> first | exact .refl s | exact (addBudget_sound s _).trans (beginPulse_sound _ _)

theorem serviceReset_sound (w : BitVec 16) : Sound s (serviceReset w s).2 := by
  unfold serviceReset
  (repeat' split) <;> first | exact .refl s | exact beginPulse_sound s _

theorem clearHard_sound (w : BitVec 16) : Sound s (clearHard w s).2 := by
  unfold clearHard
  (repeat' split) <;> first | exact .refl s | exact (emptyBudget_sound s).trans (dueCheck_sound _)

theorem claimSelect_sound {side : ClaimSide} (w : BitVec 16) (real : side ≠ .none) : Sound s (claimSelect side w s).2 := by
  unfold claimSelect
  split
  · exact .refl s
  split
  · have kept : s.recov.Kept { s.recov with word := w, side := side, hold := some (s.recov.holdTime * 60) } :=
      { claim := fun _ => iff_of_false ‹_› real }
    exact Sound.trans (onRecov_sound kept rfl) (dueTrigger_sound _)
  · exact .refl s

theorem claimTest_sound (w : BitVec 16) : Sound s (claimTest w s).2 := by
  unfold claimTest
  split
  · exact onRecov_sound (f := fun r => { r with hold := some (r.holdTime * 60) }) {} rfl
  · exact .refl s

theorem claimRelease_sound (w : BitVec 16) : Sound s (claimRelease w s).2 := by
  unfold claimRelease
  split
  · exact (clearClaim_sound s).trans (dueTrigger_sound _)
  · exact .refl s

end recovery

/-! ### The inputs of the burner -/

section inputs

variable (s : State)

theorem enterLocked_sound (present : Bool) (left : BurnerState) : Sound s (enterLocked present left s) := by
  have locked : ∀ t : State, Sound t (t.onBurner Burner.toLocked) := fun t =>
    onBurner_released id rfl (by simp [Burner.toLocked]) rfl
  have before : Sound s (if left = .firing then leaveFiring s else s) := by
    split
    · exact leaveFiring_sound s
    · exact .refl s
  exact ((before.trans (locked _)).trans (takeLockout_sound _ _ _)).trans (judgeDemand_sound _)

theorem handLockClear_sound : Sound s (handLockClear s) := (takeLockClear_sound s).trans (judgeDemand_sound _)

theorem runAcceptedOn_sound : Sound s (runAcceptedOn s) := by
  unfold runAcceptedOn
  split
  · exact enterSenseFault_sound s _
  · exact enterFiring_sound ‹_›
  · exact .refl s
  · exact .refl s
  · exact enterSenseFault_sound s _
  · exact enterSenseFault_sound s _
  · exact burnerTimer_sound s _

/-- FIRING goes back to STARTING with DEMAND energized, permitted as it was (R84). -/
theorem startAgain_sound {s : State} (firing : s.burner.state = .firing) : Sound s (s.onBurner Burner.start) := by
  have kept : RelaysLawful s → RelaysLawful (s.onBurner Burner.start) := fun h =>
    ⟨by simp [Burner.start], fun _ => h.settled (h.states.2 (.inr firing)), h.pulse⟩
  refine ⟨fun law h => ?_, fun h => (kept h.relays).lawful fun _ => ?_⟩
  · cases law with
    | relays => exact kept h
    | _ => exact h
  · exact demandConditions_start (h.permitted (h.states.2 (.inr firing)))

theorem runAcceptedOff_sound : Sound s (runAcceptedOff s) := by
  unfold runAcceptedOff
  split
  · split
    · exact .refl s
    · exact (leaveFiring_sound s).trans (startAgain_sound ‹_›)
  · exact enterIdle_sound s
  · exact burnerTimer_sound s _
  · split
    · exact enterLocked_sound s _ _
    · exact burnerTimer_sound s _
  · exact .refl s

theorem lockAcceptedOn_sound : Sound s (lockAcceptedOn s) := by
  unfold lockAcceptedOn
  split
  · split
    · exact .refl s
    · exact enterLocked_sound s _ _
  · exact enterLocked_sound s _ _

theorem lockAcceptedOff_sound : Sound s (lockAcceptedOff s) := by
  unfold lockAcceptedOff
  split
  · split
    · exact (enterSenseFault_sound s _).trans (handLockClear_sound _)
    · exact (toIdle_sound s).trans (handLockClear_sound _)
  · split
    · exact handLockClear_sound s
    · exact (handLockClear_sound s).trans (burnerTimer_sound _ _)
  · exact .refl s

/-- The mark of a lockout present at power-on alone changes. -/
theorem presentMark_sound (mark : Burner → Bool) : Sound s (s.onBurner fun b => { b with presentMark := mark b }) :=
  onBurner_sound id rfl rfl rfl rfl rfl rfl

theorem endSettling_sound : Sound s (endSettling s) := by
  unfold endSettling
  split
  · exact (presentMark_sound s _).trans (enterSenseFault_sound _ _)
  split
  · exact enterLocked_sound s _ _
  · exact enterIdle_sound s

theorem actOnAcceptance_sound (input : Input) (level : Bool) : Sound s (actOnAcceptance input level s) := by
  unfold actOnAcceptance
  split
  · exact runAcceptedOn_sound s
  · exact runAcceptedOff_sound s
  · exact lockAcceptedOn_sound s
  · exact (presentMark_sound s _).trans (lockAcceptedOff_sound _)

/-- An input is accepted: what was settled stays so. -/
theorem accept_sound (i : Input) : Sound s (s.onBurner (·.onInput i Debounced.accept)) := by
  have settled : s.burner.settled = true → (s.burner.onInput i Debounced.accept).settled = true := by
    cases i <;> simp +contextual [Burner.settled, Burner.onInput, Debounced.accept]
  have relays : RelaysLawful s → RelaysLawful (s.onBurner (·.onInput i Debounced.accept)) := fun h => by
    cases i <;> exact ⟨h.states, fun on => settled (h.settled on), h.pulse⟩
  refine ⟨fun law h => ?_, fun h => (relays h.relays).lawful fun on => ?_⟩
  · cases law with
    | relays => exact relays h
    | burnerWidths => cases i <;> exact h
    | _ => exact h
  · have on : s.burner.demand = true := by cases i <;> exact on
    obtain ⟨permit, recovery, oil, reset, gap, isSettled, state⟩ := demandConditions_iff.1 (h.permitted on)
    cases i <;> exact demandConditions_iff.2 ⟨permit, recovery, oil, reset, gap, settled isSettled, state⟩

theorem inputAccepted_sound (i : Input) : Sound s (inputAccepted i s) := by
  unfold inputAccepted
  split
  · refine (accept_sound s i).trans ?_
    dsimp only
    split
    · exact actOnAcceptance_sound _ _ _
    split
    · exact endSettling_sound _
    · exact .refl _
  · exact .refl s

end inputs

/-! ### The Tank Gauge -/

/-- The strapping tables stay as they are. -/
def Gauge.SameTables (g k : Gauge) : Prop := k.live = g.live ∧ k.pend = g.pend

theorem Gauge.SameTables.trans {g k l : Gauge} (first : g.SameTables k) (second : k.SameTables l) : g.SameTables l :=
  ⟨second.1.trans first.1, second.2.trans first.2⟩

theorem Gauge.SameTables.whole {g k : Gauge} (same : g.SameTables k) (h : g.live.length = 24 ∧ g.pend.length = 24) :
    k.live.length = 24 ∧ k.pend.length = 24 := by
  rw [same.1, same.2]
  exact h

theorem Gauge.invalidSample_sameTables (k : InvalidKind) (g : Gauge) : g.SameTables (g.invalidSample k) := by
  unfold Gauge.invalidSample Gauge.countInvalid
  cases k <;> (dsimp only; split; exact ⟨rfl, rfl⟩; split <;> exact ⟨rfl, rfl⟩)

theorem Gauge.validRuns_sameTables (g : Gauge) : g.SameTables g.validRuns := by
  unfold Gauge.validRuns
  split
  · split <;> exact ⟨rfl, rfl⟩
  · exact ⟨rfl, rfl⟩

theorem Gauge.watch_sameTables (v : Nat) (g : Gauge) : g.SameTables (g.watch v) := by
  unfold Gauge.watch
  split
  · split <;> exact ⟨rfl, rfl⟩
  · exact ⟨rfl, rfl⟩

theorem Gauge.follow_sameTables (v : Nat) (g : Gauge) : g.SameTables (g.follow v).1 := by
  unfold Gauge.follow
  dsimp only
  split
  · exact ⟨rfl, rfl⟩
  · split <;> exact ⟨rfl, rfl⟩

theorem Gauge.takeVolume_sameTables (v : Nat) (g : Gauge) : g.SameTables (g.takeVolume v).1 := by
  have seen : g.SameTables { g with lastV := some v } := ⟨rfl, rfl⟩
  unfold Gauge.takeVolume
  split
  · exact ⟨rfl, rfl⟩
  · exact seen
  · dsimp only
    split
    · split
      · exact seen.trans (Gauge.follow_sameTables v _)
      · exact seen.trans (Gauge.watch_sameTables v _)
    · exact ⟨rfl, rfl⟩

theorem Gauge.takeSample_sameTables (t c : Nat) (g : Gauge) : g.SameTables (g.takeSample t c).1 := by
  have recorded : g.SameTables (g.recordCounts t c) := ⟨rfl, rfl⟩
  unfold Gauge.takeSample
  split
  · exact recorded.trans (Gauge.invalidSample_sameTables _ _)
  · refine (recorded.trans (Gauge.validRuns_sameTables _)).trans ?_
    exact Gauge.SameTables.trans ⟨rfl, rfl⟩ (Gauge.takeVolume_sameTables _ _)

section gauge

variable (s : State)

/-- A change of the Tank Gauge that touches neither the tables nor the band. -/
theorem gaugeValues_sound {f : Gauge → Gauge} {s : State} (tables : s.gauge.SameTables (f s.gauge))
    (band : (f s.gauge).band = s.gauge.band) : Sound s (s.onGauge f) := onGauge_sound tables.whole band

theorem handFault_sound (old : Bool) (before : Option Nat) (k : Option InvalidKind) :
    Sound s (handFault old before k s) := by
  have recorded : ∀ e, Sound s (s.onOil (·.addEvent e)) := fun e => onOil_sound (Oil.addEvent_kept e _)
  unfold handFault
  split
  · exact .refl s
  split
  · exact (recorded _).trans (raise_sound _ _)
  · exact (recorded _).trans (raise_sound _ _)

theorem bandNotices_sound : Sound s (bandNotices s) := by
  unfold bandNotices
  split
  · exact .refl s
  · exact (raise_sound _ s).trans (postInternal_sound _ _)
  · exact .refl s
  · exact (raise_sound _ s).trans (postInternal_sound _ _)
  · exact postInternal_sound s _
  · exact postInternal_sound s _
  · exact .refl s

theorem knowBand_sound : Sound s (s.onGauge Gauge.knowBand) := by
  have same : s.gauge.SameTables s.gauge.knowBand ∧ s.gauge.knowBand.band = s.gauge.band := by
    unfold Gauge.knowBand
    split <;> exact ⟨⟨rfl, rfl⟩, rfl⟩
  exact gaugeValues_sound same.1 same.2

/-- What follows the judgement of the demand conditions at a band change. -/
theorem bandTold_sound : Sound s ((bandNotices (dueTrigger s)).onGauge Gauge.knowBand) :=
  ((dueTrigger_sound s).trans (bandNotices_sound _)).trans (knowBand_sound _)

theorem handBand_sound (old : Band) : Sound s (handBand old s) := by
  unfold handBand
  split
  · exact .refl s
  · exact ((evaluateAll_sound s).trans (judgeDemand_sound _)).trans (bandTold_sound _)

/-- The handoff of a changed band judges the demand conditions. -/
theorem handBand_lawful {old : Band} {s : State} (h : RelaysLawful s) (changed : old ≠ s.gauge.band) :
    DemandLawful (handBand old s) := by
  rw [handBand, if_neg changed]
  exact (bandTold_sound _).demand (judgeDemand_lawful ((evaluateAll_sound s).keeps .relays h))

/-- A change that may move the band, with the band handed on behind it. -/
theorem Keeps.bandHanded {s t : State} (kept : Keeps s t) (same : t.gauge.band = s.gauge.band → Sound s t) :
    Sound s (handBand s.gauge.band t) where
  keeps := kept.trans (handBand_sound t _).keeps
  demand h := by
    by_cases unchanged : t.gauge.band = s.gauge.band
    · exact (handBand_sound t _).demand ((same unchanged).demand h)
    · exact handBand_lawful (kept .relays h.relays) (Ne.symm unchanged)

theorem handReport_sound (h : Handoff) : Sound s (handReport h s) := oilTakes_sound (Oil.sampleReport_kept _ _ _ _ _ _)

theorem handRise_sound (h : Handoff) : Sound s (handRise h s) := by
  unfold handRise
  split
  · exact .refl s
  · exact oilTakes_sound (Oil.rise_kept _ _ _ _)

theorem handGaugeReport_sound (k : Option InvalidKind) : Sound s (handGaugeReport k s) := by
  have cleared : Sound s (s.onGauge fun g => { g with reportDue := false }.startReportTimer) :=
    gaugeValues_sound ⟨rfl, rfl⟩ rfl
  unfold handGaugeReport
  split
  · dsimp only
    split
    · rename_i room
      refine cleared.trans (pushHouse_sound ?_)
      simpa [houseAccepts, gaugeFrame, kindGauge, kindAnswer] using room
    · exact cleared.trans (gaugeValues_sound ⟨rfl, rfl⟩ rfl)
  · exact .refl s

theorem sampleTaken_sound (count : BitVec 12) : Sound s (sampleTaken count s) := by
  unfold sampleTaken
  split
  · rename_i c _
    have tables := Gauge.takeSample_sameTables count.toNat c.toNat s.gauge
    generalize handoff : (s.gauge.takeSample count.toNat c.toNat).2 = h
    let faulted := handFault s.gauge.fault s.gauge.reported h.invalid
      (s.onGauge fun g => (g.takeSample count.toNat c.toNat).1)
    have band : faulted.gauge.band = (s.gauge.takeSample count.toNat c.toNat).1.band := by simp [faulted]
    have handed : Sound s (handBand s.gauge.band faulted) :=
      Keeps.bandHanded ((onGauge_keeps tables.whole).trans (handFault_sound _ _ _ _).keeps) fun same =>
        (gaugeValues_sound tables (band ▸ same)).trans (handFault_sound _ _ _ _)
    exact (((handed.trans (handReport_sound _ h)).trans (handRise_sound _ h)).trans (handGaugeReport_sound _ _)).trans
      (reconcileAfterSample_sound _)
  · exact .refl s

theorem sampleTimerExpires_sound : Sound s (sampleTimerExpires s) := by
  unfold sampleTimerExpires
  split
  · exact gaugeValues_sound ⟨rfl, rfl⟩ rfl
  · exact .refl s

theorem supplyConversionDone_sound (count : BitVec 12) : Sound s (supplyConversionDone count s) := by
  unfold supplyConversionDone
  split
  · exact gaugeValues_sound ⟨rfl, rfl⟩ rfl
  · exact .refl s

theorem gaugeReportDue_sound : Sound s (gaugeReportDue s) := by
  unfold gaugeReportDue
  split
  · exact gaugeValues_sound ⟨rfl, rfl⟩ rfl
  · exact .refl s

theorem rejudgeBand_sound : Sound s (rejudgeBand s) := by
  unfold rejudgeBand
  split
  · exact Keeps.bandHanded (onGauge_keeps id) fun same => gaugeValues_sound ⟨rfl, rfl⟩ same
  · exact .refl s

theorem writeReportInterval_sound (minutes : Nat) : Sound s (writeReportInterval minutes s) :=
  gaugeValues_sound ⟨rfl, rfl⟩ rfl

theorem cutTable_length (es : List StrapEntry) : (cutTable es).length = es.length := by
  have : (strapPoints es).length ≤ es.length := by
    induction es with
    | nil => exact Nat.le_refl _
    | cons e es ih =>
      unfold strapPoints
      split
      · exact Nat.zero_le _
      · simpa using ih
  simp only [cutTable, List.length_append, List.length_take, List.length_map, List.length_drop]
  omega

theorem commitStrap_sound : Sound s (commitStrap s).2 := by
  unfold commitStrap
  split
  · exact .refl s
  · exact .refl s
  · have whole : s.gauge.live.length = 24 ∧ s.gauge.pend.length = 24 →
        s.gauge.commit.live.length = 24 ∧ s.gauge.commit.pend.length = 24 := fun h => by
      simp [Gauge.commit, cutTable_length, h.2]
    exact (Keeps.bandHanded (onGauge_keeps whole) fun same => onGauge_sound whole same).trans
      (onOil_sound (Oil.unbase_kept _))

theorem discardStrap_sound : Sound s (discardStrap s).2 :=
  onGauge_sound (f := fun g => { g with pend := g.live }) (fun h => ⟨h.1, h.1⟩) rfl

end gauge

end Sys2Proof.Machine
end

section
/-! Every operation keeps the laws: the lines, the requests and the classifier. -/

-- The proofs of this section are elaborated one after another: side by side they take more threads, each with a stack of
-- its own, than the memory of the check has room for.
set_option Elab.async false

namespace Sys2Proof.Machine

/-! ### The lines (01) -/

section lines

theorem Ports.Kept.trans {p q r : Ports} (first : p.Kept q) (second : q.Kept r) : p.Kept r :=
  ⟨second.fieldRx ∘ first.fieldRx, second.houseRx ∘ first.houseRx, second.fieldTx ∘ first.fieldTx,
    fun n enough few => second.houseTx n enough (first.houseTx n enough few)⟩

theorem Ports.setAsm_kept (l : Line) (a : Assembler) (p : Ports) : p.Kept (p.setAsm l a) := by
  cases l <;> exact {}

theorem Ports.onCtr_kept (l : Line) (f : LineCounters → LineCounters) (p : Ports) : p.Kept (p.onCtr l f) := by
  cases l <;> exact {}

/-- A receive queue takes a frame where it has a place (R8). -/
theorem Ports.receive_kept (l : Line) (now : Tick) (f : Frame) (p : Ports) : p.Kept (p.receive l now f) := by
  cases l <;> simp only [Ports.receive] <;> split
  · exact { fieldRx := fun _ => by simp only [List.length_append, List.length_singleton]; omega }
  · exact {}
  · exact { houseRx := fun _ => by simp only [List.length_append, List.length_singleton]; omega }
  · exact {}

theorem Ports.applyEvent_kept (l : Line) (now : Tick) (e : AsmEvent) (p : Ports) : p.Kept (p.applyEvent l now e) := by
  unfold Ports.applyEvent
  split
  · exact Ports.receive_kept _ _ _ _
  · exact Ports.onCtr_kept _ _ _

theorem Ports.character_kept (l : Line) (c : LineChar) (now : Tick) (p : Ports) : p.Kept (p.character l c now) :=
  (p.setAsm_kept l _).trans (Ports.applyEvent_kept l now _ _)

variable (s : State)

theorem frameTruncated_sound (l : Line) (arriving : Bool) : Sound s (frameTruncated l arriving s) := by
  unfold frameTruncated
  split
  · exact onPorts_sound ((Ports.onCtr_kept _ _ _).trans (Ports.setAsm_kept _ _ _))
  · exact .refl s

theorem skipEnd_sound (l : Line) (arriving : Bool) : Sound s (skipEnd l arriving s) := by
  unfold skipEnd
  split
  · exact onPorts_sound (Ports.setAsm_kept _ _ _)
  · exact .refl s

theorem fieldTransmitStart_sound (arriving : Bool) : Sound s (fieldTransmitStart arriving s) := by
  unfold fieldTransmitStart
  split
  · split
    · exact onPorts_sound { fieldTx := by simp }
    · exact .refl s
  · exact .refl s

theorem releaseLine_sound (now : Tick) : Sound s (releaseLine now s) := onPorts_sound {}

theorem frameSent_sound (e : TxEntry) : Sound s (frameSent e s) :=
  Sound.trans (onPorts_sound { fieldTx := Nat.le_trans (removeFirst_length_le _ _) }) (reportOutcome_sound _ _ _)

theorem echoMismatch_sound (e : TxEntry) : Sound s (echoMismatch e s) := by
  have skipping : Sound s (s.onPorts fun p => { p with fieldAsm := Assembler.skipping s.tick }) := onPorts_sound {}
  unfold echoMismatch
  refine skipping.trans ?_
  by_cases again : e.tries < 2
  · rw [if_pos again]
    exact onPorts_sound { fieldTx := by simp }
  · rw [if_neg again]
    exact (Sound.trans (onPorts_sound { fieldTx := Nat.le_trans (removeFirst_length_le _ _) }) (raise_sound _ _)).trans
      (reportOutcome_sound _ _ _)

theorem echoCheck_sound (c : LineChar) : Sound s (echoCheck c s) := by
  unfold echoCheck
  split
  · split
    · split
      · exact onPorts_sound { fieldTx := by simp }
      · exact (releaseLine_sound s _).trans (frameSent_sound _ _)
    · exact (releaseLine_sound s _).trans (echoMismatch_sound _ _)
  · exact .refl s

theorem characterReceived_sound (l : Line) (c : LineChar) : Sound s (characterReceived l c s) := by
  unfold characterReceived
  split
  · exact onPorts_sound (Ports.character_kept _ _ _ _)
  · split
    · exact echoCheck_sound s c
    · exact onPorts_sound ((Ports.character_kept _ _ _ _).trans {})

theorem replyWithdrawn_sound : Sound s (replyWithdrawn s) := by
  unfold replyWithdrawn
  split
  · exact Sound.trans (onPorts_sound { fieldTx := Nat.le_trans (removeFirst_length_le _ _) }) (reportOutcome_sound _ _ _)
  · exact .refl s

theorem rdyChange_sound (level : Bool) : Sound s (rdyChange level s) := onPorts_sound {}

theorem houseTransmitStart_sound : Sound s (houseTransmitStart s) := by
  unfold houseTransmitStart
  split
  · exact onPorts_sound {}
  · exact .refl s

theorem houseFrameSent_sound : Sound s (houseFrameSent s) := by
  have answer : ∀ (e : HouseEntry) (t : State), Sound t (answerSent e t) := fun e t => by
    unfold answerSent
    split
    · exact onMgmt_sound _ _
    · exact .refl t
  unfold houseFrameSent
  split
  · rename_i e rest queue
    split
    · refine Sound.trans (onPorts_sound { houseTx := fun n _ few => ?_ }) (answer _ _)
      rw [queue, List.length_cons] at few
      exact Nat.le_of_succ_le few
    · exact .refl s
  · exact .refl s

end lines

/-! ### The fields of a WRITE (R171, R172) -/

section write

variable (s : State)

theorem Num.store_sound (f : Num) (other : f ≠ .limit) (v : Nat) : Sound s (f.store v s) := by
  unfold Num.store
  cases f <;> dsimp only
  case limit => exact absurd rfl other
  case turnLen | travelTime | overrunTime => exact onRot_sound id rfl
  case startLimit | runoutLimit | backOff => exact onBurner_sound id rfl rfl rfl rfl rfl rfl
  case budgetMax | window | pulseLen | coolOff | spacing | gapLen | holdTime | provingTime => exact onRecov_sound {} rfl
  case nozzle | reconcileHours | idleLoss | runLoss | deliveryLoss => exact onOil_sound {}
  all_goals exact gaugeValues_sound ⟨rfl, rfl⟩ rfl

theorem Num.write_sound (f : Num) (v : Nat) : Sound s (f.write v s) := by
  unfold Num.write
  split
  · exact writeReportInterval_sound s v
  · exact rotationEvent_sound fun _ => Rotation.swapCheck_within (Rotation.applyLimit_within _)
  · exact rotationEvent_sound fun within => Rotation.swapCheck_within (r := { s.rot with turnLen := v }) within
  · exact onRecov_sound (f := fun r => { r with window := v }.ageBudget s.clock)
      { budget := Nat.le_trans (List.length_filter_le _ _) } rfl
  · refine (Num.store_sound s .provingTime (by decide) v).trans ?_
    unfold rejudgeProving
    split
    · exact proveAttempt_sound _
    · exact .refl _
  · exact (Num.store_sound s .bandHyst (by decide) v).trans (rejudgeBand_sound _)
  · refine (Num.store_sound s .reconcileHours (by decide) v).trans ?_
    unfold rejudgeReconcile
    split
    · exact reconcileOrMark_sound _
    · exact .refl _
  · exact Num.store_sound s f ‹_› v

/-- The part flags name two of the demand conditions, so that DEMAND is not lawful before it is judged. -/
theorem storePartFlags_keeps (v : Nat) : Keeps s (storePartFlags v s) := by
  intro law h
  cases law with
  | relays => exact ⟨h.states, h.settled, h.pulse⟩
  | _ => exact h

theorem writePartFlags_sound (v : Nat) : Sound s (writePartFlags v s) :=
  ((storePartFlags_keeps s v).trans (setPump_sound _).keeps).judged.trans (dueTrigger_sound _)

theorem writeEntry_sound (i v : Nat) : Sound s (writeEntry i v s).2 := by
  unfold writeEntry
  split
  · exact .refl s
  · dsimp only
    split
    · exact .refl s
    · dsimp only
      refine onCls_sound fun whole => ?_
      simpa using whole

theorem ZoneNum.write_sameSlots (f : ZoneNum) (v : Int) (now : Clock) (z : Zone) : z.SameSlots (f.write v now z) := by
  cases f
  case stale => exact ⟨Slot.ageOut_addr _ _ _, Slot.ageOut_addr _ _ _⟩
  case onTime =>
    unfold ZoneNum.write Zone.rejudgePhase
    dsimp only
    split <;> exact ⟨rfl, rfl⟩
  all_goals exact ⟨rfl, rfl⟩

theorem clearCounter_sound (i : Nat) : Sound s (clearCounter i s) := by
  unfold clearCounter
  split
  case h_25 => split <;> exact onPorts_sound {}
  case h_1 | h_2 => exact onPorts_sound {}
  case h_3 | h_4 | h_5 | h_6 | h_7 | h_8 | h_9 => exact onCls_sound id
  case h_10 | h_11 => exact onZones_sound id
  case h_12 | h_13 => exact onBurner_sound id rfl rfl rfl rfl rfl rfl
  case h_14 | h_15 | h_16 | h_17 | h_18 => exact gaugeValues_sound ⟨rfl, rfl⟩ rfl
  case h_19 | h_20 | h_21 => exact onPostbox_sound fun h => h.of_same rfl rfl
  case h_22 | h_23 => exact onMgmt_sound _ _
  case h_24 => exact onStore_sound id

theorem storeRoute_sound (z : Fin 8) (r : Option (Fin 8)) : Sound s (storeRoute z r s) :=
  (zoneEvent_sound ⟨rfl, rfl⟩).trans (routeChange_sound _ _)

theorem storePend_sound (i : Nat) (f : StrapEntry → StrapEntry) : Sound s (storePend i f s) :=
  onGauge_sound (fun h => by simpa using h) rfl

end write

/-! ### A slot written (R36, R37) -/

section slots

variable {s : State} {z : Fin 8} {n : SlotNo} {b : Byte}

theorem findSlot_none (h : findSlot b s = none) (i : Fin 8) (m : SlotNo) : ((s.zone i).slot m).addr ≠ some b := by
  have all : ∀ i, i ∈ eightNumbers := by decide
  have here := List.findSome?_eq_none_iff.1 h i (all i)
  by_cases one : (s.zone i).slot1.addr = some b
  · simp [one] at here
  by_cases two : (s.zone i).slot2.addr = some b
  · simp [one, two] at here
  cases m with
  | one => exact one
  | two => exact two

/-- The slots of the zone table after a write of one of them. -/
theorem slot_stored (z i : Fin 8) (n m : SlotNo) (a : Option Byte) (recs : Eight Zone) :
    (((recs.set z ((recs.get z).onSlot n (·.store a))).get i).slot m).addr =
      if i = z ∧ m = n then a else ((recs.get i).slot m).addr := by
  have stored : ∀ t : Slot, (t.store a).addr = a := fun t => by
    unfold Slot.store
    split
    · assumption
    · rfl
  rw [Eight.get_set]
  by_cases here : i = z
  · subst here
    cases n <;> cases m <;> simp [Zone.onSlot, Zone.slot, stored]
  · simp [here]

/-- A slot takes an address that no other slot has, or becomes absent, with slot 2 behind slot 1. -/
theorem storeSlot_sound {a : Option Byte} (device : ∀ b, a = some b → 1 ≤ b ∧ b ≤ 61)
    (free : SlotTable s.zones.recs → ∀ b, a = some b → ∀ i m, ((s.zone i).slot m).addr = some b → i = z ∧ m = n)
    (behind : SlotTable s.zones.recs → if n = .one then a = none → (s.zone z).slot2.addr = none
      else a ≠ none → (s.zone z).slot1.addr ≠ none) : Sound s (storeSlot z n a s) := by
  refine Sound.trans (onZones_sound fun h => ?_) (evaluateZone_sound _ z)
  refine ⟨fun i m b => ?_, fun i m j k b => ?_, fun i => ?_⟩
  · rw [slot_stored]
    split
    · exact device b
    · exact h.device i m b
  · rw [slot_stored, slot_stored]
    split <;> split
    · rename_i here there
      rintro - -
      exact ⟨here.1.trans there.1.symm, here.2.trans there.2.symm⟩
    · rename_i here there
      exact fun own other => absurd (free h b own j k other) there
    · rename_i here there
      exact fun other own => absurd (free h b own i m other) here
    · exact h.once i m j k b
  · have two := slot_stored z i n .two a s.zones.recs
    have one := slot_stored z i n .one a s.zones.recs
    simp only [Zone.slot] at one two
    rw [one, two]
    have before := h.behind i
    by_cases here : i = z
    · subst here
      cases n with
      | one => simpa [State.zone] using fun some absent => some (by simpa [State.zone] using behind h absent)
      | two => simpa [State.zone] using behind h
    · simpa [here] using before

theorem slotValue_some {v : Nat} {b : Byte} (h : slotValue v = some (some b)) : 1 ≤ b ∧ b ≤ 61 := by
  unfold slotValue at h
  split at h
  · simp at h
  split at h
  · rename_i within
    simp only [Option.some.injEq] at h
    subst h
    bv_omega
  · simp at h

end slots

section fields

variable (s : State)

theorem writeSlot_sound (z : Fin 8) (n : SlotNo) (v : Nat) : Sound s (writeSlot z n v s).2 := by
  unfold writeSlot
  split
  · exact .refl s
  · split
    · exact .refl s
    · rename_i allowed
      refine storeSlot_sound (by simp) (by simp) fun _ => ?_
      cases n <;> simp_all [Zone.slot]
  · rename_i b value
    have device := slotValue_some value
    split
    · rename_i own
      refine storeSlot_sound (by simpa using device) (fun table c same i m => ?_) fun table => ?_
      · obtain rfl : b = c := by simpa using same
        exact fun other => table.once i m z n b other own
      · have := table.behind z
        cases n <;> simp_all [Zone.slot, State.zone]
    split
    · exact .refl s
    split
    · exact .refl s
    · rename_i found allowed
      have nowhere := findSlot_none (by simpa using found)
      refine storeSlot_sound (by simpa using device) (fun _ c same i m => ?_) fun _ => ?_
      · obtain rfl : b = c := by simpa using same
        exact fun other => absurd other (nowhere i m)
      · cases n <;> simp_all [Zone.slot]

end fields

end Sys2Proof.Machine
end

section
/-! Every operation keeps the laws: a WRITE, the requests of the house, and the classifier. -/

-- The proofs of this section are elaborated one after another: side by side they take more threads, each with a stack of
-- its own, than the memory of the check has room for.
set_option Elab.async false

namespace Sys2Proof.Machine

section requests

variable (s : State)

theorem applyField_sound (f : Field) (v : Nat) : Sound s (applyField f v s).2 := by
  unfold applyField
  split
  · exact writePartFlags_sound s v
  · exact writeEntry_sound s _ v
  · split
    · exact zoneEvent_sound ⟨rfl, rfl⟩
    · exact .refl s
  · exact writeSlot_sound s _ _ v
  · split
    · exact storeRoute_sound s _ _
    · exact .refl s
  · exact zoneEvent_sound (ZoneNum.write_sameSlots _ _ _ _)
  · exact Num.write_sound s _ _
  · split
    · rename_i b _
      exact Sound.trans (t := s.onRecov fun r => { r with auto := b }) (onRecov_sound {} rfl) (dueTrigger_sound _)
    · exact .refl s
  · split
    · exact .refl s
    · exact Sound.trans (t := s.onGauge fun g => { g with dryT := v }) (gaugeValues_sound ⟨rfl, rfl⟩ rfl)
        (rejudgeBand_sound _)
  · split
    · exact .refl s
    · exact Sound.trans (t := s.onGauge fun g => { g with lowT := v }) (gaugeValues_sound ⟨rfl, rfl⟩ rfl)
        (rejudgeBand_sound _)
  · exact storePend_sound s _ _
  · exact storePend_sound s _ _
  · split
    · exact clearCounter_sound s _
    · exact .refl s
  · exact onMgmt_sound (fun m => { m with enable := BitVec.ofNat 16 v }) s

theorem refusedAt_sound (start offset : Nat) (r : Reason) : Sound s (refusedAt start offset r s).2 := by
  unfold refusedAt
  split
  · exact drawn_sound s
  · exact .refl s

/-- The fields of a WRITE, one after the other (R171). -/
theorem writeFields_sound (fuel start offset : Nat) (data : List Byte) (c : Option (List Byte)) :
    Sound s (writeFields fuel start offset data c s).2 := by
  induction fuel generalizing offset data c s with
  | zero => exact .refl s
  | succ fuel ih =>
    unfold writeFields
    split
    · exact .refl s
    split
    · exact refusedAt_sound s _ _ _
    split
    · exact refusedAt_sound s _ _ _
    · rename_i l _ _
      have applied := applyField_sound s l.field (ofLE (data.take l.size))
      dsimp only
      split
      · exact applied.trans (ih _ _ _ _)
      · exact applied.trans (ih _ _ _ _)
      · exact applied.trans (refusedAt_sound _ _ _ _)

theorem startSave_sound : Sound s (startSave s).2 := by
  unfold startSave
  split
  · exact onStore_sound (f := fun t => { t.put 0 [0, 0] with save := some ⟨.mark, imageOf (snapshot s)⟩, spoilt := false })
      (Memory.writeBytes_wf 0 _)
  · exact .refl s

theorem supersede_sound {p : PostParams} {k : PostKind} {old : Post}
    (found : s.postbox.posts.find? (Post.supersededBy p.dest k) = some old) : Sound s (supersede p k old s).2 := by
  unfold supersede
  refine (resolve_sound s old .superseded).trans ?_
  dsimp only
  refine onPostbox_sound fun h => ?_
  have same : (resolve old .superseded s).postbox = s.postbox := by simp
  rw [same] at h ⊢
  obtain ⟨pre, post, first⟩ := firstOf_of_find? found
  obtain ⟨⟨dest, -⟩, -⟩ : (old.dest = p.dest ∧ old.kind = k) ∧ k ≠ .notice := by
    simpa [Post.supersededBy] using first.here
  have left : ({ s.postbox with posts := pre ++ post } : Postbox).Lawful :=
    first.removeFirst ▸ h.of_sublist (removeFirst_sublist _ _)
  have few : (Postbox.of p.dest { s.postbox with posts := pre ++ post }).length < 16 :=
    Nat.lt_of_le_of_lt (left.each p.dest) (by decide)
  obtain ⟨small, free⟩ := Postbox.nextTag_free few
  rw [first.mapFirst, supersedeTag, first.removeFirst]
  exact h.replace first.split rfl rfl (Nat.zero_le 3) small (fun q mem destQ => free q mem (destQ.trans dest))
    (fun on => absurd on (by simp [Post.superseded])) (Nat.mod_lt _ (by decide))

theorem placePost_sound (p : PostParams) (k : PostKind) : Sound s (placePost p k s).2 := by
  unfold placePost
  split
  · exact supersede_sound s ‹_›
  · rename_i alone
    split
    · unfold refreshPost changePost
      dsimp only
      exact onPostbox_sound fun h => h.change (fun _ => ⟨rfl, rfl, rfl⟩) (fun _ => id) (fun _ => id)
    split
    · exact .refl s
    split
    · exact .refl s
    · refine onPostbox_sound (f := (·.add (newPost p k s.clock))) fun h => ?_
      refine h.add (Nat.not_le.1 ‹_›) (Nat.not_le.1 ‹_›) rfl (Nat.zero_le 3) fun q mem dest kind => ?_
      have := List.find?_eq_none.1 alone q mem
      simp_all [Post.supersededBy, newPost]

theorem postRequest_sound (ps : List Byte) : Sound s (postRequest ps s).2 := by
  unfold postRequest
  dsimp only
  split
  · exact .refl s
  split
  · exact .refl s
  split
  · exact .refl s
  split
  · exact .refl s
  · exact .refl s
  · exact .refl s
  split
  · exact .refl s
  · exact placePost_sound s _ _

theorem withdrawRequest_sound (ps : List Byte) : Sound s (withdrawRequest ps s).2 := by
  unfold withdrawRequest
  dsimp only
  split
  · exact (dropPost_sound s _).trans (resolve_sound _ _ _)
  · exact .refl s

theorem markRestart_sound (k : RestartKind) : Sound s (markRestart k s) := onMgmt_sound _ s

theorem runOperation_sound (o : MgmtOp) (ps : List Byte) : Sound s (runOperation o ps s).2 := by
  cases o with
  | read | logRead | status => exact .refl s
  | write => exact writeFields_sound s _ _ _ _ _
  | commit => exact commitStrap_sound s
  | discard => exact discardStrap_sound s
  | save => exact startSave_sound s
  | reload =>
    simp only [runOperation, reloadRequest]
    split
    · exact markRestart_sound s _
    · exact .refl s
  | restart => exact markRestart_sound s .restart
  | post => exact postRequest_sound s ps
  | withdraw => exact withdrawRequest_sound s ps
  | claimSelect => exact claimSelect_sound s _ (by decide)
  | claimTest => exact claimTest_sound s _
  | claimRelease => exact claimRelease_sound s _
  | remoteReset => exact remoteReset_sound s
  | attnClear => exact onMgmt_sound (fun m => { m with attn := m.attn &&& ~~~wordOf ps }) s

theorem manage_sound (f : Frame) : Sound s (manage f s).2 := by
  unfold manage
  split
  · exact .refl s
  split
  · exact .refl s
  split
  · exact .refl s
  · unfold manageOp
    split
    · exact .refl s
    split
    · exact .refl s
    · exact runOperation_sound s _ _

theorem offerPass_sound (f : Frame) : Sound s (offerPass f s).2 := by
  unfold offerPass
  split
  · exact pushField_sound ‹_›
  · exact .refl s

theorem checkDestination_sound (f : Frame) : Sound s (checkDestination f s).2 := by
  unfold checkDestination
  split
  · split
    · exact .refl s
    · exact offerPass_sound s f
  split
  · exact .refl s
  split
  · exact .refl s
  · exact .refl s
  all_goals
    split
    · exact .refl s
    · exact offerPass_sound s f

theorem relayCheck_sound (f : Frame) : Sound s (relayCheck f s).2 := by
  unfold relayCheck
  split
  · exact .refl s
  split
  · exact .refl s
  split
  · exact checkDestination_sound s f
  · exact .refl s

end requests

/-! ### The classifier (02) -/

section classifier

variable (s : State)

/-- A counter of the classifier, or its frame in hand, alone changes. -/
theorem clsCounter_sound {f : Classifier → Classifier} {s : State} (same : (f s.cls).entries = s.cls.entries) :
    Sound s (s.onCls f) := onCls_sound fun whole => by rw [same, whole]

theorem serviceOperation_sound (op : Byte) (ps : List Byte) : Sound s (serviceOperation op ps s).2 := by
  unfold serviceOperation
  split
  · exact .refl s
  split
  · exact claimSelect_sound s _ (by decide)
  split
  · exact claimTest_sound s _
  split
  · exact claimRelease_sound s _
  split
  · exact serviceReset_sound s _
  split
  · exact clearHard_sound s _
  · exact .refl s

theorem serviceHandler_sound (f : Frame) : Sound s (serviceHandler f s) := by
  unfold serviceHandler offerSvcans
  refine (serviceOperation_sound s (f.payload.getD 0 0) (f.payload.drop 1)).trans ?_
  split
  · exact pushField_sound ‹_›
  · exact clsCounter_sound rfl

theorem relayUp_sound (f : Frame) : Sound s (relayUp f s) := by
  unfold relayUp offerPassUp
  split
  · split
    · rename_i room
      refine pushHouse_sound ?_
      simpa [houseAccepts, passUpFrame, kindPassUp, kindAnswer] using room
    · exact clsCounter_sound rfl
  · exact clsCounter_sound rfl

theorem coalesce_sound (f : Frame) : Sound s (coalesce f s) := by
  unfold coalesce
  split
  · refine Sound.trans (onPorts_sound { houseTx := fun n _ few => ?_ }) (clsCounter_sound rfl)
    have parts : s.ports.onLinePart.length + s.ports.waitingPart.length = s.ports.houseTx.length := by
      unfold Ports.onLinePart Ports.waitingPart
      split <;> simp only [List.length_take, List.length_drop, List.length_nil] <;> omega
    simp only [replaceLatest, List.length_append, List.length_reverse, mapFirst_length]
    omega
  · exact clsCounter_sound rfl

theorem offerRoomUp_sound {f : Frame} (kind : f.kind = kindRoomUp) : Sound s (offerRoomUp f s) := by
  unfold offerRoomUp
  split
  · rename_i room
    refine pushHouse_sound ?_
    simpa [houseAccepts, kind, kindRoomUp, kindAnswer] using room
  · exact coalesce_sound s f

theorem misdirect_sound : Sound s (misdirect s) := clsCounter_sound rfl

theorem handleRoom_sound (e : MapEntry) (r : RxFrame) : Sound s (handleRoom e r s) := by
  have woken := (takeReport_sound s r.frame.source (reportOf r.frame)).trans
    (wake_sound _ r.frame.source none r.endTime)
  unfold handleRoom
  dsimp only
  split
  · exact woken.trans (offerRoomUp_sound _ rfl)
  · exact woken

theorem handleOwn_sound (e : MapEntry) (r : RxFrame) : Sound s (handleOwn e r s) := by
  unfold handleOwn
  split
  · split
    · exact handleRoom_sound s e r
    split
    · exact wake_sound s _ _ _
    split
    · exact wake_sound s _ _ _
    · exact misdirect_sound s
  · split
    · exact serviceHandler_sound s _
    · exact misdirect_sound s
  · exact misdirect_sound s

theorem handleOther_sound (e : MapEntry) (f : Frame) : Sound s (handleOther e f s) := by
  unfold handleOther
  split
  · exact misdirect_sound s
  split
  · exact relayUp_sound s f
  · exact clsCounter_sound rfl

theorem dispatchField_sound (r : RxFrame) : Sound s (dispatchField r s) := by
  unfold dispatchField
  split
  · split
    · split
      · exact relayUp_sound s _
      · exact clsCounter_sound rfl
    split
    · exact clsCounter_sound rfl
    split
    · exact handleOwn_sound s _ r
    · exact handleOther_sound s _ _
  · exact misdirect_sound s

theorem classify_sound (r : RxFrame) : Sound s (classify r s) :=
  ((clsCounter_sound rfl).trans (dispatchField_sound _ r)).trans (clsCounter_sound rfl)

theorem classifierTake_sound : Sound s (classifierTake s) := by
  unfold classifierTake
  split
  · rename_i r rest _ queue
    refine Sound.trans (onPorts_sound { fieldRx := fun few => ?_ }) (classify_sound _ r)
    rw [queue, List.length_cons] at few
    exact Nat.le_of_succ_le few
  · exact .refl s

theorem takeField_sound (f : Frame) (time : Tick) : Sound s (takeField f time s) := by
  unfold takeField
  split
  · split
    · split
      · exact .refl s
      · exact Sound.trans (onPorts_sound {}) (classify_sound _ _)
    · split
      · exact classifierTake_sound s
      · exact .refl s
    · exact .refl s
  · exact .refl s

end classifier

end Sys2Proof.Machine
end

section
/-! Every operation keeps the laws: the settings store, start-up, the line clock and the restart; then every command, and
with it the statements of what a run keeps. -/

-- The proofs of this section are elaborated one after another: side by side they take more threads, each with a stack of
-- its own, than the memory of the check has room for.
set_option Elab.async false

namespace Sys2Proof.Machine

/-! ### The settings store (11.4) -/

section store

variable (s : State)

theorem putDiffs_wf (ds : List (Fin 774 × Byte)) {m : Memory} (h : Memory.wf m) :
    Memory.wf (ds.foldl (fun m d => m.write d.1.val d.2) m) := by
  induction ds generalizing m with
  | nil => exact h
  | cons d ds ih => exact ih (Memory.write_wf _ _ h)

theorem saveFail_sound (p : SavePhase) (offset : Nat) : Sound s (saveFail p offset s) :=
  (onStore_sound id).trans (raise_sound _ _)

theorem transferFail_sound (p : SavePhase) : Sound s (transferFail p s) := (drawn_sound s).trans (saveFail_sound _ _ _)

/-- The bytes that a phase writes, and the phase that follows. -/
theorem putPhase_sound (a : Nat) (bs : List Byte) (p : SavePhase) :
    Sound s (s.onStore fun t => (t.put a bs).toPhase p) := onStore_sound (Memory.writeBytes_wf a bs)

theorem saveTransferDone_sound (ack : Bool) : Sound s (saveTransferDone ack s) := by
  unfold saveTransferDone
  split
  · exact .refl s
  split
  · exact .refl s
  · split
    · exact onStore_sound id
    · exact transferFail_sound s _
  · split
    · exact putPhase_sound s _ _ _
    · exact transferFail_sound s _
  · split
    · exact putPhase_sound s _ _ _
    · exact transferFail_sound s _

theorem saveReadbackDone_sound (ack : Bool) (ds : List (Fin 774 × Byte)) : Sound s (saveReadbackDone ack ds s) := by
  have put : ∀ ds, Sound s (s.onStore (·.putDiffs ds)) := fun ds => onStore_sound (putDiffs_wf ds)
  unfold saveReadbackDone
  split
  · exact .refl s
  split
  · split
    · split
      · exact Sound.trans (onStore_sound id) (raise_sound _ _)
      · exact (put _).trans (saveFail_sound _ _ _)
    · exact ((put []).trans (drawn_sound _)).trans (saveFail_sound _ _ _)
  · exact .refl s

end store

/-! ### The image loaded (11.3) -/

section load

/-- The value at a place that the list has. -/
theorem getD_of_lt {α : Type} {l : List α} {k : Nat} (d : α) (within : k < l.length) : l.getD k d = l[k] := by
  rw [List.getD_eq_getElem?_getD, List.getElem?_eq_getElem within, Option.getD_some]

/-- A repeated address, among those seen or those before it, has been made absent (R37). -/
theorem dropRepeats_getElem? (seen : List Byte) (l : List (Option Byte)) (k : Nat) :
    (dropRepeats seen l)[k]? = l[k]?.map fun o => o.filter fun a => !(seen.contains a || (l.take k).contains (some a)) := by
  induction l generalizing seen k with
  | nil => simp [dropRepeats]
  | cons o l ih =>
    cases o with
    | none => cases k <;> simp [dropRepeats, ih]
    | some a =>
      by_cases met : a ∈ seen
      · cases k with
        | zero => simp [dropRepeats, met, Option.filter]
        | succ k =>
          simp only [dropRepeats, List.contains_iff_mem, met, if_true, List.getElem?_cons_succ, ih, List.take_succ_cons]
          refine congrArg (fun f => l[k]?.map f) (funext fun o => congrArg o.filter (funext fun b => ?_))
          by_cases same : b = a <;> simp_all
      · cases k with
        | zero => simp [dropRepeats, met, Option.filter]
        | succ k =>
          simp only [dropRepeats, List.contains_iff_mem, met, if_false, List.getElem?_cons_succ, ih, List.take_succ_cons]
          refine congrArg (fun f => l[k]?.map f) (funext fun o => congrArg o.filter (funext fun b => ?_))
          by_cases same : b = a <;> simp_all

theorem slotBytes_length (body : List Byte) : (slotBytes body).length = 16 := rfl

/-- The address that the `k`-th slot byte keeps (R37). -/
def keptSlot (body : List Byte) (k : Nat) : Option Byte := (dropRepeats [] (slotBytes body)).getD k none

theorem keptSlot_eq (body : List Byte) (k : Nat) :
    keptSlot body k = ((slotBytes body).getD k none).filter fun a => !((slotBytes body).take k).contains (some a) := by
  rw [keptSlot, List.getD_eq_getElem?_getD, List.getD_eq_getElem?_getD, dropRepeats_getElem?]
  cases (slotBytes body)[k]? <;> simp

theorem keptSlot_once {body : List Byte} {j k : Nat} {a : Byte} (hj : keptSlot body j = some a)
    (hk : keptSlot body k = some a) : j = k := by
  have earlier : ∀ {i l}, i < l → keptSlot body i = some a → keptSlot body l ≠ some a := by
    intro i l less hi hl
    rw [keptSlot_eq, Option.filter_eq_some_iff] at hi hl
    have within : i < (slotBytes body).length := by
      refine Classical.byContradiction fun beyond => ?_
      rw [List.getD_eq_getElem?_getD, List.getElem?_eq_none (Nat.not_lt.1 beyond)] at hi
      simp at hi
    have there : (slotBytes body)[i] = some a := by
      rw [← getD_of_lt none within]
      exact hi.1
    have member : some a ∈ (slotBytes body).take l := by
      rw [← there]
      exact List.mem_take_iff_getElem.2 ⟨i, by omega, rfl⟩
    simp [member] at hl
  obtain less | same | less := Nat.lt_trichotomy j k
  · exact absurd hk (earlier less hj)
  · exact same
  · exact absurd hj (earlier less hk)

theorem keptSlot_device {body : List Byte} {k : Nat} {a : Byte} (h : keptSlot body k = some a) : 1 ≤ a ∧ a ≤ 61 := by
  rw [keptSlot_eq, Option.filter_eq_some_iff] at h
  have member : some a ∈ slotBytes body := by
    refine Classical.byContradiction fun absent => ?_
    rw [List.getD_eq_getElem?_getD] at h
    cases found : (slotBytes body)[k]? with
    | none => simp [found] at h
    | some o =>
      have here : o = some a := by simpa [found] using h.1
      exact absent (List.mem_of_getElem? (here ▸ found))
  obtain ⟨z, -, here⟩ := List.mem_flatMap.1 member
  have loaded : ∀ addr, some a = loadSlotByte body addr → 1 ≤ a ∧ a ≤ 61 := by
    intro addr same
    unfold loadSlotByte at same
    cases value : slotValue (bodyValue body addr 1) with
    | none => simp [value] at same
    | some o =>
      simp only [value, Option.getD_some] at same
      exact slotValue_some (same ▸ value)
  obtain same | same : some a = loadSlotByte body (zoneBase z + 1) ∨ some a = loadSlotByte body (zoneBase z + 2) := by
    simpa using here
  · exact loaded _ same
  · exact loaded _ same

theorem loadZoneField_slots (body : List Byte) (z : Fin 8) (r : Zone) (l : Located) :
    (loadZoneField body z r l).slot1 = r.slot1 ∧ (loadZoneField body z r l).slot2 = r.slot2 := by
  unfold loadZoneField
  dsimp only
  split
  · exact ⟨rfl, rfl⟩
  · exact ⟨rfl, rfl⟩
  · exact ⟨rfl, rfl⟩
  · rename_i f _ _
    cases f <;> exact ⟨rfl, rfl⟩
  · exact ⟨rfl, rfl⟩

/-- The two slots of a loaded zone: a slot 2 left without slot 1 has moved (R37). -/
theorem loadZone_slots (body : List Byte) (z : Fin 8) :
    ((loadZones body).get z).slot1 = (slotPair (keptSlot body (2 * z.val)) (keptSlot body (2 * z.val + 1))).1 ∧
    ((loadZones body).get z).slot2 = (slotPair (keptSlot body (2 * z.val)) (keptSlot body (2 * z.val + 1))).2 := by
  have fold : ∀ (ls : List Located) (r : Zone), (ls.foldl (loadZoneField body z) r).slot1 = r.slot1 ∧
      (ls.foldl (loadZoneField body z) r).slot2 = r.slot2 := by
    intro ls
    induction ls with
    | nil => exact fun _ => ⟨rfl, rfl⟩
    | cons l ls ih =>
      intro r
      have step := loadZoneField_slots body z r l
      exact ⟨(ih _).1.trans step.1, (ih _).2.trans step.2⟩
  rw [loadZones, Eight.get_ofFn]
  exact fold _ _

/-- An address of a loaded slot is that of one of the zone's two slot bytes: of the second, where the first has none. -/
theorem loaded_addr {body : List Byte} {z : Fin 8} {n : SlotNo} {a : Byte}
    (h : (((loadZones body).get z).slot n).addr = some a) :
    (n = .one ∧ keptSlot body (2 * z.val) = some a) ∨
    (n = .one ∧ keptSlot body (2 * z.val) = none ∧ keptSlot body (2 * z.val + 1) = some a) ∨
    (n = .two ∧ keptSlot body (2 * z.val) ≠ none ∧ keptSlot body (2 * z.val + 1) = some a) := by
  obtain ⟨one, two⟩ := loadZone_slots body z
  cases n <;> simp only [Zone.slot, one, two] at h <;> cases first : keptSlot body (2 * z.val) <;>
    simp_all [slotPair]

theorem loadZones_slotTable (body : List Byte) : SlotTable (loadZones body) where
  device i n a h := by
    obtain ⟨-, h⟩ | ⟨-, -, h⟩ | ⟨-, -, h⟩ := loaded_addr h <;> exact keptSlot_device h
  once i m j n a hi hj := by
    obtain ⟨hm, hi⟩ | ⟨hm, ei, hi⟩ | ⟨hm, ei, hi⟩ := loaded_addr hi <;>
      obtain ⟨hn, hj⟩ | ⟨hn, ej, hj⟩ | ⟨hn, ej, hj⟩ := loaded_addr hj <;>
      have same := keptSlot_once hi hj
    · exact ⟨Fin.ext (by omega), hm.trans hn.symm⟩
    · exact absurd same (by omega)
    · exact absurd same (by omega)
    · exact absurd same (by omega)
    · exact ⟨Fin.ext (by omega), hm.trans hn.symm⟩
    · obtain rfl : i = j := Fin.ext (by omega)
      exact absurd ei ej
    · exact absurd same (by omega)
    · obtain rfl : i = j := Fin.ext (by omega)
      exact absurd ej ei
    · exact ⟨Fin.ext (by omega), hm.trans hn.symm⟩
  behind i h := by
    obtain ⟨one, two⟩ := loadZone_slots body i
    rw [one]
    rw [two] at h
    cases first : keptSlot body (2 * i.val) <;> simp_all [slotPair]

theorem loadTable_length (body : List Byte) : (loadTable body).length = 24 := by
  unfold loadTable
  split
  · simp [bodyTable]
  · rfl

/-- A part of which every law holds, with no grant and DEMAND released. -/
structure Pristine (s : State) : Prop where
  laws : ∀ law : Law, law.holds s
  grants : s.rot.grants = []
  demand : s.burner.demand = false

theorem blank_slotTable : SlotTable State.blank.zones.recs := by
  have absent : ∀ i n, ((State.blank.zones.recs.get i).slot n).addr = none := by
    intro i n
    cases n <;> revert i <;> decide
  have none₂ : ∀ i, (State.blank.zones.recs.get i).slot2.addr = none := fun i => absent i .two
  exact ⟨fun i n a h => by simp [absent] at h, fun i m j n a h => by simp [absent] at h, fun i h => absurd (none₂ i) h⟩

theorem emptyPool_lawful : ({} : Postbox).Lawful :=
  ⟨by decide, fun _ => Nat.zero_le _, .nil, .nil, .nil, by decide, by simp⟩

theorem blank_pristine : Pristine State.blank := by
  refine ⟨fun law => ?_, rfl, rfl⟩
  cases law with
  | memory => exact Memory.wf_nil
  | claim => exact iff_of_true rfl rfl
  | houseTx n _ => exact Nat.zero_le n
  | slots => exact blank_slotTable
  | pool => exact emptyPool_lawful
  | burnerWidths => exact ⟨Nat.zero_le _, Nat.zero_le _, Nat.zero_le _⟩
  | oilWidths => exact ⟨Nat.zero_le _, Nat.zero_le _, Nat.succ_pos _⟩
  | entries => rfl
  | tables => exact ⟨rfl, rfl⟩
  | relays => exact ⟨by decide, by decide, by decide⟩
  | _ => exact Nat.zero_le _

theorem Pristine.of_keeps {s t : State} (h : Pristine s) (kept : Keeps s t) (grants : t.rot.grants = s.rot.grants)
    (demand : t.burner.demand = s.burner.demand) : Pristine t :=
  ⟨fun law => kept law (h.laws law), grants.trans h.grants, demand.trans h.demand⟩

theorem loadPlain_pristine (body : List Byte) {s : State} (l : Located) (h : Pristine s) : Pristine (loadPlain body s l) := by
  unfold loadPlain
  split
  · exact h.of_keeps (storePartFlags_keeps s _) rfl rfl
  · rename_i f _
    by_cases limit : f = .limit
    · subst limit
      refine h.of_keeps (onRot_keeps (f := fun r => { r with limit := _ }) fun _ => ?_) rfl rfl
      rw [h.grants]
      exact Nat.zero_le _
    · refine h.of_keeps (Num.store_sound s f limit _).keeps ?_ ?_ <;> cases f <;> rfl
  · exact h.of_keeps (onRecov_sound (f := fun r =>
      { r with auto := (boolOf (bodyValue body l.start l.size)).getD false }) {} rfl).keeps rfl rfl
  · exact h

theorem loadedPart_pristine (body : List Byte) : Pristine (loadedPart body) := by
  have fold : ∀ (ls : List Located) (s : State), Pristine s → Pristine (ls.foldl (loadPlain body) s) := by
    intro ls
    induction ls with
    | nil => exact fun _ h => h
    | cons l ls ih => exact fun s h => ih _ (loadPlain_pristine body l h)
  have entries : (loadEntries body).length = 16 := by simp [loadEntries]
  have map := blank_pristine.of_keeps (onCls_sound (f := fun c => { c with entries := loadEntries body })
    fun _ => entries).keeps rfl rfl
  have zones := map.of_keeps (onZones_sound (f := fun u => { u with recs := loadZones body })
    fun _ => loadZones_slotTable body).keeps rfl rfl
  have tables := zones.of_keeps (onGauge_keeps (f := fun g => { g with live := loadTable body, pend := loadTable body })
    fun _ => ⟨loadTable_length body, loadTable_length body⟩) rfl rfl
  refine (fold _ _ tables).of_keeps (onGauge_keeps fun whole => ?_) rfl rfl
  split <;> exact whole

theorem loadSource_pristine (ack : Bool) (t : Store) : Pristine (loadSource ack t) := by
  unfold loadSource
  split
  · exact loadedPart_pristine _
  · exact blank_pristine

end load

/-! ### Start-up -/

section startup

variable (s : State)

/-- With DEMAND released there is nothing to permit. -/
theorem RelaysLawful.lawful_of_released {s : State} (h : RelaysLawful s) (released : s.burner.demand = false) :
    DemandLawful s :=
  h.lawful fun on => absurd (released.symm.trans on) (by simp)

theorem handStart_sound (i : Fin 8) : Sound s (handStart i s) :=
  Sound.trans (onZone_sound ⟨rfl, rfl⟩) (handOver_sound _ _ _ _)

theorem Zone.restarted_sameSlots (band : Band) (now : Clock) (z : Zone) : z.SameSlots (z.restarted band now) := by
  unfold Zone.restarted
  split <;> exact ⟨rfl, rfl⟩

theorem restartZones_sound : Sound s (restartZones s) := by
  refine Sound.trans (onZones_sound (SlotTable.of_same fun i => ?_)) (foldl_sound _ (fun t i => handStart_sound t i) _)
  rw [Eight.get_map]
  exact Zone.restarted_sameSlots _ _ _

theorem powerOnValues_sound (strap ack rdy run lock : Bool) : Sound s (powerOnValues strap ack rdy run lock s) := by
  have loaded := loadSource_pristine (strap && ack) s.store
  have relays : RelaysLawful (powerOnValues strap ack rdy run lock s) :=
    ⟨(loaded.laws .relays).states, fun on => absurd (loaded.demand.symm.trans on) (by simp), (loaded.laws .relays).pulse⟩
  refine ⟨fun law h => ?_, fun _ => relays.lawful_of_released loaded.demand⟩
  cases law with
  | memory => exact h
  | houseTx n _ => exact Nat.zero_le n
  | fieldRx | houseRx | fieldTx => exact Nat.zero_le _
  | relays => exact relays
  | claim => exact loaded.laws .claim
  | recoveryLog => exact loaded.laws .recoveryLog
  | oilEvents => exact loaded.laws .oilEvents
  | budget => exact loaded.laws .budget
  | grants => exact loaded.laws .grants
  | burnerWidths => exact loaded.laws .burnerWidths
  | oilWidths => exact loaded.laws .oilWidths
  | pool => exact loaded.laws .pool
  | slots => exact loaded.laws .slots
  | entries => exact loaded.laws .entries
  | tables => exact loaded.laws .tables

theorem powerOn_sound (strap ack rdy run lock : Bool) : Sound s (powerOn strap ack rdy run lock s) :=
  (powerOnValues_sound s _ _ _ _ _).trans (restartZones_sound _)

theorem powerLoss_sound : Sound s (powerLoss s) := by
  have relays : RelaysLawful (powerLoss s) := ⟨(blank_pristine.laws .relays).states, (blank_pristine.laws .relays).settled,
    (blank_pristine.laws .relays).pulse⟩
  refine ⟨fun law h => ?_, fun _ => relays.lawful_of_released rfl⟩
  cases law with
  | memory => exact h
  | relays => exact relays
  | claim => exact blank_pristine.laws .claim
  | houseTx n _ => exact Nat.zero_le n
  | fieldRx | houseRx | fieldTx | recoveryLog | oilEvents | budget | grants => exact Nat.zero_le _
  | burnerWidths => exact blank_pristine.laws .burnerWidths
  | oilWidths => exact blank_pristine.laws .oilWidths
  | pool => exact blank_pristine.laws .pool
  | slots => exact blank_pristine.laws .slots
  | entries => exact blank_pristine.laws .entries
  | tables => exact blank_pristine.laws .tables

/-! ### The line clock -/

theorem advanceClock_sound : Sound s (advanceClock s) := by
  refine ⟨fun law h => ?_, DemandAlike.lawful {}⟩
  cases law with
  | relays => exact DemandAlike.relays {} h
  | _ => exact h

theorem countDown_sound (run lock : Bool) : Sound s (countDown run lock s) := by
  have relays : RelaysLawful s → RelaysLawful (countDown run lock s) := fun h => ⟨h.states, h.settled, h.pulse⟩
  refine ⟨fun law h => ?_, fun h => (relays h.relays).lawful fun on => ?_⟩
  · cases law with
    | relays => exact relays h
    | slots =>
      refine SlotTable.of_same (fun i => ?_) h
      change (s.zones.recs.get i).SameSlots ((s.zones.recs.map _).get i)
      rw [Eight.get_map]
      exact ⟨rfl, rfl⟩
    | _ => exact h
  · obtain ⟨permit, recovery, oil, reset, gap, rest⟩ := demandConditions_iff.1 (h.permitted on)
    have stopped : tickDown s.burner.gap = none := by rw [gap]; rfl
    exact demandConditions_iff.2 ⟨permit, recovery, oil, reset, stopped, rest⟩

theorem markRoll_sound : Sound s (markRoll s) := by
  rw [markRoll_eq]
  exact onOil_sound {}

theorem runClockEvent_sound (e : ClockEvent) : Sound s (runClockEvent e s) := by
  cases e with
  | readingAgesOut z n => exact readingAgesOut_sound s z n
  | overrideExpires z => exact overrideExpires_sound s z
  | fallbackPhaseChange z => exact fallbackPhaseChange_sound s z
  | valveTravelEnd i => exact valveTravelEnd_sound s i
  | overrunEnds => exact overrunEnds_sound s
  | inputAccepted i => exact inputAccepted_sound s i
  | startLimitExpires => exact startLimitExpires_sound s
  | runoutLimitExpires => exact runoutLimitExpires_sound s
  | backOffExpires => exact backOffExpires_sound s
  | clearTimerExpires => exact clearTimerExpires_sound s
  | resetGapEnds => exact resetGapEnds_sound s
  | coolOffExpires => exact coolOffExpires_sound s
  | spacingExpires => exact spacingExpires_sound s
  | budgetEntryAgesOut => exact budgetEntryAgesOut_sound s
  | pregapEnds => exact pregapEnds_sound s
  | pulseEnds => exact pulseEnds_sound s
  | postgapEnds => exact postgapEnds_sound s
  | checkingExpires => exact checkingExpires_sound s
  | claimHoldExpires => exact claimHoldExpires_sound s
  | reconcileTimerExpires => exact reconcileTimerExpires_sound s
  | sampleTimerExpires => exact sampleTimerExpires_sound s
  | gaugeReportDue => exact gaugeReportDue_sound s
  | postExpires d tag => exact postExpires_sound s d tag

theorem firingSecond_sound : Sound s (firingSecond s) := by
  have recov : s.recov.firingSecond.state = s.recov.state ∧ s.recov.Kept s.recov.firingSecond := by
    unfold Recovery.firingSecond
    split <;> exact ⟨rfl, {}⟩
  refine ⟨fun law h => ?_, DemandAlike.lawful { recovery := recov.1 }⟩
  cases law with
  | relays => exact DemandAlike.relays { recovery := recov.1 } h
  | burnerWidths => exact ⟨Nat.min_le_left _ _, Nat.min_le_left _ _, h.2.2⟩
  | oilWidths => exact (Oil.burn_kept _).wide h
  | oilEvents => exact (Oil.burn_kept _).events h
  | recoveryLog => exact recov.2.log h
  | budget => exact recov.2.budget h
  | claim => exact recov.2.claim h
  | grants => simpa [Law.holds, firingSecond, Rotation.firingSecond] using h
  | _ => exact h

theorem lineClockAdvance_sound (run lock : Bool) (first : List ClockEvent) :
    Sound s (lineClockAdvance run lock first s) := by
  have advanced := ((advanceClock_sound s).trans (countDown_sound _ run lock)).trans (markRoll_sound _)
  refine (advanced.trans (foldl_sound _ (fun t e => runClockEvent_sound t e) first)).trans ?_
  unfold lineClockAdvance
  simp only [deliverSecond]
  split
  · exact firingSecond_sound _
  · exact .refl _

/-! ### The restart -/

theorem deriveBurner_sound (left : BurnerState) : Sound s (deriveBurner left s) := by
  unfold deriveBurner
  split
  · split
    · split
      · exact toRunout_sound s
      · exact enterSenseFault_sound s left
    split
    · exact onBurner_released id rfl (by simp [Burner.toLocked]) rfl
    · exact .refl s
  · exact .refl s

theorem Gauge.restarted_sameTables (reload : Bool) (g : Gauge) : g.SameTables (g.restarted reload) := by
  cases reload <;> exact ⟨rfl, rfl⟩

/-- The restart values of a part `u` that meets the laws of `s`, but for those of the grant set, which they empty. -/
theorem restartValues_keeps {s u : State} (reload run lock : Bool)
    (kept : ∀ law : Law, law ≠ .grants → law.holds s → law.holds u) : Keeps s (restartValues reload run lock u) := by
  intro law h
  cases law with
  | memory => exact kept .memory nofun h
  | claim => exact iff_of_true rfl rfl
  | houseTx n _ => exact Nat.zero_le n
  | fieldRx | houseRx | fieldTx | grants => exact Nat.zero_le _
  | recoveryLog => simpa [Law.holds, restartValues, Recovery.restarted] using kept .recoveryLog nofun h
  | oilEvents => cases reload <;> exact kept .oilEvents nofun h
  | budget => exact kept .budget nofun h
  | burnerWidths =>
    have wide := kept .burnerWidths nofun h
    simp only [Law.holds, restartValues, Burner.restarted]
    split
    · exact ⟨wide.1, Nat.zero_le _, wide.2.1⟩
    · exact wide
  | oilWidths => cases reload <;> exact kept .oilWidths nofun h
  | pool => exact emptyPool_lawful.of_same rfl rfl
  | slots => exact kept .slots nofun h
  | entries => exact kept .entries nofun h
  | tables => exact (Gauge.restarted_sameTables reload u.gauge).whole (kept .tables nofun h)
  | relays =>
    refine ⟨by simp [restartValues, Burner.restarted], fun on => absurd on (by simp [restartValues, Burner.restarted]), ?_⟩
    simp only [restartValues, Burner.restarted, Recovery.restarted]
    split <;> simp

theorem restartPart_sound {s u : State} (reload run lock : Bool)
    (kept : ∀ law : Law, law ≠ .grants → law.holds s → law.holds u) : Sound s (restartPart reload run lock u) :=
  (((restartValues_keeps reload run lock kept).trans (deriveBurner_sound _ _).keeps).trans
    (restartZones_sound _).keeps).judged

/-- A RELOAD's load keeps the laws but for the grant set: the limit may be lower than what is granted (R184). -/
theorem reloadSettings_kept (ack : Bool) (law : Law) (other : law ≠ .grants) (h : law.holds s) :
    law.holds (reloadSettings ack s) := by
  have loaded := loadSource_pristine ack s.store
  have stored : ∀ t : State, Sound t (t.onStore fun t =>
      if imageAccepted ack t then { t with fault := false }
      else { t with fault := true, failures := satInc t.failures }) := fun t =>
    onStore_sound fun wf => by split <;> exact wf
  refine (stored _).keeps law ?_
  cases law with
  | grants => exact absurd rfl other
  | slots =>
    refine SlotTable.of_same (fun i => ?_) (loaded.laws .slots)
    rw [copySettings, Eight.get_ofFn]
    exact ⟨rfl, rfl⟩
  | entries => exact loaded.laws .entries
  | tables => exact loaded.laws .tables
  | relays => exact ⟨h.states, h.settled, h.pulse⟩
  | _ => exact h

theorem restartEffect_sound (ack run lock : Bool) : Sound s (restartEffect ack run lock s) := by
  unfold restartEffect
  split
  · split
    · split
      · exact restartPart_sound false run lock fun _ _ h => h
      · exact restartPart_sound true run lock (reloadSettings_kept s ack)
    · exact .refl s
  · exact .refl s

end startup

end Sys2Proof.Machine
end

section
/-! Every command keeps the laws (O55 to O58), and the part as reset meets them (O59). -/

-- The proofs of this section are elaborated one after another: side by side they take more threads, each with a stack of
-- its own, than the memory of the check has room for.
set_option Elab.async false

namespace Sys2Proof.Machine

/-! ### Across a whole command -/

/-- The laws that stand at the end of a command: in the house transmit queue an ANSWER may take the last place (R168). -/
def Law.lasts : Law → Prop
  | .houseTx n _ => 16 ≤ n
  | _ => True

/-- `t` meets every lasting law that `s` meets. -/
structure StepSound (s t : State) : Prop where
  keeps : ∀ law : Law, law.lasts → law.holds s → law.holds t
  demand : DemandLawful s → DemandLawful t

theorem Sound.step {s t : State} (h : Sound s t) : StepSound s t := ⟨fun law _ => h.keeps law, h.demand⟩

theorem StepSound.refl (s : State) : StepSound s s := (Sound.refl s).step

theorem StepSound.trans {s t u : State} (first : StepSound s t) (second : StepSound t u) : StepSound s u :=
  ⟨fun law lasts h => second.keeps law lasts (first.keeps law lasts h), second.demand ∘ first.demand⟩

section requests

variable {s : State}

/-- An entry joins a house transmit queue in which a place is free. -/
theorem pushHouse_stepSound (e : HouseEntry) (free : s.ports.houseTx.length ≤ 15) : StepSound s (pushHouse e s) := by
  refine ⟨fun law lasts h => ?_, DemandAlike.lawful {}⟩
  cases law with
  | relays => exact DemandAlike.relays {} h
  | houseTx n _ =>
    have few : s.ports.houseTx.length + 1 ≤ n := Nat.le_trans (Nat.succ_le_succ free) lasts
    simpa [Law.holds, pushHouse] using few
  | _ => exact h

/-- A request is worked while 15 entries at most wait, so that its ANSWER finds a place. -/
theorem offerAnswer_stepSound (tag : Byte) {r : Answer × State} (worked : Sound s r.2)
    (free : s.ports.houseTx.length ≤ 15) : StepSound s (offerAnswer tag r) :=
  worked.step.trans (pushHouse_stepSound _ (worked.keeps (.houseTx 15 (Nat.le_refl 15)) free))

theorem handleHouse_stepSound (f : Frame) (free : s.ports.houseTx.length ≤ 15) : StepSound s (handleHouse f s) := by
  unfold handleHouse
  split
  · exact offerAnswer_stepSound _ (manage_sound s f) free
  · split
    · exact offerAnswer_stepSound _ (relayCheck_sound s f) free
    · exact (onMgmt_sound _ s).step

theorem takeHouse_stepSound (f : Frame) : StepSound s (takeHouse f s) := by
  unfold takeHouse
  split
  · rename_i taken
    have free : s.ports.houseTx.length ≤ 15 := by
      simp only [dispatcherReady, Bool.and_eq_true, decide_eq_true_eq] at taken
      omega
    split
    · exact handleHouse_stepSound f free
    · rename_i g rest queue
      split
      · refine StepSound.trans (Sound.step (onPorts_sound { houseRx := fun few => ?_ })) (handleHouse_stepSound f free)
        rw [queue, List.length_cons] at few
        exact Nat.le_of_succ_le few
      · exact .refl s
  · exact .refl s

end requests

/-! ### The commands -/

/-- The outcome is that of a command of a part with supply (log 2), whose work keeps the lasting laws and the queue of
commands. -/
def Works (s : State) (o : Host.Outcome State Fault Refusal) : Prop :=
  ∃ f : State → State, o = whenOn f s ∧ StepSound s (f s) ∧ (f s).pending = s.pending

section commands

variable (s : State)

theorem houseRequest_works (f : Frame) : Works s (houseRequest f s) :=
  ⟨takeHouse f, rfl, takeHouse_stepSound f, by simp⟩

theorem fieldRequest_works (f : Frame) (time : Tick) : Works s (fieldRequest f time s) :=
  ⟨_, rfl, Sound.step ((reach_sound time s).trans (takeField_sound _ f time)), by simp⟩

theorem eitherRequest_works (op : Byte) (r : Request) : Works s (eitherRequest op r s) := by
  cases r with
  | house h => exact houseRequest_works s _
  | field v => exact fieldRequest_works s _ _

theorem unknownOp_works (r : Request) : Works s (execUnknownOp r s) := by
  cases r with
  | house h => exact houseRequest_works s _
  | field v => exact fieldRequest_works s _ _

theorem houseKindDrop_works (f : Frame) : Works s (execHouseKindDrop f s) := by
  unfold execHouseKindDrop
  split
  · exact ⟨id, by simp [whenOn], .refl s, rfl⟩
  · exact houseRequest_works s f

/-- An event of one block. -/
theorem event_works {f : State → State} (sound : Sound s (f s)) (pending : (f s).pending = s.pending := by simp) :
    Works s (whenOn f s) := ⟨f, rfl, sound.step, pending⟩

/-- An event that carries its moment. -/
theorem reached_works (time : Tick) {f : State → State} (sound : ∀ u, Sound u (f u))
    (pending : ∀ u, (f u).pending = u.pending := by simp) : Works s (whenOn (fun s => f (s.reach time)) s) :=
  event_works s ((reach_sound time s).trans (sound _)) ((pending _).trans (by simp))

theorem echoCheck_works (value : Byte) (parity stop : Bool) (time : Tick) :
    Works s (execEchoCheck value parity stop time s) := by
  refine event_works s ?_ ?_
  · split
    · exact (reach_sound time s).trans (echoCheck_sound _ _)
    · exact reach_sound time s
  · split <;> simp

/-- Every command but those of the supply. -/
theorem exec_works (c : Instr) (supplied : c ≠ .powerLoss)
    (started : ∀ strap ack rdy run lock, c ≠ .powerOn strap ack rdy run lock) : Works s (exec c s) := by
  cases c with
  | powerOn strap readAck rdy run lock => exact absurd rfl (started strap readAck rdy run lock)
  | powerLoss => exact absurd rfl supplied
  | lineClockAdvance levels first => exact event_works s (lineClockAdvance_sound s _ _ _)
  | characterReceived line value parity stop time => exact reached_works s time fun u => characterReceived_sound u _ _
  | frameTruncated line moment => exact reached_works s moment.time fun u => frameTruncated_sound u _ _
  | skipEnd line moment => exact reached_works s moment.time fun u => skipEnd_sound u _ _
  | fieldTransmitStart moment => exact reached_works s moment.time fun u => fieldTransmitStart_sound u _
  | echoCheck value parity stop time => exact echoCheck_works s _ _ _ _
  | replyWithdrawn time => exact reached_works s time replyWithdrawn_sound
  | rdyChange level => exact event_works s (rdyChange_sound s level)
  | houseTransmitStart => exact event_works s (houseTransmitStart_sound s)
  | houseFrameSent => exact event_works s (houseFrameSent_sound s)
  | classifierTake time => exact reached_works s time classifierTake_sound
  | readingAgesOut z n => exact event_works s (readingAgesOut_sound s z n)
  | overrideExpires z => exact event_works s (overrideExpires_sound s z)
  | fallbackPhaseChange z => exact event_works s (fallbackPhaseChange_sound s z)
  | turnExpires z => exact event_works s (turnExpires_sound s z)
  | valveTravelEnd z => exact event_works s (valveTravelEnd_sound s z)
  | overrunEnds => exact event_works s (overrunEnds_sound s)
  | inputAccepted i => exact event_works s (inputAccepted_sound s i)
  | startLimitExpires => exact event_works s (startLimitExpires_sound s)
  | runoutLimitExpires => exact event_works s (runoutLimitExpires_sound s)
  | backOffExpires => exact event_works s (backOffExpires_sound s)
  | clearTimerExpires => exact event_works s (clearTimerExpires_sound s)
  | resetGapEnds => exact event_works s (resetGapEnds_sound s)
  | coolOffExpires => exact event_works s (coolOffExpires_sound s)
  | spacingExpires => exact event_works s (spacingExpires_sound s)
  | budgetEntryAgesOut => exact event_works s (budgetEntryAgesOut_sound s)
  | pregapEnds => exact event_works s (pregapEnds_sound s)
  | pulseEnds => exact event_works s (pulseEnds_sound s)
  | postgapEnds => exact event_works s (postgapEnds_sound s)
  | checkingExpires => exact event_works s (checkingExpires_sound s)
  | proved => exact event_works s (provedEvent_sound s)
  | claimHoldExpires => exact event_works s (claimHoldExpires_sound s)
  | sampleTimerExpires => exact event_works s (sampleTimerExpires_sound s)
  | supplyConversionDone count => exact event_works s (supplyConversionDone_sound s count)
  | sampleTaken count => exact event_works s (sampleTaken_sound s count)
  | gaugeReportDue => exact event_works s (gaugeReportDue_sound s)
  | reconcileTimerExpires => exact event_works s (reconcileTimerExpires_sound s)
  | dailyRingRoll beforeSecond => exact event_works s (dailyRingRoll_sound s beforeSecond)
  | postExpires d tag => exact event_works s (postExpires_sound s d tag)
  | saveTransferDone ack => exact event_works s (saveTransferDone_sound s ack)
  | saveReadbackDone ack ds => exact event_works s (saveReadbackDone_sound s ack ds)
  | restartEffect ack run lock time => exact reached_works s time fun u => restartEffect_sound u _ _ _
  | houseKindDrop f => exact houseKindDrop_works s f
  | unknownOp r => exact unknownOp_works s r
  | read r | claimSelect r | claimTest r | claimRelease r => exact eitherRequest_works s _ r
  | serviceReset r | clearHard r => exact fieldRequest_works s _ _
  | relayDown r | write r | commitStrap r | discardStrap r | save r | restart r | reload r | post r | withdraw r
  | remoteReset r | attnClear r | logRead r | status r => exact houseRequest_works s _
  | attentionEnableWrite tag v | concurrentLimitWrite tag v | turnLengthWrite tag v | bypassFittedWrite tag v
  | dryStopWrite tag v | autoRecoveryWrite tag v | resetWithoutGaugeWrite tag v | budgetWindowWrite tag v
  | provingTimeWrite tag v | gaugeReportIntervalWrite tag v | reconcileIntervalWrite tag v =>
    exact houseRequest_works s _
  | counterClear tag i v | zoneEnableWrite tag i v | overrideDurationWrite tag i v | stalenessLimitWrite tag i v
  | fallbackOnTimeWrite tag i v | routeWrite tag i v | bandThresholdWrite tag i v => exact houseRequest_works s _
  | zoneSettingWrite tag z f v | slotWrite tag z f v => exact houseRequest_works s _

/-- Every command answers a next state, which meets every lasting law and has the queue of commands as it was. -/
theorem exec_next (c : Instr) : ∃ t, exec c s = .next t ∧ StepSound s t ∧ t.pending = s.pending := by
  by_cases lost : c = .powerLoss
  · subst lost
    exact ⟨_, rfl, (powerLoss_sound s).step, by simp⟩
  by_cases on : ∃ strap ack rdy run lock, c = .powerOn strap ack rdy run lock
  · obtain ⟨strap, ack, rdy, run, lock, rfl⟩ := on
    exact ⟨_, rfl, (powerOn_sound s _ _ _ _ _).step, by simp⟩
  have other : ∀ strap ack rdy run lock, c ≠ .powerOn strap ack rdy run lock := fun strap ack rdy run lock same =>
    on ⟨strap, ack, rdy, run, lock, same⟩
  obtain ⟨f, answers, sound, pending⟩ := exec_works s c lost other
  rw [answers, whenOn]
  split
  · exact ⟨_, rfl, sound, pending⟩
  · exact ⟨_, rfl, .refl s, rfl⟩

end commands

/-! ### The step -/

theorem pending_sound (s : State) (cs : List Instr) : Sound s { s with pending := cs } := by
  refine ⟨fun law h => ?_, DemandAlike.lawful {}⟩
  cases law with
  | relays => exact DemandAlike.relays {} h
  | _ => exact h

theorem step_stepSound {s t : State} (h : step s = .next t) : StepSound s t := by
  unfold step at h
  split at h
  · cases h
    exact .refl s
  · obtain ⟨u, answers, sound, -⟩ := exec_next { s with pending := _ } _
    cases h.symm.trans answers
    exact (pending_sound s _).step.trans sound

/-! ### The obligations -/

/-- Settles O55. -/
theorem memoryStaysCanonical : Obligations.MemoryStaysCanonical := fun _ _ h taken =>
  (step_stepSound taken).keeps .memory trivial h

/-- Settles O56. -/
theorem claimStaysCoherent : Obligations.ClaimStaysCoherent := fun _ _ h taken =>
  (step_stepSound taken).keeps .claim trivial h

/-- DEMAND is permitted with RESET released alone (R82), so the two are never energized together (R90). -/
theorem DemandLawful.apart {s : State} (h : DemandLawful s) : RelaysApart s := by
  rintro ⟨demand, reset⟩
  obtain ⟨-, -, -, released, -⟩ := demandConditions_iff.1 (h.permitted demand)
  exact absurd (released.symm.trans reset) (by simp)

/-- Settles O57. -/
theorem demandStaysLawful : Obligations.DemandStaysLawful := fun _ _ h taken =>
  have lawful := (step_stepSound taken).demand h
  ⟨lawful, lawful.apart⟩

theorem withinPlaces_of_keeps {s t : State} (h : WithinPlaces s)
    (keeps : ∀ law : Law, law.lasts → law.holds s → law.holds t) : WithinPlaces t where
  fieldRx := keeps .fieldRx trivial h.fieldRx
  houseRx := keeps .houseRx trivial h.houseRx
  fieldTx := keeps .fieldTx trivial h.fieldTx
  houseTx := keeps (.houseTx 16 (by decide)) (Nat.le_refl 16) h.houseTx
  recoveryLog := keeps .recoveryLog trivial h.recoveryLog
  oilEvents := keeps .oilEvents trivial h.oilEvents
  budget := keeps .budget trivial h.budget
  grants := keeps .grants trivial h.grants

theorem withinWidths_iff {s : State} : WithinWidths s ↔ s.burner.Wide ∧ s.oil.Wide :=
  ⟨fun ⟨total, period, last, used, firing, remainder⟩ => ⟨⟨total, period, last⟩, used, firing, remainder⟩,
    fun ⟨⟨total, period, last⟩, used, firing, remainder⟩ => ⟨total, period, last, used, firing, remainder⟩⟩

/-- Settles O58. -/
theorem queuesStayWithinPlaces : Obligations.QueuesStayWithinPlaces := by
  refine ⟨fun s t h taken => ?_, fun s t h taken => ?_, fun s t h taken => ?_, fun s t h taken => ?_,
    fun s t h taken => ?_⟩ <;> have keeps := (step_stepSound taken).keeps
  · exact withinPlaces_of_keeps h keeps
  · obtain ⟨burner, oil⟩ := withinWidths_iff.1 h
    exact withinWidths_iff.2 ⟨keeps .burnerWidths trivial burner, keeps .oilWidths trivial oil⟩
  · exact poolLawful_iff.2 (keeps .pool trivial (poolLawful_iff.1 h))
  · exact slotsLawful_iff.2 (keeps .slots trivial (slotsLawful_iff.1 h))
  · obtain ⟨entries, live, pend⟩ := h
    obtain ⟨live, pend⟩ := keeps .tables trivial ⟨live, pend⟩
    exact ⟨keeps .entries trivial entries, live, pend⟩

/-! ### Reset -/

/-- Reset is the power-on of a part that holds nothing, with the strap low (log 5). -/
theorem powerOn_blank : powerOn false true false false false State.blank = State.reset := by decide +kernel

theorem reset_keeps (law : Law) : law.holds State.reset := by
  rw [← powerOn_blank]
  exact (powerOn_sound _ _ _ _ _ _).keeps law (blank_pristine.laws law)

theorem reset_demandLawful : DemandLawful State.reset := (reset_keeps .relays).lawful_of_released rfl

theorem blank_withinPlaces : WithinPlaces State.blank := by constructor <;> decide

/-- Settles O59. -/
theorem lawsHoldAtReset : Obligations.LawsHoldAtReset := by
  have entries : State.reset.cls.entries.length = 16 := reset_keeps .entries
  obtain ⟨live, pend⟩ : State.reset.gauge.live.length = 24 ∧ State.reset.gauge.pend.length = 24 := reset_keeps .tables
  exact ⟨reset_keeps .memory, reset_keeps .claim, reset_demandLawful, reset_demandLawful.apart,
    withinPlaces_of_keeps blank_withinPlaces fun law _ _ => reset_keeps law,
    withinWidths_iff.2 ⟨reset_keeps .burnerWidths, reset_keeps .oilWidths⟩, poolLawful_iff.2 (reset_keeps .pool),
    slotsLawful_iff.2 (reset_keeps .slots), entries, live, pend⟩

/-- Settles O1. -/
theorem stepTakesTheFrontCommand : Obligations.StepTakesTheFrontCommand :=
  ⟨fun _ _ _ => rfl, fun s none => by simp [step, none]⟩

/-- Settles O2. -/
theorem everyCommandAnswersANextState : Obligations.EveryCommandAnswersANextState := by
  refine ⟨fun c s => ?_, fun c s off lost on => ?_⟩
  · obtain ⟨t, answers, -, pending⟩ := exec_next s c
    exact ⟨t, answers, pending⟩
  · obtain ⟨f, answers, -⟩ := exec_works s c lost on
    rw [answers, whenOn, off]
    rfl

/-- Settles O4. -/
theorem powerLossKeepsTheMemoryAlone : Obligations.PowerLossKeepsTheMemoryAlone := fun _ =>
  ⟨_, rfl, rfl, rfl, fun _ => rfl, rfl⟩

end Sys2Proof.Machine
end

section
/-! The line clock: the second that an advance takes, its events in order, and the firing second (O5, O6). -/

namespace Sys2Proof.Machine

/-- An advance before its events. -/
theorem markRoll_countDown (run lock : Bool) (s : State) :
    markRoll (countDown run lock (advanceClock s)) = secondOn run lock s := by
  rw [markRoll_eq]
  rfl

theorem lineClockAdvance_eq (run lock : Bool) (first : List ClockEvent) (s : State) :
    lineClockAdvance run lock first s = deliverSecond (eventsTaken first (secondOn run lock s)) := by
  rw [lineClockAdvance, advanceTaken, markRoll_countDown]
  rfl

theorem exec_lineClockAdvance {s : State} (on : s.powered = true) (run lock : Bool) (first : List ClockEvent) :
    exec (.lineClockAdvance ⟨run, lock⟩ first) s =
      .next (deliverSecond (eventsTaken first (secondOn run lock s))) := by
  rw [← lineClockAdvance_eq]
  exact whenOn_powered on

theorem exec_clockCommand (e : ClockEvent) {s : State} (on : s.powered = true) :
    exec (clockCommand e) s = .next (runClockEvent e s) := by
  cases e <;> exact whenOn_powered on

theorem eventsTaken_clock (es : List ClockEvent) (s : State) : (eventsTaken es s).clock = s.clock :=
  (runClockEvents_frame es s).2.2.2.2.1

/-! ### A sample of an input -/

theorem Debounced.sample_accepted {level : Bool} {d : Debounced} (same : d.acc = some level) :
    (d.sample level).change = none := by simp [Debounced.sample, same]

theorem Debounced.sample_changed {level : Bool} {d : Debounced} (other : d.acc ≠ some level) (changed : d.raw ≠ level) :
    (d.sample level).change = some 0 := by simp [Debounced.sample, other, Ne.symm changed]

theorem Debounced.sample_counts {level : Bool} {d : Debounced} (other : d.acc ≠ some level) (same : d.raw = level)
    {n : Nat} (counted : d.change = some n) : (d.sample level).change = some (min 2 (n + 1)) := by
  simp [Debounced.sample, other, same, counted]

/-- Settles O5. -/
theorem lineClockAdvances : Obligations.LineClockAdvances := by
  refine ⟨fun run lock first s on idle => ?_, fun e s on => exec_clockCommand e on, fun level d =>
    ⟨rfl, rfl, Debounced.sample_accepted, Debounced.sample_changed,
      fun other same _ counted => Debounced.sample_counts other same counted⟩⟩
  rw [exec_lineClockAdvance on, deliverSecond, if_neg idle]

/-! ### The firing second -/

theorem deliverSecond_firing {s : State} (firing : s.burner.state = .firing) : deliverSecond s = firingSecond s :=
  if_pos firing

theorem Oil.burn_today (o : Oil) : o.burn.today = o.today + 1 := by
  unfold Oil.burn
  split <;> rfl

/-- A burn while BASED keeps the millilitres and their remainder as one amount until the total reaches its top (R140). -/
theorem Oil.burn_based {o : Oil} (based : o.based = true) :
    o.burn.remainder < 3600 ∧ o.burn.firing = min 4294967295 (o.firing + 1) ∧
      (o.used + (o.remainder + o.nozzle) / 3600 ≤ 1099511627775 →
        3600 * o.burn.used + o.burn.remainder = 3600 * o.used + o.remainder + o.nozzle) ∧
      (1099511627775 < o.used + (o.remainder + o.nozzle) / 3600 → o.burn.used = 1099511627775) := by
  have burnt : o.burn = { o with
      remainder := (o.remainder + o.nozzle) % 3600
      used := min 1099511627775 (o.used + (o.remainder + o.nozzle) / 3600)
      firing := min 4294967295 (o.firing + 1)
      today := o.today + 1 } := by
    rw [Oil.burn, if_pos based]
    rfl
  rw [burnt]
  exact ⟨Nat.mod_lt _ (by decide), rfl, fun h => by dsimp only; omega, fun h => by dsimp only; omega⟩

theorem Oil.burn_unbased {o : Oil} (unbased : o.based = false) : o.burn = { o with today := o.today + 1 } := by
  simp [Oil.burn, unbased]

/-- A burn changes these four alone. -/
theorem Oil.burn_eq (o : Oil) : o.burn = { o with
    today := o.burn.today, used := o.burn.used, remainder := o.burn.remainder, firing := o.burn.firing } := by
  unfold Oil.burn
  split <;> rfl

theorem Recovery.firingSecond_eq (r : Recovery) :
    r.firingSecond = { r with proving := if r.state = .proving then r.proving + 1 else r.proving } := by
  unfold Recovery.firingSecond
  split <;> rfl

/-- A firing second moves the turns, the totals, the proving count and the burn alone. -/
theorem firingSecond_eq (u : State) : firingSecond u = { u with
    rot := { u.rot with
      grants := u.rot.grants.map (fun g => { g with turn := min 3600 (g.turn + 1) })
      lastFiring := some u.clock }
    burner := { u.burner with
      period := min 4294967295 (u.burner.period + 1), firingTotal := min 4294967295 (u.burner.firingTotal + 1) }
    recov := { u.recov with proving := if u.recov.state = .proving then u.recov.proving + 1 else u.recov.proving }
    oil := { u.oil with
      today := (firingSecond u).oil.today, used := (firingSecond u).oil.used
      remainder := (firingSecond u).oil.remainder, firing := (firingSecond u).oil.firing } } := by
  conv => lhs; rw [firingSecond, Recovery.firingSecond_eq, Oil.burn_eq]
  rfl

theorem firingSecond_unbased {u : State} (unbased : u.oil.based = false) :
    (firingSecond u).oil.used = u.oil.used ∧ (firingSecond u).oil.remainder = u.oil.remainder ∧
      (firingSecond u).oil.firing = u.oil.firing := by
  have burnt : (firingSecond u).oil = { u.oil with today := u.oil.today + 1 } := Oil.burn_unbased unbased
  rw [burnt]
  exact ⟨rfl, rfl, rfl⟩

/-! ### RUN accepted beside an advance (R92) -/

/-- RUN stands at the end of its 2 s, and LOCK has been accepted. -/
structure RunDue (level : Bool) (s : State) : Prop where
  due : s.burner.run.change = some 2
  raw : s.burner.run.raw = level
  accepted : s.burner.run.acc.isSome = true
  lock : s.burner.lock.acc.isSome = true

theorem runDue_accepted {level : Bool} {s : State} (h : RunDue level s) :
    inputAccepted .run s = actOnAcceptance .run level (s.onBurner (·.onInput .run Debounced.accept)) := by
  rw [inputAccepted, if_pos (show (s.burner.input .run).due = true from decide_eq_true h.due)]
  have settled : s.burner.settled = true := by simp [Burner.settled, h.accepted, h.lock]
  have raw : (s.burner.input .run).raw = level := h.raw
  simp only [settled, raw, if_true]

/-- RUN accepted on in STARTING enters FIRING (R83). -/
theorem runOn_starting {s : State} (h : RunDue true s) (state : s.burner.state = .starting) :
    inputAccepted .run s = enterFiring (s.onBurner (·.onInput .run Debounced.accept)) := by
  rw [runDue_accepted h]
  simp [actOnAcceptance, runAcceptedOn, State.onBurner, Burner.onInput, state]

/-- RUN accepted off in FIRING, LOCK accepted off, leaves it for STARTING (R84). -/
theorem runOff_firing {s : State} (h : RunDue false s) (state : s.burner.state = .firing)
    (lock : s.burner.lock.acc = some false) :
    inputAccepted .run s = (leaveFiring (s.onBurner (·.onInput .run Debounced.accept))).onBurner Burner.start := by
  rw [runDue_accepted h]
  simp [actOnAcceptance, runAcceptedOff, State.onBurner, Burner.onInput, Burner.lockOn, state, lock]

theorem secondOn_runDue {level lock : Bool} {s : State} {l : Bool}
    (run : s.burner.run = { raw := level, acc := some (!level), change := some 1 }) (acc : s.burner.lock.acc = some l) :
    RunDue level (secondOn level lock s) := by
  constructor <;> simp [secondOn, Debounced.sample, run, acc]

/-- An advance in FIRING, nothing taken first, leaves RUN and LOCK as the second left them. -/
theorem deliverSecond_runDue {level : Bool} {s : State} (h : RunDue level s) : RunDue level (deliverSecond s) := by
  unfold deliverSecond
  split
  · exact ⟨h.due, h.raw, h.accepted, h.lock⟩
  · exact h

theorem exec_runAccepted {s : State} (on : s.powered = true) :
    exec (.inputAccepted .run) s = .next (inputAccepted .run s) := whenOn_powered on

theorem exec_dailyRingRoll {s : State} (on : s.powered = true) (before : Bool) :
    exec (.dailyRingRoll before) s = .next (dailyRingRoll before s) := whenOn_powered on

theorem dailyRingRoll_oil {s : State} (due : s.oil.rollDue = true) (before : Bool) :
    (dailyRingRoll before s).oil = s.oil.roll (before && decide (s.clock.toNat % 86400 = 0) &&
      decide (s.rot.lastFiring = some s.clock) && decide (0 < s.oil.today)) := by
  rw [dailyRingRoll, if_pos due]
  rfl

/-- The ring and the count a firing second leaves. -/
theorem firingSecond_days (u : State) : (firingSecond u).oil.today = u.oil.today + 1 ∧
    (firingSecond u).oil.ring = u.oil.ring ∧ (firingSecond u).oil.rollDue = u.oil.rollDue := by
  rw [firingSecond_eq]
  exact ⟨Oil.burn_today _, rfl, rfl⟩

/-- A roll taken before the firing second that its advance has delivered leaves the second to the new day (R148). -/
theorem roll_before_firingSecond {u : State} (due : u.oil.rollDue = true) (multiple : u.clock.toNat % 86400 = 0) :
    let t := dailyRingRoll true (firingSecond u)
    t.oil.ring = u.oil.today :: u.oil.ring.take 6 ∧ t.oil.today = 1 ∧ t.oil.rollDue = false := by
  obtain ⟨today, ring, mark⟩ := firingSecond_days u
  have now : (firingSecond u).rot.lastFiring = some (firingSecond u).clock := by rw [firingSecond_eq]
  have clock : (firingSecond u).clock = u.clock := rfl
  dsimp only
  rw [dailyRingRoll_oil (mark.trans due), now, clock, multiple, today]
  simp [Oil.roll, today, ring]

/-- Taken after it, the second stays with the day that closes (R148). -/
theorem roll_after_firingSecond {u : State} (due : u.oil.rollDue = true) :
    let t := dailyRingRoll false (firingSecond u)
    t.oil.ring = (u.oil.today + 1) :: u.oil.ring.take 6 ∧ t.oil.today = 0 ∧ t.oil.rollDue = false := by
  obtain ⟨today, ring, mark⟩ := firingSecond_days u
  simp [dailyRingRoll_oil (mark.trans due), Oil.roll, today, ring]

/-- Settles O6. -/
theorem firingSecondIsDelivered : Obligations.FiringSecondIsDelivered := by
  refine ⟨fun run lock first s on => ?_, fun lock s on state run acc => ?_, fun s on state run acc => ?_,
    fun run lock s on state multiple => ?_⟩
  · intro u firing
    have clock : u.clock = s.clock + 1 := eventsTaken_clock first _
    refine ⟨_, (exec_lineClockAdvance on run lock first).trans (congrArg _ (deliverSecond_firing firing)), clock,
      Oil.burn_today _, Oil.burn_based, fun unbased => ?_, ?_⟩
    · exact firingSecond_unbased unbased
    · rw [← clock]
      exact firingSecond_eq u
  · have due := secondOn_runDue (lock := lock) run acc
    constructor
    · refine ⟨_, exec_lineClockAdvance on _ _ _, ?_⟩
      have entered : eventsTaken [.inputAccepted .run] (secondOn true lock s) = _ := runOn_starting due state
      rw [entered, deliverSecond_firing rfl]
      exact ⟨rfl, rfl, rfl, Oil.burn_today _⟩
    · have idle : (secondOn true lock s).burner.state ≠ .firing := by
        rw [show (secondOn true lock s).burner.state = _ from state]
        decide
      refine ⟨_, _, exec_lineClockAdvance on _ _ _, exec_runAccepted (by simpa [eventsTaken, secondOn] using on), ?_⟩
      rw [eventsTaken, List.foldl_nil, deliverSecond, if_neg idle, runOn_starting due state]
      exact ⟨rfl, rfl, rfl, rfl⟩
  · have due := secondOn_runDue (lock := false) run acc
    constructor
    · refine ⟨_, exec_lineClockAdvance on _ _ _, ?_⟩
      have left : eventsTaken [.inputAccepted .run] (secondOn false false s) = _ := runOff_firing due state acc
      have starting : (eventsTaken [.inputAccepted .run] (secondOn false false s)).burner.state = .starting := by rw [left]; rfl
      rw [deliverSecond, if_neg (by simp [starting]), left]
      exact ⟨rfl, rfl, rfl, rfl, rfl⟩
    · refine ⟨_, _, exec_lineClockAdvance on _ _ _, exec_runAccepted (by simpa [eventsTaken, secondOn] using on), ?_⟩
      have fired : deliverSecond (eventsTaken [] (secondOn false false s)) = firingSecond (secondOn false false s) :=
        deliverSecond_firing state
      have stays : RunDue false (firingSecond (secondOn false false s)) := fired ▸ deliverSecond_runDue due
      rw [fired, runOff_firing stays state acc]
      exact ⟨rfl, rfl, rfl, rfl, Oil.burn_today _⟩
  · have fired : deliverSecond (eventsTaken [] (secondOn run lock s)) = firingSecond (secondOn run lock s) :=
      deliverSecond_firing state
    have due : (secondOn run lock s).oil.rollDue = true := by
      simp only [secondOn, multiple, decide_true, Bool.or_true]
    constructor
    · refine ⟨_, _, exec_lineClockAdvance on _ _ _, exec_dailyRingRoll (by simpa [eventsTaken, secondOn] using on) _, ?_⟩
      rw [fired]
      exact roll_before_firingSecond due multiple
    · refine ⟨_, _, exec_lineClockAdvance on _ _ _, exec_dailyRingRoll (by simpa [eventsTaken, secondOn] using on) _, ?_⟩
      rw [fired]
      exact roll_after_firingSecond due

end Sys2Proof.Machine
end

section
/-! Characters, frame assembly and the gap timer (O8 to O11). -/

namespace Sys2Proof

/-! ### Characters (1.1) -/

theorem LineChar.ones_eq (c : LineChar) :
    c.ones = (List.range 8).countP (fun i => c.value.getLsbD i) + c.parity.toNat := by
  have bit : ∀ b : Bool, (if b = true then 1 else 0) = b.toNat := by decide
  have eight : List.range 8 = [0, 1, 2, 3, 4, 5, 6, 7] := rfl
  rw [eight]
  simp only [List.countP_cons, List.countP_nil, bit, LineChar.ones, eightNumbers, List.map, List.sum_cons, List.sum_nil]
  change _ = _ + _
  ac_rfl

/-- The parity bit adds to the ones of the data bits. -/
theorem LineChar.ones_parity (v : Byte) (parity stop : Bool) :
    LineChar.ones ⟨v, parity, stop⟩ = LineChar.ones ⟨v, false, true⟩ + parity.toNat := rfl

theorem LineChar.parityError_sent (v : Byte) : (LineChar.sent v).parityError = false := by
  rw [LineChar.sent, LineChar.parityError, LineChar.ones_parity, LineChar.parityError]
  generalize LineChar.ones ⟨v, false, true⟩ = n
  by_cases odd : n % 2 = 1
  · simp only [odd, decide_true, Bool.toNat_true]
    exact decide_eq_false (by omega)
  · simp [odd]

theorem LineChar.framingError_sent (v : Byte) : (LineChar.sent v).framingError = false := rfl

end Sys2Proof

namespace Sys2Proof.Machine

/-! ### The ports of one line -/

theorem Ports.asm_setAsm (l : Line) (a : Assembler) (p : Ports) : (p.setAsm l a).asm l = a := by cases l <;> rfl

theorem Ports.setAsm_setAsm (l : Line) (a b : Assembler) (p : Ports) : (p.setAsm l a).setAsm l b = p.setAsm l b := by
  cases l <;> rfl

theorem Ports.setAsm_asm (l : Line) (p : Ports) : p.setAsm l (p.asm l) = p := by cases l <;> rfl

theorem Ports.onCtr_same (l : Line) (p : Ports) : (p.onCtr l fun c => c) = p := by cases l <;> rfl

theorem Ports.setAsm_onCtr (l : Line) (a : Assembler) (f : LineCounters → LineCounters) (p : Ports) :
    (p.onCtr l f).setAsm l a = (p.setAsm l a).onCtr l f := by cases l <;> rfl

theorem State.onPorts_congr {f g : Ports → Ports} {s : State} (same : f s.ports = g s.ports) :
    s.onPorts f = s.onPorts g := by simp only [State.onPorts, same]

/-- A character on a line in use: it meets the line's assembler at the moment reached. -/
theorem exec_characterReceived {s : State} (on : s.powered = true) {l : Line} (free : l = .field → s.ports.fde = false)
    (ch : LineChar) (time : Tick) :
    exec (.characterReceived l ch.value ch.parity ch.stop time) s =
      .next ((s.reach time).onPorts fun p => heard l (max s.tick time) (p.character l ch (max s.tick time))) := by
  have works : exec (.characterReceived l ch.value ch.parity ch.stop time) s =
      .next (characterReceived l ch (s.reach time)) :=
    whenOn_powered (f := fun s => characterReceived l ch (s.reach time)) on
  refine works.trans (congrArg _ ?_)
  cases l with
  | house => rfl
  | field =>
    rw [characterReceived]
    dsimp only
    rw [if_neg (by simp [State.reach, free rfl])]
    rfl

/-- The same, by what the assembler makes of the character. -/
theorem exec_character_of {s : State} (on : s.powered = true) {l : Line} (free : l = .field → s.ports.fde = false)
    (ch : LineChar) (time : Tick) {a : Assembler} {e : AsmEvent} {f : Ports → Ports}
    (taken : (s.ports.asm l).take ch.value ch.parityError ch.framingError (max s.tick time) = (a, e))
    (made : (s.ports.setAsm l a).applyEvent l (max s.tick time) e = f s.ports) :
    exec (.characterReceived l ch.value ch.parity ch.stop time) s =
      .next ((s.reach time).onPorts fun p => heard l (max s.tick time) (f p)) := by
  rw [exec_characterReceived on free]
  refine congrArg _ (State.onPorts_congr (congrArg _ ?_))
  change (s.ports.character l ch (max s.tick time)) = _
  rw [Ports.character, taken]
  exact made

/-! ### A character in HUNT and in ASSEMBLE (R3, R4) -/

theorem Assembler.take_hunt {a : Assembler} (phase : a.phase = .hunt) (v : Byte) (pe fe : Bool) (now : Tick) :
    a.take v pe fe now = a.hunt v pe fe now := by rw [Assembler.take, phase]

theorem Assembler.take_assemble {a : Assembler} (phase : a.phase = .assemble) (v : Byte) (pe fe : Bool) (now : Tick) :
    a.take v pe fe now = a.assemble v pe fe now := by rw [Assembler.take, phase]

theorem BadMark.after_eq (b : BadMark) (pe fe : Bool) :
    b.after pe fe = if b ≠ .none then b else if fe then .framing else if pe then .parity else .none := by
  cases b <;> rfl

/-- A byte after which the frame goes on. -/
theorem Assembler.assemble_goes_on {a : Assembler} {v : Byte} (pe fe : Bool) (now : Tick) (inside : a.bytes.length ≠ 5)
    (unfinished : a.expected ≠ some (a.bytes.length + 1)) :
    a.assemble v pe fe now = ({ phase := .assemble, bytes := a.bytes ++ [v], expected := a.expected
                                bad := a.bad.after pe fe, gapFrom := now }, .nothing) := by
  rw [Assembler.assemble, if_neg inside, Assembler.stored, if_neg (by simpa using unfinished)]

/-- A length byte of a frame that fits. -/
theorem Assembler.assemble_length {a : Assembler} {v : Byte} (pe fe : Bool) (now : Tick) (sixth : a.bytes.length = 5)
    (fits : v.toNat ≤ 16) :
    a.assemble v pe fe now = ({ phase := .assemble, bytes := a.bytes ++ [v], expected := some (8 + v.toNat)
                                bad := a.bad.after pe fe, gapFrom := now }, .nothing) := by
  have more : some (8 + v.toNat) ≠ some (a.bytes ++ [v]).length := by
    simp only [List.length_append, sixth, List.length_singleton, ne_eq, Option.some.injEq]
    omega
  rw [Assembler.assemble, if_pos sixth, if_neg (by omega), Assembler.stored, if_neg more]

/-- A length byte past 16. -/
theorem Assembler.assemble_overlong {a : Assembler} {v : Byte} (pe fe : Bool) (now : Tick) (sixth : a.bytes.length = 5)
    (long : 16 < v.toNat) :
    a.assemble v pe fe now = (Assembler.skipping now, (a.bad.after pe fe).counts .length) := by
  rw [Assembler.assemble, if_pos sixth, if_pos long]

/-- The last byte of a frame. -/
theorem Assembler.assemble_ends {a : Assembler} {v : Byte} (pe fe : Bool) (now : Tick) (inside : a.bytes.length ≠ 5)
    (last : a.expected = some (a.bytes.length + 1)) :
    a.assemble v pe fe now = (Assembler.hunting, frameEnd (a.bad.after pe fe) (a.bytes ++ [v])) := by
  rw [Assembler.assemble, if_neg inside, Assembler.stored, if_pos (by simp [last])]

theorem Ports.applyEvent_nothing (l : Line) (now : Tick) (p : Ports) : p.applyEvent l now .nothing = p :=
  Ports.onCtr_same l p

/-- Settles O9. -/
theorem characterIsAssembled : Obligations.CharacterIsAssembled := by
  constructor
  · intro l ch time s on free phase v pe fe now after
    have hunted := Assembler.take_hunt phase v pe fe now
    refine ⟨fun framing => ?_, fun stop parity => ?_, fun stop even lead => ?_, fun stop even other => ?_⟩
    · refine exec_character_of on free ch time (a := s.ports.asm l) (e := .framing) (hunted.trans ?_) ?_
      · simp [Assembler.hunt, framing]
      · rw [Ports.setAsm_asm]
        rfl
    · refine exec_character_of on free ch time (a := s.ports.asm l) (e := .parity) (hunted.trans ?_) ?_
      · simp [Assembler.hunt, stop, parity]
      · rw [Ports.setAsm_asm]
        rfl
    · refine exec_character_of on free ch time (e := .nothing) (hunted.trans ?_) (Ports.applyEvent_nothing _ _ _)
      simp [Assembler.hunt, stop, even, lead, now]
    · refine exec_character_of on free ch time (a := s.ports.asm l) (e := .noise) (hunted.trans ?_) ?_
      · simp only [Assembler.hunt, stop, even, if_neg other, Bool.false_eq_true, if_false]
      · rw [Ports.setAsm_asm]
        rfl
  · intro l ch time s on free phase v pe fe now a mark after
    have assembled := Assembler.take_assemble phase v pe fe now
    have marked : a.bad.after pe fe = mark := BadMark.after_eq _ _ _
    refine ⟨fun inside unfinished => ?_, fun sixth fits => ?_, fun sixth long => ?_⟩
    · refine exec_character_of on free ch time (e := .nothing)
        (assembled.trans (Assembler.assemble_goes_on _ _ _ inside unfinished)) ?_
      rw [Ports.applyEvent_nothing, marked, ← phase]
    · refine exec_character_of on free ch time (e := .nothing)
        (assembled.trans (Assembler.assemble_length _ _ _ sixth fits)) ?_
      rw [Ports.applyEvent_nothing, marked, ← phase]
    · refine exec_character_of on free ch time (assembled.trans (Assembler.assemble_overlong _ _ _ sixth long)) ?_
      rw [marked]
      cases mark <;> rfl

/-- Settles O10. -/
theorem endOfAFrame : Obligations.EndOfAFrame := by
  intro l ch time s on free phase inside last v pe fe now a bs mark f after
  have assembled := (Assembler.take_assemble phase v pe fe now).trans (Assembler.assemble_ends _ _ _ inside last)
  have marked : (s.ports.asm l).bad.after pe fe = mark := BadMark.after_eq _ _ _
  rw [marked] at assembled
  have ends : ∀ {g : Ports → Ports} {e : AsmEvent}, frameEnd mark bs = e →
      (s.ports.setAsm l .hunting).applyEvent l now e = g (s.ports.setAsm l { phase := .hunt }) → after g :=
    fun {g e} event made => exec_character_of (f := fun p => g (p.setAsm l { phase := .hunt })) on free ch time assembled
      (by rw [event]; exact made)
  refine ⟨fun parity => ?_, fun framing => ?_, fun unmarked fails => ?_, fun unmarked agrees far => ?_,
    fun unmarked agrees dest source => ?_⟩
  · exact ends (e := .parity) (by rw [parity]; rfl) rfl
  · exact ends (e := .framing) (by rw [framing]; rfl) rfl
  · exact ends (e := .check) (by simp [unmarked, frameEnd, fails]) rfl
  · have out : ¬((frameOf bs).dest ≤ 63 ∧ (frameOf bs).source ≤ 63) := by
      rintro ⟨dest, source⟩
      rcases far with far | far
      · exact absurd dest (BitVec.not_le.2 far)
      · exact absurd source (BitVec.not_le.2 far)
    exact ends (e := .address) (by simp only [unmarked, frameEnd, agrees, if_true, if_neg out]) rfl
  · have event : frameEnd mark bs = .frame f := by
      simp only [unmarked, frameEnd, agrees, if_true]
      exact if_pos ⟨dest, source⟩
    cases l with
    | field =>
      dsimp only
      split
      · exact ends (g := fun p => { p with fieldRx := p.fieldRx ++ [⟨f, now⟩] }) event (if_pos ‹_›)
      · exact ends (g := (·.onCtr .field fun c => { c with overrun := min 65535 (c.overrun + 1) })) event (if_neg ‹_›)
    | house =>
      dsimp only
      split
      · exact ends (g := fun p => { p with houseRx := p.houseRx ++ [f] }) event (if_pos ‹_›)
      · exact ends (g := (·.onCtr .house fun c => { c with overrun := min 65535 (c.overrun + 1) })) event (if_neg ‹_›)

/-! ### The characters of a frame (R1, R2) -/

/-- The assembler of a line in the middle of a frame whose characters came without error. -/
def Assembler.collecting (now : Tick) (bs : List Byte) : Assembler where
  phase := .assemble
  bytes := bs
  expected := if bs.length ≤ 5 then none else some (8 + (bs.getD 5 0).toNat)
  gapFrom := now

theorem character_sent (l : Line) (v : Byte) (now : Tick) (p : Ports) :
    p.character l (.sent v) now =
      (p.setAsm l ((p.asm l).take v false false now).1).applyEvent l now ((p.asm l).take v false false now).2 := by
  rw [Ports.character, LineChar.parityError_sent, LineChar.framingError_sent]
  rfl

/-- The length of a whole frame is told by its sixth byte (12.1). -/
abbrev Whole (bs : List Byte) : Prop := 8 ≤ bs.length ∧ bs.length = 8 + (bs.getD 5 0).toNat ∧ (bs.getD 5 0).toNat ≤ 16

theorem getD_append_cons {pre rest : List Byte} {v : Byte} {n : Nat} (here : pre.length = n) :
    (pre ++ v :: rest).getD n 0 = v := by
  subst here
  simp

theorem getD_append_inside {pre rest : List Byte} {n : Nat} (inside : n < pre.length) :
    (pre ++ rest).getD n 0 = pre.getD n 0 := by
  rw [List.getD_eq_getElem?_getD, List.getD_eq_getElem?_getD, List.getElem?_append_left inside]

/-- A byte of a frame that is not the last. -/
theorem collecting_goes_on {pre rest : List Byte} {v : Byte} (now : Tick) (more : rest ≠ [])
    (whole : Whole (pre ++ v :: rest)) :
    (Assembler.collecting now pre).assemble v false false now = (.collecting now (pre ++ [v]), .nothing) := by
  obtain ⟨long, size, fits⟩ := whole
  have rest_long : 0 < rest.length := List.length_pos_iff.2 more
  rw [List.length_append, List.length_cons] at size
  by_cases sixth : pre.length = 5
  · rw [getD_append_cons sixth] at fits
    rw [Assembler.assemble_length _ _ _ sixth fits]
    simp [Assembler.collecting, BadMark.after, sixth, getD_append_cons sixth]
  · have unfinished : (Assembler.collecting now pre).expected ≠ some (pre.length + 1) := by
      unfold Assembler.collecting
      split
      · simp
      · rw [getD_append_inside (by omega)] at size
        simp only [ne_eq, Option.some.injEq]
        omega
    rw [Assembler.assemble_goes_on _ _ _ sixth unfinished]
    by_cases short : pre.length ≤ 5
    · simp [Assembler.collecting, BadMark.after, short, show pre.length + 1 ≤ 5 by omega]
    · have past : ¬(pre ++ [v]).length ≤ 5 := by
        rw [List.length_append]
        omega
      simp only [Assembler.collecting, BadMark.after, if_neg short, if_neg past, Bool.false_eq_true, if_false,
        getD_append_inside (rest := [v]) (show 5 < pre.length by omega)]

/-- The last byte of a frame. -/
theorem collecting_last {pre : List Byte} {v : Byte} (now : Tick) (whole : Whole (pre ++ [v])) :
    (Assembler.collecting now pre).assemble v false false now = (.hunting, frameEnd .none (pre ++ [v])) := by
  obtain ⟨long, size, fits⟩ := whole
  rw [List.length_append, List.length_singleton] at long size
  rw [getD_append_inside (by omega)] at size
  refine Assembler.assemble_ends false false now (by simp only [Assembler.collecting]; omega) ?_
  simp only [Assembler.collecting, if_neg (show ¬pre.length ≤ 5 by omega), size]

/-- The characters that follow the first ones of a frame end it. -/
theorem collecting_ends (l : Line) (now : Tick) (rest pre : List Byte) (p : Ports) (left : rest ≠ [])
    (whole : Whole (pre ++ rest)) :
    (rest.map LineChar.sent).foldl (fun p c => p.character l c now) (p.setAsm l (.collecting now pre)) =
      (p.setAsm l .hunting).applyEvent l now (frameEnd .none (pre ++ rest)) := by
  induction rest generalizing pre with
  | nil => exact absurd rfl left
  | cons v rest ih =>
    have taken : (p.setAsm l (.collecting now pre)).character l (.sent v) now =
        (p.setAsm l ((Assembler.collecting now pre).assemble v false false now).1).applyEvent l now
          ((Assembler.collecting now pre).assemble v false false now).2 := by
      rw [character_sent, Ports.asm_setAsm, Ports.setAsm_setAsm, Assembler.take_assemble rfl]
    rw [List.map_cons, List.foldl_cons, taken]
    by_cases more : rest = []
    · subst more
      rw [collecting_last now whole]
      rfl
    · have through : Whole ((pre ++ [v]) ++ rest) := by simpa using whole
      rw [collecting_goes_on now more whole, Ports.applyEvent_nothing, ih _ more through, List.append_assoc,
        List.singleton_append]

theorem frameBytes_length (f : Frame) : (frameBytes f).length = 8 + f.payload.length := by
  simp [frameBytes, frameBody]
  omega

theorem frameBytes_whole {f : Frame} (fits : f.payload.length ≤ 16) : Whole (frameBytes f) := by
  have size : ((frameBytes f).getD 5 0).toNat = f.payload.length := by
    change (BitVec.ofNat 8 f.payload.length).toNat = _
    rw [BitVec.toNat_ofNat]
    exact Nat.mod_eq_of_lt (by omega)
  rw [Whole, size, frameBytes_length]
  omega

/-- The check bytes that the EA24 sends agree with what they check (R2). -/
theorem checkAgrees_frameBytes (f : Frame) : checkAgrees (frameBytes f) = true := by
  have body : (frameBody f).length = 5 + f.payload.length := by
    simp [frameBody]
    omega
  have within : ((frameBytes f).drop 1).take ((frameBytes f).length - 3) = frameBody f := by
    rw [frameBytes_length]
    change ((frameBody f) ++ _).take _ = _
    rw [List.take_append_of_le_length (by omega), List.take_of_length_le (by omega)]
  have first : (frameBytes f).getD ((frameBytes f).length - 2) 0 = (pairSum (frameBody f)).1 := by
    rw [frameBytes_length, frameBytes]
    exact getD_append_cons (by rw [List.length_cons]; omega)
  have second : (frameBytes f).getD ((frameBytes f).length - 1) 0 = (pairSum (frameBody f)).2 := by
    have split : frameBytes f = (0xA5 :: frameBody f ++ [(pairSum (frameBody f)).1]) ++ [(pairSum (frameBody f)).2] := by
      simp [frameBytes]
    rw [frameBytes_length, split]
    exact getD_append_cons (by rw [List.length_append, List.length_cons, List.length_singleton]; omega)
  rw [checkAgrees, within, first, second]
  exact decide_eq_true rfl

theorem frameOf_frameBytes (f : Frame) : frameOf (frameBytes f) = f := by
  have payload : ((frameBytes f).drop 6).take ((frameBytes f).length - 8) = f.payload := by
    rw [frameBytes_length]
    change (f.payload ++ _).take _ = _
    rw [List.take_append_of_le_length (by omega), List.take_of_length_le (by omega)]
  rw [frameOf, payload]
  rfl

theorem frameEnd_frameBytes {f : Frame} (fits : frameFits f = true) : frameEnd .none (frameBytes f) = .frame f := by
  simp only [frameFits, Bool.and_eq_true, decide_eq_true_eq] at fits
  obtain ⟨⟨dest, source⟩, -⟩ := fits
  simp only [frameEnd, checkAgrees_frameBytes, if_true, frameOf_frameBytes]
  exact if_pos ⟨dest, source⟩

/-- A frame as sent meets a hunting assembler. -/
theorem frameChars_received (l : Line) {f : Frame} (now : Tick) {p : Ports} (fits : frameFits f = true)
    (hunts : p.asm l = { phase := .hunt }) :
    (frameChars f).foldl (fun p c => p.character l c now) p = p.receive l now f := by
  have payload : f.payload.length ≤ 16 := by
    simp only [frameFits, Bool.and_eq_true, decide_eq_true_eq] at fits
    exact fits.2
  have lead : p.character l (.sent 0xA5) now = p.setAsm l (.collecting now [0xA5]) := by
    rw [character_sent, hunts]
    exact Ports.applyEvent_nothing l now _
  have idle : p.setAsm l .hunting = p := by
    rw [Assembler.hunting, ← hunts, Ports.setAsm_asm]
  have started : frameChars f = .sent 0xA5 :: ((frameBytes f).drop 1).map LineChar.sent := rfl
  rw [started, List.foldl_cons, lead, collecting_ends l now ((frameBytes f).drop 1) [0xA5] p (by simp [frameBytes, frameBody])
    (frameBytes_whole payload)]
  change (p.setAsm l .hunting).applyEvent l now (frameEnd .none (frameBytes f)) = _
  rw [idle, frameEnd_frameBytes fits]
  rfl

/-- Settles O8. -/
theorem frameAsSentIsReceived : Obligations.FrameAsSentIsReceived := by
  refine ⟨fun l f now p fits hunts => frameChars_received l now fits hunts, fun f => ⟨?_, fun c sent => ?_⟩, fun c => ?_,
    fun v => ⟨rfl, LineChar.parityError_sent v, rfl⟩⟩
  · rw [frameChars, List.map_map]
    exact List.map_id _
  · obtain ⟨v, -, rfl⟩ := List.mem_map.1 sent
    rfl
  · refine ⟨?_, by simp [LineChar.framingError], rfl⟩
    rw [LineChar.parityError, decide_eq_true_eq, LineChar.ones_eq]

/-! ### The gap timer (R5, R7) -/

theorem exec_frameTruncated {s : State} (on : s.powered = true) (l : Line) (time : Tick) (arriving : Bool) :
    exec (.frameTruncated l ⟨time, arriving⟩) s = .next (frameTruncated l arriving (s.reach time)) :=
  whenOn_powered (f := fun s => frameTruncated l arriving (s.reach time)) on

theorem exec_skipEnd {s : State} (on : s.powered = true) (l : Line) (time : Tick) (arriving : Bool) :
    exec (.skipEnd l ⟨time, arriving⟩) s = .next (skipEnd l arriving (s.reach time)) :=
  whenOn_powered (f := fun s => skipEnd l arriving (s.reach time)) on

theorem Assembler.gapPassed_arriving (l : Line) (now : Tick) (a : Assembler) : a.gapPassed l true now = false := rfl

theorem Assembler.gapPassed_of {l : Line} {now : Tick} {a : Assembler} (passed : a.gapFrom + gapLimit l ≤ now) :
    a.gapPassed l false now = true := by
  rw [Assembler.gapPassed]
  exact decide_eq_true passed

/-- Settles O11. -/
theorem gapTimerPasses : Obligations.GapTimerPasses := by
  intro l time s on now a twoCharacters
  have two : gapLimit l = twoCharacters := by cases l <;> rfl
  refine ⟨fun phase passed => ?_, fun phase passed => ?_, ?_, ?_, fun phase free ch => ?_⟩
  · have gone : ((s.reach time).ports.asm l).gapPassed l false (s.reach time).tick = true :=
      Assembler.gapPassed_of (by rw [two]; exact passed)
    rw [exec_frameTruncated on, frameTruncated, if_pos ⟨phase, gone⟩]
    refine congrArg _ (State.onPorts_congr ?_)
    rw [Ports.setAsm_onCtr]
    rfl
  · have gone : ((s.reach time).ports.asm l).gapPassed l false (s.reach time).tick = true :=
      Assembler.gapPassed_of (by rw [two]; exact passed)
    rw [exec_skipEnd on, skipEnd, if_pos ⟨phase, gone⟩]
    rfl
  · rw [exec_frameTruncated on, frameTruncated, Assembler.gapPassed_arriving]
    simp
  · rw [exec_skipEnd on, skipEnd, Assembler.gapPassed_arriving]
    simp
  · refine exec_character_of on free ch time (e := .nothing) ?_ (Ports.applyEvent_nothing l _ _)
    rw [Assembler.take, phase]

end Sys2Proof.Machine
end

section
/-! The two transmitters: the field line with its echo check and windows, and the house link (O12 to O14). -/

namespace Sys2Proof.Machine

theorem reportOutcome_eq (e : TxEntry) (o : TxOutcome) (s : State) :
    reportOutcome e o s = postChanged e (Post.transmitted o) s := by
  unfold reportOutcome postChanged
  split
  · rename_i post
    rw [if_pos post]
    rfl
  · rename_i other
    rw [if_neg other]

/-! ### Selection and reply windows (R9, R10, R12) -/

/-- R9's choice is the first frame of the class that the transmitter selects from. -/
theorem firstOf_selected {before after : List TxEntry} {e : TxEntry} (chosen : Selected before after e) :
    FirstOf (nextClass (before ++ e :: after)) (before ++ e :: after) before e after := by
  rcases chosen with ⟨reply, earlier⟩ | ⟨rfl, pass, later⟩
  · have isReply : e.isReply = true := decide_eq_true reply
    have replies : (before ++ e :: after).any TxEntry.isReply = true := by simp [isReply]
    refine ⟨rfl, fun x hx => ?_, ?_⟩
    · rw [nextClass, if_pos replies, TxEntry.isReply, earlier x hx]
      rfl
    · rw [nextClass, if_pos replies, isReply]
  · have none : (e :: after).any TxEntry.isReply = false := by
      rw [List.any_eq_false]
      intro x hx
      rcases List.mem_cons.1 hx with rfl | hx
      · simp [TxEntry.isReply, pass]
      · simp [TxEntry.isReply, later x hx]
    exact { split := rfl, before := fun x hx => absurd hx List.not_mem_nil, here := by simp [nextClass, none] }

theorem TxEntry.windowOpen_of {e : TxEntry} {now : Tick} (open_ : ∀ d, e.deadline = some d → now ≤ d) :
    e.windowOpen now = true := by
  unfold TxEntry.windowOpen
  split
  · rfl
  · exact decide_eq_true (open_ _ ‹_›)

theorem exec_fieldTransmitStart {s : State} (on : s.powered = true) (time : Tick) (arriving : Bool) :
    exec (.fieldTransmitStart ⟨time, arriving⟩) s = .next (fieldTransmitStart arriving (s.reach time)) :=
  whenOn_powered (f := fun s => fieldTransmitStart arriving (s.reach time)) on

theorem fieldTransmitStart_busy {s : State} {arriving : Bool} (busy : fieldIdle arriving s = false) :
    fieldTransmitStart arriving s = s := by
  unfold fieldTransmitStart
  split
  · simp [busy]
  · rfl

theorem exec_replyWithdrawn {s : State} (on : s.powered = true) (time : Tick) :
    exec (.replyWithdrawn time) s = .next (replyWithdrawn (s.reach time)) :=
  whenOn_powered (f := fun s => replyWithdrawn (s.reach time)) on

theorem TxEntry.late_iff {now : Tick} {e : TxEntry} :
    e.late now = true ↔ e.sending = none ∧ ∃ d, e.deadline = some d ∧ d ≤ now := by
  cases sending : e.sending <;> cases deadline : e.deadline <;> simp [TxEntry.late, TxEntry.onLine, sending, deadline]

/-- Settles O12. -/
theorem fieldFrameBeginsOrIsLate : Obligations.FieldFrameBeginsOrIsLate := by
  constructor
  · intro before after e time s on released queue chosen
    have first := firstOf_selected chosen
    rw [← queue] at first
    have selected : (s.reach time).ports.fieldTx.find? (nextClass (s.reach time).ports.fieldTx) = some e := first.find?
    have marked : ∀ f, mapFirst (nextClass (s.reach time).ports.fieldTx) f (s.reach time).ports.fieldTx =
        before ++ f e :: after := first.mapFirst
    have gap : fieldIdle false (s.reach time) = decide (s.ports.lastSeen + 132 ≤ max s.tick time) := by
      have up : (s.reach time).ports.fde = false := released
      rw [fieldIdle, up]
      rfl
    refine ⟨fun idle window => ?_, fun busy => ?_, ?_⟩
    · rw [exec_fieldTransmitStart on, fieldTransmitStart]
      have begins : (fieldIdle false (s.reach time) && e.windowOpen (s.reach time).tick) = true := by
        rw [show e.windowOpen (s.reach time).tick = true from TxEntry.windowOpen_of window]
        rw [Bool.and_true, gap]
        exact decide_eq_true idle
      rw [selected]
      dsimp only
      rw [if_pos begins]
      refine congrArg _ (State.onPorts_congr ?_)
      rw [marked]
    · rw [exec_fieldTransmitStart on, fieldTransmitStart_busy]
      rw [gap]
      exact decide_eq_false (Nat.not_le_of_lt busy)
    · rw [exec_fieldTransmitStart on, fieldTransmitStart_busy rfl]
  · intro before after e d time s on queue waits deadline past earlier
    have first : FirstOf (TxEntry.late (s.reach time).tick) s.ports.fieldTx before e after := by
      refine ⟨queue, fun x hx => ?_, TxEntry.late_iff.2 ⟨waits, d, deadline, past⟩⟩
      rw [Bool.eq_false_iff]
      intro late
      obtain ⟨still, d', set, gone⟩ := TxEntry.late_iff.1 late
      rcases earlier x hx with sent | unset | ⟨d'', set', before⟩
      · exact sent still
      · rw [set] at unset
        cases unset
      · rw [set] at set'
        cases set'
        exact absurd gone (Nat.not_le.2 before)
    have found : (s.reach time).ports.fieldTx.find? (TxEntry.late (s.reach time).tick) = some e := first.find?
    rw [exec_replyWithdrawn on, replyWithdrawn, found]
    dsimp only
    rw [reportOutcome_eq]
    refine congrArg _ (congrArg _ (State.onPorts_congr ?_))
    rw [show removeFirst _ (s.reach time).ports.fieldTx = before ++ after from first.removeFirst]
    rfl

/-! ### The echo (R10, R11) -/

theorem frameChars_length (f : Frame) : (frameChars f).length = (frameBytes f).length := List.length_map _

theorem TxEntry.charOut_value {e : TxEntry} {k : Nat} (sending : e.sending = some k) :
    e.charOut.map (·.value) = (frameBytes e.frame)[k]? := by
  rw [TxEntry.charOut, sending, frameChars, Option.getD_some, List.getElem?_map, Option.map_map]
  exact Option.map_id'

theorem TxEntry.echoed_sent {e : TxEntry} {k : Nat} {v : Byte} (sending : e.sending = some k)
    (next : (frameBytes e.frame)[k]? = some v) : e.echoed (.sent v) = true := by
  rw [TxEntry.echoed, TxEntry.charOut_value sending, next, LineChar.parityError_sent, LineChar.framingError_sent]
  simp [LineChar.sent]

theorem TxEntry.echoed_other {e : TxEntry} {k : Nat} {ch : LineChar} (sending : e.sending = some k)
    (wrong : ch.parityError = true ∨ ch.framingError = true ∨ (frameBytes e.frame)[k]? ≠ some ch.value) :
    e.echoed ch = false := by
  rw [TxEntry.echoed, TxEntry.charOut_value sending]
  rcases wrong with wrong | wrong | wrong <;> simp [wrong]

/-- While FDE is asserted a character of the field line is the echo of the frame on it (R10). -/
theorem exec_echo {s : State} {c : Instr} {ch : LineChar} {time : Tick} (on : s.powered = true) (fde : s.ports.fde = true)
    (told : c = .echoCheck ch.value ch.parity ch.stop time ∨
      c = .characterReceived .field ch.value ch.parity ch.stop time) :
    exec c s = .next (echoCheck ch (s.reach time)) := by
  have sending : (s.reach time).ports.fde = true := fde
  rcases told with rfl | rfl
  · refine (whenOn_powered (f := fun s => if s.ports.fde then echoCheck ch (s.reach time) else s.reach time) on).trans ?_
    rw [if_pos fde]
  · refine (whenOn_powered (f := fun s => characterReceived .field ch (s.reach time)) on).trans ?_
    rw [characterReceived]
    dsimp only
    rw [if_pos sending]

theorem firstOf_onLine {before after : List TxEntry} {e : TxEntry} {k : Nat} (earlier : ∀ x ∈ before, x.sending = none)
    (sending : e.sending = some k) : FirstOf TxEntry.onLine (before ++ e :: after) before e after :=
  ⟨rfl, fun x hx => by rw [TxEntry.onLine, earlier x hx]; rfl, by rw [TxEntry.onLine, sending]; rfl⟩

/-- Settles O13. -/
theorem echoIsChecked : Obligations.EchoIsChecked := by
  constructor
  · intro before after e k v time c s on fde queue earlier sending next told
    have first := firstOf_onLine (after := after) earlier sending
    rw [← queue] at first
    have found : (s.reach time).ports.fieldTx.find? TxEntry.onLine = some e := first.find?
    rw [exec_echo (ch := .sent v) on fde told, echoCheck, found]
    dsimp only
    rw [if_pos (TxEntry.echoed_sent sending next), sending, Option.getD_some, frameChars_length]
    refine ⟨fun more => ?_, fun last => ?_⟩
    · rw [if_pos more]
      refine congrArg _ (State.onPorts_congr ?_)
      rw [show ∀ f, mapFirst _ f (s.reach time).ports.fieldTx = before ++ f e :: after from first.mapFirst, sending]
      rfl
    · rw [if_neg (by omega), frameSent, reportOutcome_eq]
      refine congrArg _ (congrArg _ ?_)
      rw [State.onPorts, show removeFirst _ (releaseLine _ (s.reach time)).ports.fieldTx = before ++ after from
        first.removeFirst]
      rfl
  · intro before after e k ch time c s on fde queue earlier sending wrong told now off
    have first := firstOf_onLine (after := after) earlier sending
    rw [← queue] at first
    have found : (s.reach time).ports.fieldTx.find? TxEntry.onLine = some e := first.find?
    have worked : exec c s = .next (echoMismatch e (releaseLine (s.reach time).tick (s.reach time))) := by
      rw [exec_echo on fde told, echoCheck, found]
      dsimp only
      rw [if_neg (by simp [TxEntry.echoed_other sending wrong])]
    rw [worked, echoMismatch]
    refine ⟨fun few => ?_, fun third => ?_⟩
    · rw [if_pos few]
      refine congrArg _ (State.onPorts_congr (s := off) ?_)
      rw [show ∀ f, mapFirst _ f off.ports.fieldTx = before ++ f e :: after from first.mapFirst]
    · rw [if_neg (by omega), reportOutcome_eq]
      refine congrArg _ (congrArg _ (congrArg _ (State.onPorts_congr (s := off) ?_)))
      rw [show removeFirst _ off.ports.fieldTx = before ++ after from first.removeFirst]
      rfl

/-! ### The house link (R13, R14) -/

theorem restartDue_eq_false {s : State} (unsent : ∀ m, s.mgmt.restart = some m → m.answerSent = false) :
    restartDue s = false := by
  unfold restartDue
  split
  · exact unsent _ ‹_›
  · rfl

/-- Settles O14. -/
theorem houseTransmitter : Obligations.HouseTransmitter := by
  intro s on
  have started : exec .houseTransmitStart s = .next (houseTransmitStart s) := whenOn_powered on
  have sent : exec .houseFrameSent s = .next (houseFrameSent s) := whenOn_powered on
  refine ⟨fun level => whenOn_powered on, fun ready idle waits unsent => ?_, fun low => ?_, fun e rest busy queue => ?_⟩
  · have begins : (s.ports.rdy && !s.ports.houseOnLine && !s.ports.houseTx.isEmpty && !restartDue s) = true := by
      simp [ready, idle, waits, restartDue_eq_false unsent]
    rw [started, houseTransmitStart, if_pos begins]
  · rw [started, houseTransmitStart, if_neg (by simp [low])]
  · rw [sent, houseFrameSent, queue]
    dsimp only
    rw [if_pos busy, answerSent]
    split <;> rfl

end Sys2Proof.Machine
end

section
/-! The classifier and the relay down (O16 to O19). -/

namespace Sys2Proof.Machine

/-! ### A frame in the classifier's hand (R22) -/

/-- The part with the head of the field receive queue taken out of it, at the moment reached. -/
abbrev fieldTaken (rest : List RxFrame) (time : Tick) (s : State) : State :=
  (s.reach time).onPorts fun p => { p with fieldRx := rest }

/-- The part with a frame in the classifier's hand. -/
abbrev inHand (r : RxFrame) (s : State) : State := s.onCls fun c => { c with inHand := some r }

theorem exec_classifierTake {r : RxFrame} {rest : List RxFrame} {s : State} (on : s.powered = true)
    (idle : s.cls.inHand = none) (queue : s.ports.fieldRx = r :: rest) (time : Tick) :
    exec (.classifierTake time) s = .next (fieldEnded (dispatchField r (inHand r (fieldTaken rest time s)))) := by
  refine (whenOn_powered (f := fun s => classifierTake (s.reach time)) on).trans (congrArg _ ?_)
  have idle : (s.reach time).cls.inHand = none := idle
  have queue : (s.reach time).ports.fieldRx = r :: rest := queue
  rw [classifierTake, idle, queue]
  rfl

/-- The classifier lets go of its frame. -/
theorem fieldEnded_inHand {r : RxFrame} {s : State} (idle : s.cls.inHand = none) : fieldEnded (inHand r s) = s := by
  cases s with
  | mk powered free tick secTick clock ports cls =>
    cases cls
    cases idle
    rfl

/-- A counter of the classifier moves while a frame is in hand. -/
theorem fieldEnded_counted {r : RxFrame} {s : State} {f : Classifier → Classifier} (idle : s.cls.inHand = none)
    (apart : ∀ c x, f { c with inHand := x } = { f c with inHand := x }) :
    fieldEnded ((inHand r s).onCls f) = s.onCls f := by
  have cleared : { s.cls with inHand := none } = s.cls := by rw [← idle]
  have let_go : { f { s.cls with inHand := some r } with inHand := none } = f s.cls := by
    rw [apart, ← apart s.cls, cleared]
  simp only [fieldEnded, inHand, State.onCls, let_go]

/-! ### The dispatch, row by row (R23, R24, R27) -/

section dispatch

variable {r : RxFrame} {s : State}

theorem deviceAddr_iff {a : Byte} : deviceAddr a = true ↔ 1 ≤ a ∧ a ≤ 61 := by simp [deviceAddr]

theorem dispatch_foreign (foreign : ¬(1 ≤ r.frame.source ∧ r.frame.source ≤ 61)) : dispatchField r s = misdirect s := by
  rw [dispatchField, if_neg (by rw [deviceAddr_iff]; exact foreign)]

theorem dispatch_unlisted (device : 1 ≤ r.frame.source ∧ r.frame.source ≤ 61) (unlisted : lookup r.frame.source s = none) :
    dispatchField r s = if s.cls.forwardUnlisted then relayUp r.frame s
      else s.onCls fun c => { c with unlisted := satInc c.unlisted } := by
  rw [dispatchField, if_pos (deviceAddr_iff.2 device), unlisted]

theorem dispatch_listed {e : MapEntry} (device : 1 ≤ r.frame.source ∧ r.frame.source ≤ 61)
    (listed : lookup r.frame.source s = some e) :
    dispatchField r s = if e.cls = .blocked then s.onCls fun c => { c with blocked := satInc c.blocked }
      else if r.frame.dest = 0 then handleOwn e r s else handleOther e r.frame s := by
  rw [dispatchField, if_pos (deviceAddr_iff.2 device), listed]

theorem dispatch_own {e : MapEntry} (device : 1 ≤ r.frame.source ∧ r.frame.source ≤ 61)
    (listed : lookup r.frame.source s = some e) (passed : e.cls ≠ .blocked) (own : r.frame.dest = 0) :
    dispatchField r s = handleOwn e r s := by rw [dispatch_listed device listed, if_neg passed, if_pos own]

theorem dispatch_other {e : MapEntry} (device : 1 ≤ r.frame.source ∧ r.frame.source ≤ 61)
    (listed : lookup r.frame.source s = some e) (passed : e.cls ≠ .blocked) (other : r.frame.dest ≠ 0) :
    dispatchField r s = handleOther e r.frame s := by rw [dispatch_listed device listed, if_neg passed, if_neg other]

theorem relayUp_long {f : Frame} (long : 14 < f.payload.length) :
    relayUp f s = s.onCls fun c => { c with notForwarded := satInc c.notForwarded } := by
  rw [relayUp, if_neg (by omega)]

/-- A PASS_UP is no ANSWER, so that 15 frames are its bound (R13). -/
theorem relayUp_offered {f : Frame} (fits : f.payload.length ≤ 14) :
    relayUp f s = if s.ports.houseTx.length < 15 then pushHouse { frame := passUpFrame f } s
      else s.onCls fun c => { c with upDropped := satInc c.upDropped } := by
  have bound : houseAccepts (passUpFrame f) s = decide (s.ports.houseTx.length < 15) := rfl
  rw [relayUp, if_pos fits, offerPassUp, bound]
  simp only [decide_eq_true_eq]

theorem handleOther_notForwarded {e : MapEntry} {f : Frame} (dest : f.dest ≠ 63)
    (barred : e.forwardUp = false ∨ 14 < f.payload.length) :
    handleOther e f s = s.onCls fun c => { c with notForwarded := satInc c.notForwarded } := by
  rw [handleOther, if_neg dest]
  by_cases forward : e.forwardUp = true
  · rw [if_pos forward, relayUp_long (barred.resolve_left (by simp [forward]))]
  · rw [if_neg forward]

end dispatch

/-- Settles O16. -/
theorem classifierDropsOrRelaysUp : Obligations.ClassifierDropsOrRelaysUp := by
  constructor
  · intro r rest time s on idle queue dropped device found
    have drops : ∀ f : Classifier → Classifier, (∀ c x, f { c with inHand := x } = { f c with inHand := x }) →
        dispatchField r (inHand r (fieldTaken rest time s)) = (inHand r (fieldTaken rest time s)).onCls f → dropped f := by
      intro f apart dispatched
      change exec _ _ = _
      rw [exec_classifierTake on idle queue, dispatched]
      exact congrArg _ (fieldEnded_counted (s := fieldTaken rest time s) idle apart)
    refine ⟨fun foreign => drops _ (fun _ _ => rfl) (dispatch_foreign foreign), fun known missing shut => ?_,
      fun known missing forward long => ?_, fun known e listed => ?_⟩
    · have missing : lookup r.frame.source (inHand r (fieldTaken rest time s)) = none := missing
      refine drops _ (fun _ _ => rfl) ((dispatch_unlisted known missing).trans (if_neg ?_))
      simp [shut]
    · have missing : lookup r.frame.source (inHand r (fieldTaken rest time s)) = none := missing
      exact drops _ (fun _ _ => rfl)
        (((dispatch_unlisted known missing).trans (if_pos forward)).trans (relayUp_long long))
    · have listed : lookup r.frame.source (inHand r (fieldTaken rest time s)) = some e := listed
      refine ⟨fun blocked => ?_, fun passed dest => ?_, fun passed other all barred => ?_, fun listener own => ?_,
        fun service own form => ?_, fun room own noRoom noWake => ?_⟩
      · exact drops _ (fun _ _ => rfl) ((dispatch_listed known listed).trans (if_pos blocked))
      · refine drops _ (fun _ _ => rfl) ((dispatch_other known listed passed (by rw [dest]; decide)).trans (if_pos dest))
      · exact drops _ (fun _ _ => rfl) ((dispatch_other known listed passed other).trans
          (handleOther_notForwarded all barred))
      · refine drops _ (fun _ _ => rfl) ((dispatch_own known listed (by simp [listener]) own).trans ?_)
        rw [handleOwn, listener]
        rfl
      · refine drops _ (fun _ _ => rfl) ((dispatch_own known listed (by simp [service]) own).trans ?_)
        rw [handleOwn, service]
        exact if_neg (Classical.not_and_iff_not_or_not.2 form)
      · refine drops _ (fun _ _ => rfl) ((dispatch_own known listed (by simp [room]) own).trans ?_)
        rw [handleOwn, room]
        exact (if_neg noRoom).trans ((if_neg fun ⟨kind, size⟩ => noWake ⟨.inl kind, size⟩).trans
          (if_neg fun ⟨kind, size⟩ => noWake ⟨.inr kind, size⟩))
  · intro r rest time s on idle queue low high fits relayed taken
    have device := And.intro low high
    have dispatched : dispatchField r (inHand r taken) = relayUp r.frame (inHand r taken) := by
      rcases relayed with ⟨missing, forward⟩ | ⟨e, listed, passed, forward, other, all⟩
      · have missing : lookup r.frame.source (inHand r taken) = none := missing
        exact (dispatch_unlisted device missing).trans (if_pos forward)
      · have listed : lookup r.frame.source (inHand r taken) = some e := listed
        refine (dispatch_other device listed passed other).trans ?_
        rw [handleOther, if_neg all, if_pos forward]
    have works : exec (.classifierTake time) s = .next (fieldEnded (relayUp r.frame (inHand r taken))) := by
      rw [exec_classifierTake on idle queue, dispatched]
    rw [works, relayUp_offered fits]
    refine ⟨fun free => congrArg _ ?_, fun full => congrArg _ ?_⟩
    · rw [if_pos (show (inHand r taken).ports.houseTx.length < 15 from free)]
      exact congrArg (pushHouse _) (fieldEnded_inHand (s := taken) idle)
    · rw [if_neg (show ¬(inHand r taken).ports.houseTx.length < 15 from Nat.not_lt.2 full)]
      exact fieldEnded_counted (s := taken) idle fun _ _ => rfl

end Sys2Proof.Machine
end

section
/-! Room reports, wakes and the relay down (O17 to O19). -/

namespace Sys2Proof.Machine

/-! ### A room report in the Zone Unit (R39, R57) -/

theorem clampInt_eq (hi v : Int) (positive : 0 ≤ hi) : clampInt 0 hi v = max 0 (min hi v) := by
  unfold clampInt
  split
  · omega
  · split <;> omega

theorem modeOfByte_eq (b : Byte) :
    modeOfByte b = if b = 0 ∨ b = 1 then some (if b = 1 then .heat else .off) else none := by
  rw [modeOfByte]
  by_cases off : b = 0
  · rw [if_pos off, if_pos (.inl off), if_neg (by rw [off]; decide)]
  · by_cases heat : b = 1
    · rw [if_neg off, if_pos heat, if_pos (.inr heat), if_pos heat]
    · rw [if_neg off, if_neg heat, if_neg (not_or.2 ⟨off, heat⟩)]

theorem takeReport_unbound {a : Byte} {s : State} (unbound : findSlot a s = none) (rep : Report) :
    takeReport a rep s = s := by rw [takeReport, unbound]

/-! ### The latest waiting ROOM_UP (R30) -/

theorem Ports.onLinePart_eq (p : Ports) : p.onLinePart = p.houseTx.take p.houseOnLine.toNat := by
  unfold Ports.onLinePart
  split <;> simp_all

theorem Ports.waitingPart_eq (p : Ports) : p.waitingPart = p.houseTx.drop p.houseOnLine.toNat := by
  unfold Ports.waitingPart
  split <;> simp_all

theorem HouseEntry.roomUpFrom_iff {a : Byte} {e : HouseEntry} :
    e.roomUpFrom a = true ↔ e.frame.kind = 0x31 ∧ e.frame.source = a := by
  rw [HouseEntry.roomUpFrom, Bool.and_eq_true, decide_eq_true_eq, decide_eq_true_eq]
  rfl

/-- The last element that a test holds of is the first one of the list reversed. -/
theorem replaceLatest_split {f : Frame} {pre post : List HouseEntry} {x : HouseEntry}
    (here : x.roomUpFrom f.source = true) (later : ∀ y ∈ post, y.roomUpFrom f.source = false) :
    replaceLatest f (pre ++ x :: post) =
      pre ++ { x with frame := { x.frame with payload := f.payload } } :: post := by
  have first : FirstOf (HouseEntry.roomUpFrom f.source) (pre ++ x :: post).reverse post.reverse x pre.reverse :=
    ⟨by simp, fun y hy => later y (List.mem_reverse.1 hy), here⟩
  rw [replaceLatest, first.mapFirst]
  simp

/-- A place of the house transmit queue that a refused ROOM_UP of this source may take (R30). -/
abbrev CoalescePlace (a : Byte) (p : Ports) (k : Nat) : Prop :=
  ∃ x, p.houseTx[k]? = some x ∧ x.frame.kind = 0x31 ∧ x.frame.source = a ∧ ¬(p.houseOnLine = true ∧ k = 0)

theorem coalescePlace_iff {a : Byte} {p : Ports} {k : Nat} :
    CoalescePlace a p k ↔ p.houseOnLine.toNat ≤ k ∧ ∃ x, p.houseTx[k]? = some x ∧ x.roomUpFrom a = true := by
  have waits : ¬(p.houseOnLine = true ∧ k = 0) ↔ p.houseOnLine.toNat ≤ k := by
    cases p.houseOnLine <;> simp <;> omega
  simp only [CoalescePlace, HouseEntry.roomUpFrom_iff, waits]
  grind

theorem waitingPart_any {a : Byte} {p : Ports} :
    p.waitingPart.any (HouseEntry.roomUpFrom a) = true ↔ ∃ k, CoalescePlace a p k := by
  rw [Ports.waitingPart_eq, List.any_eq_true]
  constructor
  · rintro ⟨x, mem, room⟩
    obtain ⟨j, here⟩ := List.mem_iff_getElem?.1 mem
    rw [List.getElem?_drop] at here
    exact ⟨_, coalescePlace_iff.2 ⟨Nat.le_add_right _ _, x, here, room⟩⟩
  · rintro ⟨k, place⟩
    obtain ⟨waits, x, here, room⟩ := coalescePlace_iff.1 place
    refine ⟨x, List.mem_iff_getElem?.2 ⟨k - p.houseOnLine.toNat, ?_⟩, room⟩
    rw [List.getElem?_drop, Nat.add_sub_cancel' waits, here]

/-- The latest waiting ROOM_UP of the source gives up its payload alone. -/
theorem replaceLatest_waiting {f : Frame} {p : Ports} {k : Nat} {x : HouseEntry} (here : p.houseTx[k]? = some x)
    (place : CoalescePlace f.source p k) (latest : ∀ j, k < j → ¬CoalescePlace f.source p j) :
    p.onLinePart ++ replaceLatest f p.waitingPart =
      p.houseTx.set k { x with frame := { x.frame with payload := f.payload } } := by
  obtain ⟨waits, y, there, room⟩ := coalescePlace_iff.1 place
  cases there.symm.trans here
  obtain ⟨n, hn⟩ := Nat.exists_eq_add_of_le waits
  have size : k < p.houseTx.length := (List.getElem?_eq_some_iff.1 here).1
  have split : p.waitingPart = (p.houseTx.drop p.houseOnLine.toNat).take n ++ x :: p.houseTx.drop (k + 1) := by
    have mid : (p.houseTx.drop p.houseOnLine.toNat).drop n = x :: p.houseTx.drop (k + 1) := by
      rw [List.drop_drop, ← hn, List.drop_eq_getElem_cons size, (List.getElem?_eq_some_iff.1 here).2]
    rw [Ports.waitingPart_eq, ← mid, List.take_append_drop]
  have later : ∀ z ∈ p.houseTx.drop (k + 1), z.roomUpFrom f.source = false := by
    intro z mem
    rw [Bool.eq_false_iff]
    intro other
    obtain ⟨j, at_j⟩ := List.mem_iff_getElem?.1 mem
    rw [List.getElem?_drop] at at_j
    exact latest _ (by omega) (coalescePlace_iff.2 ⟨by omega, z, at_j, other⟩)
  rw [split, replaceLatest_split room later, Ports.onLinePart_eq, ← List.append_assoc, ← List.take_add, ← hn,
    List.set_eq_take_append_cons_drop, if_pos size]

/-- The ROOM_UP of a report, its annotation as the Zone Unit answers (R29, 12.2). -/
theorem roomUpFrame_eq (f : Frame) (s : State) : roomUpFrame f (reportAnswer f.source s) =
    { dest := 62, source := f.source, kind := 0x31, tag := 0
      payload := f.payload ++ (match findSlot f.source s with
        | some p => [BitVec.ofNat 8 p.1.val, BitVec.ofNat 8 (s.zone p.1).state.code] ++ leInt 2 (s.zone p.1).eff
        | none => [0xFF, 0xFF, 0x00, 0x80]) } := by
  rw [reportAnswer]
  cases findSlot f.source s <;> rfl

theorem handleOwn_room {e : MapEntry} {r : RxFrame} {s : State} (room : e.cls = .room) (kind : r.frame.kind = 0x01)
    (size : r.frame.payload.length = 5) : handleOwn e r s = handleRoom e r s := by
  rw [handleOwn, room]
  exact if_pos ⟨kind, size⟩

/-- A ROOM_UP is no ANSWER, so that 15 frames are its bound (R13). -/
theorem offerRoomUp_eq {f : Frame} {s : State} (kind : f.kind = 0x31) :
    offerRoomUp f s = if s.ports.houseTx.length < 15 then pushHouse { frame := f } s else coalesce f s := by
  have bound : houseAccepts f s = decide (s.ports.houseTx.length < 15) := by
    rw [houseAccepts, kind]
    exact if_neg (show ¬(0x31 : Byte) = kindAnswer by decide)
  rw [offerRoomUp, bound]
  simp only [decide_eq_true_eq]

/-- Settles O17. -/
theorem roomReportIsTaken : Obligations.RoomReportIsTaken := by
  constructor
  · intro r rest e time s on idle queue low high listed room own kind size hand reported woken up
    have listed : lookup r.frame.source hand = some e := listed
    have dispatched : dispatchField r hand = handleRoom e r hand :=
      (dispatch_own ⟨low, high⟩ listed (by simp [room]) own).trans (handleOwn_room room kind size)
    have works : exec (.classifierTake time) s = .next (fieldEnded (handleRoom e r hand)) := by
      rw [exec_classifierTake on idle queue, ← dispatched]
    have made : roomUpFrame r.frame (reportAnswer r.frame.source reported) = up := roomUpFrame_eq r.frame reported
    have handled : handleRoom e r hand = if e.forwardUp then offerRoomUp up woken else woken := by rw [← made]; rfl
    rw [works, handled]
    refine ⟨fun kept => by rw [if_neg (by simp [kept])], fun forward free => ?_, fun forward full => ?_⟩
    · rw [if_pos forward, offerRoomUp_eq rfl, if_pos free]
      rfl
    · intro q candidate
      rw [if_pos forward, offerRoomUp_eq rfl, if_neg (by omega)]
      constructor
      · intro k x here place latest
        rw [coalesce, if_pos (waitingPart_any.2 ⟨k, place⟩)]
        refine congrArg _ (congrArg _ (congrArg _ (State.onPorts_congr ?_)))
        rw [replaceLatest_waiting (f := up) here place latest]
      · intro noPlace
        rw [coalesce, if_neg (by rw [waitingPart_any]; exact fun ⟨k, place⟩ => noPlace k place)]
        rfl
  · intro a rep s
    refine ⟨fun unbound => takeReport_unbound unbound rep, fun i n bound => ?_⟩
    intro valid known read moded
    have readable : rep.readingValid = valid := by simp [Report.readingValid, valid]
    have named : (modeOfByte rep.mode).isSome = known := by
      rw [modeOfByte_eq]
      split
      · exact (decide_eq_true ‹_›).symm
      · exact (decide_eq_false ‹_›).symm
    have counted : countReport rep = fun u => { u with
        invalidReading := if valid then u.invalidReading else min 65535 (u.invalidReading + 1)
        badMode := if known then u.badMode else min 65535 (u.badMode + 1) } := by
      funext u
      rw [countReport, readable, named]
      rfl
    rw [takeReport, bound, counted]
    refine zoneEvent_congr i ?_
    change (s.zone i).takeReport s.clock n rep = moded (read (s.zone i))
    have taken : (if rep.readingValid then (s.zone i).onSlot n (·.take s.clock rep.reading) else s.zone i) =
        read (s.zone i) := by rw [readable]; rfl
    rw [Zone.takeReport, taken, modeOfByte_eq]
    by_cases named : rep.mode = 0 ∨ rep.mode = 1
    · have known : known = true := decide_eq_true named
      rw [if_pos named, clampInt_eq 300 _ (by decide)]
      simp only [moded, known, if_true]
    · have known : known = false := decide_eq_false named
      rw [if_neg named]
      simp only [moded, known, Bool.false_eq_true, if_false]

/-! ### The outstanding post in the wake (R160, R161) -/

theorem Post.awaited_iff {d : Byte} {p : Post} : p.awaited d = true ↔ p.dest = d ∧ p.outstanding = true := by
  simp [Post.awaited]

theorem firstOf_awaited {d : Byte} {before after : List Post} {p : Post} (dest : p.dest = d)
    (outstanding : p.outstanding = true) (earlier : ∀ q ∈ before, ¬(q.dest = d ∧ q.outstanding = true)) :
    FirstOf (Post.awaited d) (before ++ p :: after) before p after :=
  ⟨rfl, fun q hq => Bool.eq_false_iff.2 fun awaited => earlier q hq (Post.awaited_iff.1 awaited),
    Post.awaited_iff.2 ⟨dest, outstanding⟩⟩

theorem strayTaken_eq (tag : Option Nat) (s : State) :
    (s.onPostbox fun b => if tag.isSome then { b with strayTaken := satInc b.strayTaken } else b) =
      s.onPostbox fun b =>
        { b with strayTaken := if tag = none then b.strayTaken else min 65535 (b.strayTaken + 1) } := by
  cases tag <;> rfl

theorem findSlot_congr {d : Byte} {s t : State} (zones : t.zones = s.zones) : findSlot d t = findSlot d s := by
  unfold findSlot State.zone
  rw [zones]

section wake

variable {d : Byte} {s : State} {p : Post} {before after : List Post}

/-- The pool without its outstanding post of the device. -/
theorem dropPost_first (first : FirstOf (Post.awaited d) s.postbox.posts before p after) :
    dropPost (Post.awaited d) s = s.onPostbox fun b => { b with posts := before ++ after } := by
  simp only [dropPost, State.onPostbox, first.removeFirst]

/-- A TAKEN with the tag of the outstanding post, a NOTICE. -/
theorem meetOutstanding_notice (first : FirstOf (Post.awaited d) s.postbox.posts before p after)
    (notice : p.kind = .notice) :
    meetOutstanding d (some p.tag) s =
      resolve p .delivered (s.onPostbox fun b => { b with posts := before ++ after }) := by
  rw [meetOutstanding, first.find?]
  dsimp only
  rw [if_pos rfl, dropPost_first first, notice]

/-- A TAKEN with the tag of the outstanding post, a SETPOINT or MODE. -/
theorem meetOutstanding_setting (first : FirstOf (Post.awaited d) s.postbox.posts before p after)
    (setting : p.kind ≠ .notice) :
    meetOutstanding d (some p.tag) s =
      zoneDelivered d p.kind p.value (resolve p .delivered (s.onPostbox fun b => { b with posts := before ++ after })) := by
  rw [meetOutstanding, first.find?]
  dsimp only
  rw [if_pos rfl, dropPost_first first]
  split
  · exact absurd ‹_› setting
  · rfl

theorem meetOutstanding_stray {tag : Option Nat} (first : FirstOf (Post.awaited d) s.postbox.posts before p after)
    (other : tag ≠ some p.tag) :
    meetOutstanding d tag s =
      let missed := s.onPostbox fun b =>
        { b with strayTaken := if tag = none then b.strayTaken else min 65535 (b.strayTaken + 1) }
      if 3 ≤ p.attempts then
        resolve p .undelivered (missed.onPostbox fun b => { b with posts := before ++ after })
      else missed := by
  rw [meetOutstanding, first.find?]
  dsimp only
  rw [if_neg other, strayTaken_eq, dropPost_first (s := s.onPostbox _) first]

/-- A device whose address no slot holds takes its setting to no zone. -/
theorem zoneDelivered_unbound (unbound : findSlot d s = none) (kind : PostKind) (value : Nat) :
    zoneDelivered d kind value s = s := by rw [zoneDelivered, unbound]

theorem zoneDelivered_setpoint {i : Fin 8} {n : SlotNo} (bound : findSlot d s = some (i, n)) (value : Nat) :
    zoneDelivered d .setpoint value s = zoneEvent i (fun z => { z with requested := min 300 (value : Int) }) s := by
  have clamped : clampInt 0 300 value = min 300 (value : Int) := by
    rw [clampInt_eq 300 _ (by decide)]
    omega
  rw [zoneDelivered, bound]
  simp only [clamped]

theorem zoneDelivered_mode {i : Fin 8} {n : SlotNo} (bound : findSlot d s = some (i, n)) (value : Nat) :
    zoneDelivered d .mode value s = zoneEvent i (fun z => { z with mode := if value = 1 then .heat else .off }) s := by
  rw [zoneDelivered, bound]

theorem meetOutstanding_none {tag : Option Nat} (settled : ∀ q ∈ s.postbox.posts, q.dest = d → q.outstanding = false) :
    meetOutstanding d tag s = s.onPostbox fun b =>
      { b with strayTaken := if tag = none then b.strayTaken else min 65535 (b.strayTaken + 1) } := by
  have nothing : s.postbox.posts.find? (Post.awaited d) = none := by
    rw [List.find?_eq_none]
    intro q hq awaited
    obtain ⟨dest, outstanding⟩ := Post.awaited_iff.1 awaited
    exact absurd (settled q hq dest) (by simp [outstanding])
  rw [meetOutstanding, nothing]
  exact strayTaken_eq tag s

/-! ### The reply (R162) -/

/-- The oldest post of a device, and whether another follows it. -/
theorem Postbox.of_first {b : Postbox} (posts : b.posts = before ++ p :: after) (dest : p.dest = d)
    (earlier : ∀ q ∈ before, q.dest ≠ d) : b.of d = p :: after.filter fun q => decide (q.dest = d) := by
  rw [Postbox.of, posts, List.filter_append, List.filter_eq_nil_iff.2 fun q hq => by simpa using earlier q hq]
  simp [dest]

theorem filter_isEmpty_eq {α : Type} (q : α → Bool) (l : List α) : (!(l.filter q).isEmpty) = l.any q := by
  induction l with
  | nil => rfl
  | cons x l ih => cases here : q x <;> simp_all

theorem changePost_oldest (posts : s.postbox.posts = before ++ p :: after) (dest : p.dest = d)
    (earlier : ∀ q ∈ before, q.dest ≠ d) (f : Post → Post) :
    changePost (Post.named d p.tag) f s = s.onPostbox fun b => { b with posts := before ++ f p :: after } := by
  have first : FirstOf (Post.named d p.tag) s.postbox.posts before p after :=
    ⟨posts, fun q hq => by simp [Post.named, earlier q hq], by simp [Post.named, dest]⟩
  simp only [changePost, State.onPostbox, first.mapFirst]

end wake

theorem handleOwn_wake {e : MapEntry} {r : RxFrame} {tag : Option Nat} {s : State} (room : e.cls = .room)
    (size : r.frame.payload = [])
    (named : (r.frame.kind = 0x02 ∧ tag = none) ∨ (r.frame.kind = 0x03 ∧ tag = some r.frame.tag.toNat)) :
    handleOwn e r s = wake r.frame.source tag r.endTime s := by
  rw [handleOwn, room, size]
  rcases named with ⟨kind, rfl⟩ | ⟨kind, rfl⟩
  · exact (if_neg fun h => absurd h.2 (by decide)).trans (if_pos ⟨kind, rfl⟩)
  · refine (if_neg fun h => absurd h.2 (by decide)).trans ((if_neg fun h => ?_).trans (if_pos ⟨kind, rfl⟩))
    exact absurd (kind.symm.trans h.1) (by decide)

/-- Settles O18. -/
theorem wakeIsAnswered : Obligations.WakeIsAnswered := by
  refine ⟨?_, ?_, fun d tag s settled => meetOutstanding_none settled⟩
  · intro r rest e tag time s on idle queue low high listed room own size named d now hand met
    have listed : lookup r.frame.source hand = some e := listed
    have dispatched : dispatchField r hand = offerReply d r.endTime met :=
      (dispatch_own ⟨low, high⟩ listed (by simp [room]) own).trans (handleOwn_wake room size named)
    have works : exec (.classifierTake time) s = .next (fieldEnded (offerReply d r.endTime met)) := by
      rw [exec_classifierTake on idle queue, ← dispatched]
    have moment : met.tick = now := (meetOutstanding_frame d tag hand).2.2.1
    have clock : met.clock = s.clock := (meetOutstanding_frame d tag hand).2.2.2.2.1
    have waiting : met.ports.fieldTx = s.ports.fieldTx := by simp [met, hand]
    have accepts : fieldAccepts met = decide (s.ports.fieldTx.length < 8) := by rw [fieldAccepts, waiting]
    rw [works, offerReply, replyWindow, moment, accepts]
    refine ⟨fun late => by rw [if_pos late]; rfl, fun open_ full => ?_, fun open_ free noPost => ?_,
      fun before p after open_ free posts dest earlier => ?_⟩ <;>
      rw [if_neg (Nat.not_lt.2 open_)]
    · rw [if_neg (by simpa using full)]
      rfl
    · have nothing : met.postbox.of d = [] := by
        rw [Postbox.of, List.filter_eq_nil_iff]
        simpa using noPost
      rw [if_pos (decide_eq_true free), nothing]
      rfl
    · rw [if_pos (decide_eq_true free), Postbox.of_first posts dest earlier]
      dsimp only
      rw [filter_isEmpty_eq, changePost_oldest posts dest earlier, clock]
      rfl
  · intro d tag p before after s posts dest outstanding earlier removed ended missed
    have first := firstOf_awaited (after := after) dest outstanding earlier
    rw [← posts] at first
    have resolved : ∀ o u, resolve p o u = ended o.code u := by
      intro o u
      simp only [resolve, resolvedNotice, dest, ended]
    have slots : ∀ o, findSlot d (resolve p o removed) = findSlot d s := fun o => findSlot_congr (by simp [removed])
    refine ⟨fun own notice => ?_, fun own unbound => ?_, fun own setpoint i n bound => ?_, fun own mode i n bound => ?_,
      fun other few => ?_, fun other third => ?_⟩
    · rw [own, meetOutstanding_notice first notice]
      exact resolved _ _
    · by_cases notice : p.kind = .notice
      · rw [own, meetOutstanding_notice first notice]
        exact resolved _ _
      · rw [own, meetOutstanding_setting first notice, zoneDelivered_unbound ((slots _).trans unbound)]
        exact resolved _ _
    · rw [own, meetOutstanding_setting first (by simp [setpoint]), setpoint,
        zoneDelivered_setpoint ((slots _).trans bound), resolved]
      rfl
    · rw [own, meetOutstanding_setting first (by simp [mode]), mode, zoneDelivered_mode ((slots _).trans bound), resolved]
      rfl
    · rw [meetOutstanding_stray first other]
      exact if_neg (by omega)
    · rw [meetOutstanding_stray first other]
      exact (if_pos third).trans (resolved _ _)

/-! ### The relay down (R31) -/

/-- A PASS carried to its end. -/
theorem handleHouse_pass {r : HouseReq} (s : State) :
    handleHouse (passFrame r) s = offerAnswer r.tag (relayCheck (passFrame r) s) := by
  rw [handleHouse]
  exact (if_neg (show ¬kindPass = kindMgmt by decide)).trans (if_pos rfl)

/-- The row of R31 and R32 that refuses a PASS, if one does. -/
def passRefusal (r : HouseReq) (s : State) : Option Reason :=
  let queued : Option Reason := if 8 ≤ s.ports.fieldTx.length then some .full else none
  if r.params.length < 2 then some .length
  else if r.dest = 0 ∨ r.dest = 62 then some .address
  else if r.params.getD 0 0 ∉ definedKinds then some .value
  else if r.dest = 63 then (if s.recov.side = .field then some .guarded else queued)
  else (lookup r.dest s).elim (some .unlisted) fun e =>
    if e.cls = .blocked then some .blocked
    else if e.cls = .room then some .sleeper
    else if e.guard = true ∧ s.recov.side = .field then some .guarded
    else queued

/-- The answer and the state after a PASS that this row refuses, or that none does. -/
def passOutcome (r : HouseReq) (s : State) (refusal : Option Reason) : Answer × State :=
  refusal.elim (answer .done, pushField { frame := passedFrame (passFrame r), origin := .pass } s) fun x => (refuse x, s)

theorem offerPass_eq (r : HouseReq) (s : State) :
    offerPass (passFrame r) s = passOutcome r s (if 8 ≤ s.ports.fieldTx.length then some .full else none) := by
  rw [offerPass, fieldAccepts]
  by_cases full : 8 ≤ s.ports.fieldTx.length
  · rw [if_pos full, if_neg (by simpa using full)]
    rfl
  · rw [if_neg full, if_pos (by simpa using full)]
    rfl

theorem fieldClaims_iff {s : State} : fieldClaims s = true ↔ s.recov.side = .field := by simp [fieldClaims]

theorem checkDestination_eq (r : HouseReq) (s : State) : checkDestination (passFrame r) s = passOutcome r s
    (if r.dest = 63 then
      (if s.recov.side = .field then some .guarded else if 8 ≤ s.ports.fieldTx.length then some .full else none)
    else (lookup r.dest s).elim (some .unlisted) fun e =>
      if e.cls = .blocked then some .blocked
      else if e.cls = .room then some .sleeper
      else if e.guard = true ∧ s.recov.side = .field then some .guarded
      else if 8 ≤ s.ports.fieldTx.length then some .full else none) := by
  have guards : ∀ shut : Bool, (if shut && fieldClaims s then (refuse .guarded, s) else offerPass (passFrame r) s) =
      passOutcome r s (if shut = true ∧ s.recov.side = .field then some .guarded
        else if 8 ≤ s.ports.fieldTx.length then some .full else none) := by
    intro shut
    by_cases claimed : shut = true ∧ s.recov.side = .field
    · rw [if_pos claimed, if_pos (by rw [Bool.and_eq_true, fieldClaims_iff]; exact claimed)]
      rfl
    · rw [if_neg claimed, if_neg (by rw [Bool.and_eq_true, fieldClaims_iff]; exact claimed), offerPass_eq]
  have dest : (passFrame r).dest = r.dest := rfl
  rw [checkDestination, dest]
  by_cases all : r.dest = 63
  · rw [if_pos all, if_pos all]
    simpa using guards true
  · rw [if_neg all, if_neg all]
    cases lookup r.dest s with
    | none => rfl
    | some e =>
      have class_guards := guards e.guard
      cases kind : e.cls <;> simp only [Option.elim_some, kind, reduceCtorEq, if_true, if_false]
      · rfl
      · exact class_guards
      · exact class_guards
      · rfl

theorem relayCheck_eq (r : HouseReq) (s : State) : relayCheck (passFrame r) s = passOutcome r s (passRefusal r s) := by
  rw [relayCheck, passRefusal, checkDestination_eq]
  have payload : (passFrame r).payload = r.params := rfl
  have dest : (passFrame r).dest = r.dest := rfl
  rw [payload, dest, houseAddr]
  by_cases short : r.params.length < 2
  · rw [if_pos short, if_pos short]
    rfl
  by_cases own : r.dest = 0 ∨ r.dest = 62
  · rw [if_neg short, if_pos own, if_neg short, if_pos own]
    rfl
  by_cases known : r.params.getD 0 0 ∈ definedKinds
  · rw [if_neg short, if_neg own, if_pos (List.contains_iff_mem.2 known), if_neg short, if_neg own, if_neg (Classical.not_not.2 known)]
  · rw [if_neg short, if_neg own, if_neg (by simpa using known), if_neg short, if_neg own, if_pos known]
    rfl

/-- Settles O19. -/
theorem passIsRelayedDown : Obligations.PassIsRelayedDown := by
  intro r s takes guarded full queued refusal
  have idle : (houseTaken s).mgmt.restart = none := takes.2.2.2.1
  have works : exec (.relayDown r) s =
      .next (offerAnswer r.tag (passOutcome r (houseTaken s) (passRefusal r (houseTaken s)))) := by
    rw [← relayCheck_eq, ← handleHouse_pass]
    exact houseRequest_taken takes
  have same : refusal = (passRefusal r (houseTaken s)).map Reason.code := by
    have found : lookup r.dest (houseTaken s) = lookup r.dest s := rfl
    have waiting : (houseTaken s).ports.fieldTx = s.ports.fieldTx := rfl
    have side : (houseTaken s).recov.side = s.recov.side := rfl
    simp only [refusal, queued, full, guarded, passRefusal, found, waiting, side]
    cases lookup r.dest s <;>
      simp only [Option.elim, apply_ite (Option.map Reason.code), Option.map_some, Option.map_none, Reason.code]
  rw [works, same]
  cases passRefusal r (houseTaken s) with
  | none => exact congrArg _ (offerAnswer_plain idle)
  | some x => exact congrArg _ (offerAnswer_plain idle)

end Sys2Proof.Machine
end

section
/-! Zone events and their timers (O21, O22). -/

namespace Sys2Proof.Machine

/-! ### What stays outside the heat side -/

theorem HeatOnly.trans {s t u : State} (first : HeatOnly s t) (second : HeatOnly t u) : HeatOnly s u := by
  rw [HeatOnly] at first second ⊢
  conv => lhs; rw [second, first]

theorem raise_heatOnly (n : Notice) (s : State) : HeatOnly s (raise n s) := by
  unfold raise
  (repeat' split) <;> rfl

theorem handOver_heatOnly (z : Fin 8) (old new : Option Nat) (s : State) : HeatOnly s (handOver z old new s) := by
  unfold handOver
  split
  · exact rotationEvent_heatOnly _ s
  · exact rotationEvent_heatOnly _ s
  · split
    · rfl
    · exact rotationEvent_heatOnly _ s
  · rfl

/-! ### One record of the zone table -/

theorem Eight.set_set {α : Type} (e : Eight α) (i : Fin 8) (a b : α) : (e.set i a).set i b = e.set i b := by
  match i with
  | 0 | 1 | 2 | 3 | 4 | 5 | 6 | 7 => rfl

theorem Zone.rank_eq (z : Zone) : z.rank = if z.state = .frost ∨ z.state = .fallbackOn then some 4
    else if z.state = .calling then some z.priority else none := by
  unfold Zone.rank
  split <;> simp_all

theorem zoneAlarm_iff {old new : ZoneState} : zoneAlarm old new = true ↔ (new = .frost ∧ old ≠ .frost) ∨
    ((new = .fallbackOn ∨ new = .fallbackRest) ∧ (old = .quiet ∨ old = .calling ∨ old = .frost)) := by
  simp only [zoneAlarm, ZoneState.inFallback, Bool.or_eq_true, Bool.and_eq_true, Bool.not_eq_true', decide_eq_true_eq,
    decide_eq_false_iff_not]
  rw [or_assoc, or_comm]

/-- The part with the evaluated record of zone `i` stored, and the rank that is handed over (R50, R51). -/
abbrev recordStored (i : Fin 8) (z : Zone) (s : State) : State :=
  s.onZones fun v => { v with recs := v.recs.set i { z with handed := z.rank } }

/-- An event of a zone: its change, the evaluation, ZONE where it is due, and the handoff (R51). -/
theorem zoneEvent_eq (i : Fin 8) (f : Zone → Zone) (s : State) :
    zoneEvent i f s =
      let z := (f (s.zone i)).evaluate s.gauge.band s.clock
      handOver i (f (s.zone i)).handed z.rank
        (zoneAttention i (f (s.zone i)).state z.state (recordStored i z s)) := by
  have record : (s.onZone i f).zone i = f (s.zone i) := Eight.get_set_self _ _ _
  have stored : ∀ z, storeEvaluated i z (s.onZone i f) = recordStored i z s := by
    intro z
    simp only [storeEvaluated, State.onZone, State.onZones, Eight.set_set]
  rw [zoneEvent, evaluateZone, finishZone, record, stored]
  rfl

theorem zoneAttention_heatOnly (i : Fin 8) (old new : ZoneState) (s : State) :
    HeatOnly s (zoneAttention i old new s) := by
  unfold zoneAttention
  split
  · exact raise_heatOnly _ _
  · rfl

theorem zoneAttention_zones (i : Fin 8) (old new : ZoneState) (s : State) :
    (zoneAttention i old new s).zones = s.zones := by
  unfold zoneAttention
  split <;> simp

theorem zoneEvent_zones (i : Fin 8) (f : Zone → Zone) (s : State) :
    (zoneEvent i f s).zones = (recordStored i ((f (s.zone i)).evaluate s.gauge.band s.clock) s).zones := by
  rw [zoneEvent_eq]
  simp only [handOver_frame]
  exact zoneAttention_zones _ _ _ _

theorem zoneEvent_heatOnly (i : Fin 8) (f : Zone → Zone) (s : State) : HeatOnly s (zoneEvent i f s) := by
  have stored : ∀ z, HeatOnly s (recordStored i z s) := fun z => rfl
  rw [zoneEvent_eq]
  exact ((stored _).trans (zoneAttention_heatOnly _ _ _ _)).trans (handOver_heatOnly _ _ _ _)

theorem handOver_same (i : Fin 8) (rank : Option Nat) (s : State) : handOver i rank rank s = s := by
  cases rank with
  | none => rfl
  | some k => exact if_pos rfl

section handoff

variable {i : Fin 8} {old new : Option Nat} {s : State}

theorem handOver_starts {k : Nat} (before : old = none) (now : new = some k) :
    handOver i old new s = rotationEvent (fun r => r.startOfCall s.clock i k) s := by
  subst before now
  rfl

theorem handOver_ends {j : Nat} (before : old = some j) (now : new = none) :
    handOver i old new s = rotationEvent (fun r => r.endOfCall s.clock i) s := by
  subst before now
  rfl

theorem handOver_moves {j k : Nat} (before : old = some j) (now : new = some k) (other : j ≠ k) :
    handOver i old new s = rotationEvent (fun r => r.rankChange s.clock i k) s := by
  subst before now
  exact if_neg other

end handoff

/-- Settles O21. -/
theorem zoneEventIsFinished : Obligations.ZoneEventIsFinished := by
  intro i f s t before z rank alarm
  have ranked : z.rank = rank := z.rank_eq
  have alarmed : zoneAlarm before.state z.state = true ↔ alarm := zoneAlarm_iff
  let stored := s.onZones fun v => { v with recs := v.recs.set i { z with handed := rank } }
  let u := if alarm then raise { bit := .zone, code := 0x0B, subject := i.val, value1 := z.state.code } stored else stored
  have attended : zoneAttention i before.state z.state (recordStored i z s) = u := by
    have same : recordStored i z s = stored := by simp only [recordStored, ranked, stored]
    rw [same, zoneAttention]
    by_cases due : alarm
    · exact (if_pos (alarmed.2 due)).trans (if_pos due).symm
    · exact (if_neg (mt alarmed.1 due)).trans (if_neg due).symm
  have event : t = handOver i before.handed rank u := by
    rw [← attended, ← ranked]
    exact zoneEvent_eq i f s
  have zones : t.zones = stored.zones := by
    refine (zoneEvent_zones i f s).trans ?_
    change (recordStored i z s).zones = _
    simp only [recordStored, ranked, stored]
  have kept : ¬alarm → u = stored := fun quiet => if_neg quiet
  have handed : before.handed = rank → t = u := fun same => by rw [event, same, handOver_same]
  refine ⟨?_, fun j other => ?_, ?_, ?_, fun due => ?_, fun quiet => ?_, fun same => ?_, zoneEvent_heatOnly i f s, ?_⟩
  · rw [State.zone, zones]
    exact Eight.get_set_self _ _ _
  · rw [State.zone, zones]
    refine (Eight.get_set _ _ _ _).trans (if_neg other)
  · rw [zones]
    rfl
  · rw [zones]
    rfl
  · have raised : t.mgmt = (raise { bit := .zone, code := 0x0B, subject := i.val, value1 := z.state.code } stored).mgmt := by
      rw [event, (handOver_frame _ _ _ _).2.2.2.2.2.2.2.2.2.2.2.1]
      exact congrArg State.mgmt (if_pos due)
    rw [raised]
    exact fun clear => (show AttnBit.zone.word ≠ 0 by decide) ((raise_sets_bit _ stored).symm.trans clear)
  · rw [event, kept quiet]
    simp [stored]
  · rw [handed same]
    simp only [u]
    split <;> simp [stored]
  · have clock : u.clock = s.clock := by
      simp only [u]
      split <;> simp [stored]
    refine ⟨handed, fun k starts calls => ?_, fun j called ends => ?_, fun j k called calls other => ?_⟩
    · exact event.trans ((handOver_starts starts calls).trans (by rw [clock]))
    · exact event.trans ((handOver_ends called ends).trans (by rw [clock]))
    · exact event.trans ((handOver_moves called calls other).trans (by rw [clock]))

/-! ### The timed events of a zone (R40, R43, R49) -/

theorem Slot.ageOut_due {now at_ : Clock} {limit : Nat} {t : Slot} (fresh : t.fresh = true) (arrived : t.arrival = some at_)
    (old : limit * 60 ≤ age now at_) : t.ageOut now limit = { t with fresh := false } := by
  rw [Slot.ageOut, fresh, arrived, Option.getD_some, decide_eq_true old]
  rfl

theorem Slot.ageOut_young {now at_ : Clock} {limit : Nat} {t : Slot} (arrived : t.arrival = some at_)
    (young : age now at_ < limit * 60) : t.ageOut now limit = t := by
  rw [Slot.ageOut, arrived, Option.getD_some, decide_eq_false (by omega), Bool.and_false]
  rfl

theorem Zone.onSlot_congr {n : SlotNo} {f g : Slot → Slot} {z : Zone} (same : f (z.slot n) = g (z.slot n)) :
    z.onSlot n f = z.onSlot n g := by
  cases n <;> simp only [Zone.onSlot, Zone.slot] at same ⊢ <;> rw [same]

/-- Settles O22. -/
theorem zoneTimersRunOut : Obligations.ZoneTimersRunOut := by
  intro i s on z
  have aging : ∀ n, exec (.readingAgesOut i n) s = .next (readingAgesOut i n s) := fun n => whenOn_powered on
  have expires : exec (.overrideExpires i) s = .next (overrideExpires i s) := whenOn_powered on
  have changes : exec (.fallbackPhaseChange i) s = .next (fallbackPhaseChange i s) := whenOn_powered on
  refine ⟨fun n at_ fresh arrived old => ?_, fun n at_ arrived young => ?_, fun elapsed => ?_,
    fun c enabled state cycle elapsed within => ?_, fun c enabled state cycle elapsed => ?_⟩
  · have aged := Slot.ageOut_due fresh arrived old
    rw [aging, readingAgesOut, aged, if_neg (by rw [fresh]; exact Bool.false_ne_true)]
    exact congrArg _ (zoneEvent_congr i (Zone.onSlot_congr aged))
  · rw [aging, readingAgesOut, Slot.ageOut_young arrived young, if_pos rfl]
  · rw [expires, overrideExpires, if_pos elapsed]
    rfl
  · have cycleAge : z.cycleAge s.clock = age s.clock c := by rw [Zone.cycleAge, cycle]; rfl
    have due : z.phaseOver s.clock = true := by
      simp [Zone.phaseOver, ZoneState.inFallback, enabled, state, cycle, cycleAge, elapsed]
    rw [changes, fallbackPhaseChange, if_pos due]
    refine congrArg _ (zoneEvent_congr i ?_)
    exact if_neg (by rw [cycleAge]; omega)
  · have cycleAge : z.cycleAge s.clock = age s.clock c := by rw [Zone.cycleAge, cycle]; rfl
    have due : z.phaseOver s.clock = true := by
      rcases state with state | state <;>
        simp [Zone.phaseOver, ZoneState.inFallback, enabled, state, cycle, cycleAge, elapsed]
    rw [changes, fallbackPhaseChange, if_pos due]
    refine congrArg _ (zoneEvent_congr i ?_)
    refine (if_pos (by rw [cycleAge]; exact elapsed)).trans ?_
    have moved : (s.zone i).cycleStart.map (· + 3600) = some (c + 3600) := by rw [cycle]; rfl
    rw [moved]
    rfl

end Sys2Proof.Machine
end

section
/-! A WRITE of one field, and the writes of the zone records (O23, O24). -/

namespace Sys2Proof.Machine

/-! ### A WRITE of one field (R171, R172) -/

/-- The payload that answers a WRITE of one field of this size. -/
def fieldAnswer (size : Nat) : FieldResult → Answer
  | .stored => [0]
  | .clamped v => 1 :: 0 :: leBytes size v
  | .refused x => [5, x.code, 0]

/-- A field starts at this address of table space, with this size, and is writable. -/
structure FieldStarts (f : Field) (start size : Nat) : Prop where
  here : fieldAt start = some ⟨f, start, size⟩
  first : insideField start = false
  sized : 0 < size
  low : start < 65536

theorem writeTable_field {f : Field} {start size : Nat} {data : List Byte} (starts : FieldStarts f start size)
    (whole : data.length = size) (s : State) :
    writeTable start data s = (fieldAnswer size (applyField f (ofLE data) s).1, (applyField f (ofLE data) s).2) := by
  rw [writeTable_one starts.here rfl whole starts.sized]
  dsimp only
  rcases applyField f (ofLE data) s with ⟨result, t⟩
  cases result with
  | stored => rfl
  | clamped v => rfl
  | refused x =>
    have first : insideField (start + 0) = false := starts.first
    change refusedAt start 0 x t = _
    rw [refusedAt, first]
    rfl

/-- A WRITE of one whole field that the dispatcher takes next, with no SAVE in flight. -/
theorem houseRequest_field {tag : Byte} {f : Field} {start size : Nat} {data : List Byte} {s : State}
    (starts : FieldStarts f start size) (takes : HouseTakes (writeFrame tag start data) s) (idle : s.store.save = none)
    (whole : data.length = size) :
    houseRequest (writeFrame tag start data) s =
      .next (answered tag (fieldAnswer size (applyField f (ofLE data) (houseTaken s)).1)
        (applyField f (ofLE data) (houseTaken s)).2) := by
  have data_some : 1 ≤ data.length := whole ▸ starts.sized
  have unmarked : (applyField f (ofLE data) (houseTaken s)).2.mgmt.restart = none := by
    simpa using takes.2.2.2.1
  rw [houseRequest_write takes idle data_some starts.low, writeTable_field starts whole]
  exact congrArg _ (offerAnswer_plain unmarked)

theorem ofLE_byte (b : Byte) : ofLE [b] = b.toNat := by simp [ofLE]

theorem ofLE_word {n : Nat} (small : n < 65536) : ofLE (leBytes 2 n) = n := by
  simp [leBytes, ofLE]
  omega

theorem ofLE_lowByte (n : Nat) : ofLE [BitVec.ofNat 8 n] = n % 256 := by simp [ofLE]

/-! ### The fields of a zone record (12.6) -/

theorem zoneFields_start (z : Fin 8) :
    FieldStarts (.enabled z) (0x080 + 32 * z.val) 1 ∧ FieldStarts (.slot z .one) (0x081 + 32 * z.val) 1 ∧
    FieldStarts (.slot z .two) (0x082 + 32 * z.val) 1 ∧ FieldStarts (.route z) (0x083 + 32 * z.val) 1 ∧
    FieldStarts (.zoneNum z .priority) (0x084 + 32 * z.val) 1 ∧ FieldStarts (.zoneNum z .hyst) (0x085 + 32 * z.val) 1 ∧
    FieldStarts (.zoneNum z .frost) (0x086 + 32 * z.val) 2 ∧ FieldStarts (.zoneNum z .stale) (0x088 + 32 * z.val) 1 ∧
    FieldStarts (.zoneNum z .onTime) (0x089 + 32 * z.val) 1 ∧ FieldStarts (.zoneNum z .economy) (0x08A + 32 * z.val) 1 ∧
    FieldStarts (.zoneNum z .ovSet) (0x08C + 32 * z.val) 2 ∧ FieldStarts (.zoneNum z .ovDur) (0x08E + 32 * z.val) 2 := by
  have starts : ∀ {f a n}, fieldAt a = some ⟨f, a, n⟩ ∧ insideField a = false ∧ 0 < n ∧ a < 65536 → FieldStarts f a n :=
    fun ⟨here, first, sized, low⟩ => ⟨here, first, sized, low⟩
  refine ⟨?_, ?_, ?_, ?_, ?_, ?_, ?_, ?_, ?_, ?_, ?_, ?_⟩ <;> refine starts ?_ <;> revert z <;> decide

/-! ### Numeric settings and their limits (R58, 12.4) -/

theorem nearest_eq (lo hi v : Nat) (ordered : lo ≤ hi) : nearest lo hi v = max lo (min hi v) := by
  unfold nearest
  split
  · omega
  · split <;> omega

theorem fieldAnswer_numeric (size written stored : Nat) :
    fieldAnswer size (.numeric written stored) = numericAnswer size written stored := by
  rw [FieldResult.numeric, numericAnswer]
  split <;> rfl

/-- What a write of a numeric setting of a zone answers: the two temperatures are signed. -/
def zoneNumAnswer (size : Nat) (written stored : Int) : Answer :=
  if written = stored then [0] else 1 :: 0 :: leBytes size stored.toNat

theorem zoneNumAnswer_natural (size written stored : Nat) :
    zoneNumAnswer size (written : Int) (stored : Int) = numericAnswer size written stored := by
  simp only [zoneNumAnswer, numericAnswer, Int.natCast_inj, Int.toNat_natCast]

theorem clampInt_natural (lo hi v : Nat) : clampInt (lo : Int) (hi : Int) (v : Int) = (nearest lo hi v : Int) := by
  simp only [clampInt, nearest, Int.ofNat_lt]
  split
  · rfl
  · split <;> rfl

/-- A WRITE of one numeric setting of a zone, by the value stored. -/
theorem houseRequest_zoneNum {tag : Byte} {z : Fin 8} {f : ZoneNum} {start size : Nat} {data : List Byte} {s : State}
    (starts : FieldStarts (.zoneNum z f) start size) (takes : HouseTakes (writeFrame tag start data) s)
    (idle : s.store.save = none) (whole : data.length = size) {written stored : Int}
    (value : f.value (ofLE data) = written) (clamped : clampInt f.range.1 f.range.2 written = stored) :
    houseRequest (writeFrame tag start data) s =
      .next (answered tag (zoneNumAnswer size written stored) (zoneEvent z (f.write stored s.clock) (houseTaken s))) := by
  have kept : f.clamp (ofLE data) = stored := by rw [ZoneNum.clamp, value, clamped]
  have result : fieldAnswer size (if f.value (ofLE data) = f.clamp (ofLE data) then .stored
      else .clamped (f.clamp (ofLE data)).toNat) = zoneNumAnswer size written stored := by
    rw [value, kept, zoneNumAnswer]
    split <;> rfl
  rw [houseRequest_field starts takes idle whole, applyField, result, kept]
  rfl

theorem zoneBase_add (z : Fin 8) (k : Nat) : zoneBase z + k = 0x080 + k + 32 * z.val := by
  rw [zoneBase]
  omega

theorem age_self (now : Clock) : age now now = 0 := by simp [age]

/-- The phase of a zone in fallback, judged afresh. -/
theorem Zone.rejudgePhase_eq (now : Clock) (z : Zone) : z.rejudgePhase now = { z with
    state := if z.state = .fallbackOn ∨ z.state = .fallbackRest then
        (if z.cycleAge now < z.onTime * 60 then .fallbackOn else .fallbackRest)
      else z.state } := by
  have fallback : z.state.inFallback = true ↔ z.state = .fallbackOn ∨ z.state = .fallbackRest := by
    simp [ZoneState.inFallback]
  rw [Zone.rejudgePhase]
  by_cases within : z.state = .fallbackOn ∨ z.state = .fallbackRest
  · rw [if_pos (fallback.2 within), if_pos within]
  · rw [if_neg (mt fallback.1 within), if_neg within]

theorem nearest_eq_zero {hi v : Nat} (positive : 0 < hi) : nearest 0 hi v = 0 ↔ v = 0 := by
  rw [nearest_eq 0 hi v (Nat.zero_le hi)]
  omega

theorem boolOf_byte (b : Byte) : boolOf b.toNat = if b = 0 ∨ b = 1 then some (decide (b = 1)) else none := by
  have zero : b.toNat = 0 ↔ b = 0 := BitVec.toNat_inj (y := 0)
  have one : b.toNat = 1 ↔ b = 1 := BitVec.toNat_inj (y := 1)
  rw [boolOf]
  by_cases off : b = 0
  · rw [if_pos (zero.2 off), if_pos (.inl off), off]
    rfl
  · by_cases on : b = 1
    · rw [if_neg (mt zero.1 off), if_pos (one.2 on), if_pos (.inr on), on]
      rfl
    · rw [if_neg (mt zero.1 off), if_neg (mt one.1 on), if_neg (not_or.2 ⟨off, on⟩)]

/-- Settles O23. -/
theorem zoneSettingIsWritten : Obligations.ZoneSettingIsWritten := by
  intro tag z v b s idle n low t signed frost overriding
  obtain ⟨enabled, -, -, -, priority, hyst, frostField, stale, onTime, economy, ovSet, ovDur⟩ := zoneFields_start z
  have small : n < 65536 := v.isLt
  have placed : ∀ k data, houseRequest (writeFrame tag (zoneBase z + k) data) s =
      houseRequest (writeFrame tag (0x080 + k + 32 * z.val) data) s := fun k data => by rw [zoneBase_add]
  refine ⟨fun takes => ?_, fun takes => ?_, fun takes => ?_, fun takes => ?_, fun takes => ?_, fun takes => ?_,
    fun takes => ?_, fun takes => ?_, fun takes => ?_⟩
  · refine (placed 4 _).trans ?_
    rw [← zoneNumAnswer_natural]
    exact houseRequest_zoneNum priority takes idle rfl (congrArg Int.ofNat (ofLE_lowByte n)) (clampInt_natural 0 3 low)
  · refine (placed 5 _).trans ?_
    rw [← zoneNumAnswer_natural]
    exact houseRequest_zoneNum hyst takes idle rfl (congrArg Int.ofNat (ofLE_lowByte n)) (clampInt_natural 1 20 low)
  · refine (placed 6 _).trans ?_
    exact houseRequest_zoneNum frostField takes idle rfl (congrArg signed16 (ofLE_word small)) rfl
  · refine (placed 10 _).trans ?_
    rw [← zoneNumAnswer_natural]
    exact houseRequest_zoneNum economy takes idle rfl (congrArg Int.ofNat (ofLE_lowByte n)) (clampInt_natural 0 50 low)
  · refine (placed 12 _).trans ?_
    exact houseRequest_zoneNum ovSet takes idle rfl (congrArg signed16 (ofLE_word small)) rfl
  · have minutes : (fun r : Zone => { r with
          ovDur := nearest 0 1440 n, ovLeft := if n = 0 then none else some (nearest 0 1440 n * 60) }) =
        Zone.setOverride (nearest 0 1440 n) := by
      funext r
      simp only [Zone.setOverride, nearest_eq_zero (show 0 < 1440 by decide)]
    refine (placed 14 _).trans ?_
    rw [← zoneNumAnswer_natural, minutes]
    exact houseRequest_zoneNum ovDur takes idle rfl (congrArg Int.ofNat (ofLE_word small)) (clampInt_natural 0 1440 n)
  · refine (placed 8 _).trans ?_
    rw [← zoneNumAnswer_natural]
    exact houseRequest_zoneNum stale takes idle rfl (congrArg Int.ofNat (ofLE_byte b)) (clampInt_natural 5 120 b.toNat)
  · refine (placed 9 _).trans ?_
    rw [← zoneNumAnswer_natural, houseRequest_zoneNum onTime takes idle rfl
      (congrArg Int.ofNat (ofLE_byte b)) (clampInt_natural 0 30 b.toNat)]
    refine congrArg _ (congrArg _ (zoneEvent_congr z ?_))
    rw [ZoneNum.write, Zone.rejudgePhase_eq, Zone.cycleAge]
    dsimp only [ZoneNum.store]
    rcases Option.eq_none_or_eq_some ((houseTaken s).zone z).cycleStart with cycle | ⟨c, cycle⟩ <;>
      simp [cycle, age_self]
  · refine (placed 0 _).trans ?_
    rw [houseRequest_field enabled takes idle rfl, ofLE_byte, applyField, boolOf_byte]
    by_cases yesNo : b = 0 ∨ b = 1
    · rw [if_pos yesNo, if_pos yesNo]
      rfl
    · rw [if_neg yesNo, if_neg yesNo]
      rfl

/-! ### A slot written (R36, R37) -/

theorem slotValue_byte (b : Byte) : slotValue b.toNat =
    if b = 0xFF then some none else if 1 ≤ b ∧ b ≤ 61 then some (some b) else none := by
  have absent : b.toNat = 0xFF ↔ b = 0xFF := BitVec.toNat_inj (y := 0xFF)
  have device : (1 ≤ b.toNat ∧ b.toNat ≤ 61) ↔ (1 ≤ b ∧ b ≤ 61) := Iff.rfl
  rw [slotValue, BitVec.ofNat_toNat, BitVec.setWidth_eq]
  simp only [absent, device]

theorem findSlot_isSome_iff {a : Byte} {s : State} :
    (findSlot a s).isSome = true ↔ ∃ i m, ((s.zone i).slot m).addr = some a := by
  constructor
  · intro found
    refine Classical.byContradiction fun nowhere => ?_
    have missing : findSlot a s = none := by
      refine List.findSome?_eq_none_iff.2 fun i _ => ?_
      exact (if_neg fun here => nowhere ⟨i, .one, here⟩).trans (if_neg fun here => nowhere ⟨i, .two, here⟩)
    rw [missing] at found
    exact absurd found (by decide)
  · rintro ⟨i, m, here⟩
    refine Classical.byContradiction fun missing => ?_
    exact findSlot_none (by simpa using missing) i m here

/-- A slot that takes this value, or refuses it. -/
theorem slotField_start (z : Fin 8) (n : SlotNo) :
    FieldStarts (.slot z n) ((if n = .one then 0x081 else 0x082) + 32 * z.val) 1 := by
  obtain ⟨-, one, two, -⟩ := zoneFields_start z
  cases n with
  | one => exact one
  | two => exact two

theorem exec_slotWrite (tag : Byte) (z : Fin 8) (n : SlotNo) (b : Byte) (s : State) :
    exec (.slotWrite tag z n b) s =
      houseRequest (writeFrame tag ((if n = .one then 0x081 else 0x082) + 32 * z.val) [b]) s := by
  cases n with
  | one => exact congrArg (fun a => houseRequest (writeFrame tag a [b]) s) (zoneBase_add z 1)
  | two => exact congrArg (fun a => houseRequest (writeFrame tag a [b]) s) (zoneBase_add z 2)

/-- Settles O24. -/
theorem slotIsWritten : Obligations.SlotIsWritten := by
  intro tag z n b s idle takes t zone stored refused
  have works : exec (.slotWrite tag z n b) s =
      .next (answered tag (fieldAnswer 1 (writeSlot z n b.toNat t).1) (writeSlot z n b.toNat t).2) := by
    rw [exec_slotWrite, houseRequest_field (slotField_start z n) takes idle rfl, ofLE_byte]
    rfl
  have value := slotValue_byte b
  have stores : ∀ a, writeSlot z n b.toNat t = (.stored, storeSlot z n a t) → stored a := by
    intro a written
    exact works.trans (by rw [written]; rfl)
  have refuses : ∀ x : Reason, writeSlot z n b.toNat t = (.refused x, t) → refused x.code := by
    intro x written
    exact works.trans (by rw [written]; rfl)
  have device : 1 ≤ b → b ≤ 61 → slotValue b.toNat = some (some b) := by
    intro low high
    rw [value, if_neg (by rintro rfl; exact absurd high (by decide)), if_pos ⟨low, high⟩]
  refine ⟨fun outside => ?_, fun absent one second => ?_, fun absent single => ?_, fun low high own => ?_,
    fun low high other taken => ?_, fun low high free two first => ?_, fun low high free allowed => ?_⟩
  · have named : slotValue b.toNat = none := by
      rw [value, if_neg, if_neg]
      · rcases outside with rfl | ⟨high, -⟩
        · decide
        · exact fun within => absurd within.2 (by bv_omega)
      · rcases outside with rfl | ⟨-, other⟩
        · decide
        · exact other
    exact refuses .value (by rw [writeSlot, named])
  · refine refuses .value ?_
    rw [writeSlot, value, if_pos absent]
    exact if_pos ⟨one, Option.isSome_iff_ne_none.2 second⟩
  · refine stores none ?_
    rw [writeSlot, value, if_pos absent]
    exact if_neg fun ⟨one, second⟩ => single ⟨one, Option.isSome_iff_ne_none.1 second⟩
  · refine stores (some b) ?_
    rw [writeSlot, device low high]
    exact if_pos own
  · refine refuses .conflict ?_
    rw [writeSlot, device low high]
    exact (if_neg other).trans (if_pos (findSlot_isSome_iff.2 taken))
  · refine refuses .value ?_
    rw [writeSlot, device low high]
    exact (if_neg (free z n)).trans ((if_neg fun found => by
      obtain ⟨i, m, here⟩ := findSlot_isSome_iff.1 found
      exact free i m here).trans (if_pos ⟨two, first⟩))
  · refine stores (some b) ?_
    rw [writeSlot, device low high]
    refine (if_neg (free z n)).trans ((if_neg fun found => ?_).trans (if_neg fun ⟨two, first⟩ => ?_))
    · obtain ⟨i, m, here⟩ := findSlot_isSome_iff.1 found
      exact free i m here
    · rcases allowed with one | some_
      · rw [one] at two
        cases two
      · exact some_ first

end Sys2Proof.Machine
end

section
/-! The swap check (O26): the candidate it takes, one swap, and why its swaps come to an end. -/

namespace Sys2Proof.Machine

/-! ### The candidate (R67 steps 1 and 2) -/

section choice

variable {α : Type} {choose : α → α → α}

/-- An element that every choice against another of the list prefers is the one that is chosen. -/
theorem foldl_choice_eq (one : ∀ a b, choose a b = a ∨ choose a b = b) {c : α} (l : List α) (a : α) (mem : c ∈ a :: l)
    (best : ∀ g ∈ a :: l, g ≠ c → choose c g = c ∧ choose g c = c) : l.foldl choose a = c := by
  induction l generalizing a with
  | nil => exact (List.mem_singleton.1 mem).symm
  | cons b l ih =>
    have self : choose c c = c := (one c c).elim id id
    rw [List.foldl_cons]
    refine ih _ ?_ fun g hg other => ?_
    · rcases List.mem_cons.1 mem with rfl | mem
      · by_cases same : b = c
        · subst same
          rw [self]
          exact List.mem_cons_self
        · rw [(best b (by simp) same).1]
          exact List.mem_cons_self
      · rcases List.mem_cons.1 mem with rfl | mem
        · by_cases same : a = c
          · subst same
            rw [self]
            exact List.mem_cons_self
          · rw [(best a (by simp) same).2]
            exact List.mem_cons_self
        · exact List.mem_cons_of_mem _ mem
    · rcases List.mem_cons.1 hg with rfl | hg
      · rcases one a b with pick | pick <;> rw [pick] at other ⊢
        · exact best a (by simp) other
        · exact best b (by simp) other
      · exact best g (by simp [hg]) other

/-- A measure that no choice raises is least at the element chosen. -/
theorem foldl_choice_le {μ : α → Nat} (low : ∀ a b, μ (choose a b) ≤ μ a ∧ μ (choose a b) ≤ μ b) (l : List α) (a : α) :
    ∀ g ∈ a :: l, μ (l.foldl choose a) ≤ μ g := by
  induction l generalizing a with
  | nil => simp
  | cons b l ih =>
    rw [List.foldl_cons]
    have chosen := ih (choose a b) (choose a b) List.mem_cons_self
    intro g hg
    rcases List.mem_cons.1 hg with rfl | hg
    · exact Nat.le_trans chosen (low g b).1
    · rcases List.mem_cons.1 hg with rfl | hg
      · exact Nat.le_trans chosen (low a g).2
      · exact ih _ g (List.mem_cons_of_mem _ hg)

end choice

section swap

variable {now : Clock} {r : Rotation}

theorem swapFirst_rank_le (a b : Grant) : (swapFirst now a b).rank ≤ a.rank ∧ (swapFirst now a b).rank ≤ b.rank := by
  unfold swapFirst
  (repeat' split) <;> omega

/-- R67 step 2 between two grants. -/
def SwapsBefore (now : Clock) (c g : Grant) : Prop :=
  c.rank < g.rank ∨ (c.rank = g.rank ∧ (age now g.time < age now c.time ∨
    (age now g.time = age now c.time ∧ c.order < g.order)))

theorem swapFirst_of_before {c g : Grant} (before : SwapsBefore now c g) :
    swapFirst now c g = c ∧ swapFirst now g c = c := by
  rw [SwapsBefore] at before
  constructor <;> grind [swapFirst]

theorem Rotation.candidate_rank_le {c g : Grant} (taken : r.candidate now = some c) (mem : g ∈ r.grants)
    (expired : r.expired g = true) : c.rank ≤ g.rank := by
  have listed : g ∈ r.grants.filter r.expired := List.mem_filter.2 ⟨mem, expired⟩
  unfold Rotation.candidate at taken
  split at taken
  · cases taken
  · rename_i a l filtered
    rw [filtered] at listed
    rw [← Option.some.inj taken]
    exact foldl_choice_le (μ := Grant.rank) swapFirst_rank_le l a g listed

theorem Rotation.candidate_eq {c : Grant} (mem : c ∈ r.grants) (expired : r.expired c = true)
    (first : ∀ g ∈ r.grants, r.expired g = true → g ≠ c → SwapsBefore now c g) : r.candidate now = some c := by
  have listed : c ∈ r.grants.filter r.expired := List.mem_filter.2 ⟨mem, expired⟩
  unfold Rotation.candidate
  split
  · rename_i empty
    rw [empty] at listed
    cases listed
  · rename_i a l filtered
    rw [filtered] at listed
    refine congrArg some (foldl_choice_eq swapFirst_mem l a listed fun g hg other => ?_)
    rw [← filtered] at hg
    obtain ⟨granted, out⟩ := List.mem_filter.1 hg
    exact swapFirst_of_before (first g granted out other)

theorem Rotation.candidate_eq_none (fresh : ∀ g ∈ r.grants, r.expired g = false) : r.candidate now = none := by
  have empty : r.grants.filter r.expired = [] := List.filter_eq_nil_iff.2 fun g hg => by simp [fresh g hg]
  rw [Rotation.candidate, empty]

/-! ### One swap (R67 step 3) -/

/-- The Rotation Unit after the head `h` of the queue, behind which `q` waits, and the expired zone of `c` have swapped. -/
def Rotation.swapped (now : Clock) (c : Grant) (h : Wait) (q : List Wait) (r : Rotation) : Rotation :=
  { r with
    grants := (r.grants.filter fun g => decide (g.zone ≠ c.zone)) ++ [⟨h.zone, h.rank, now, r.grantCount + 1, 0⟩]
    queue := enqueue now ⟨c.zone, c.rank, now, r.joinCount + 1⟩ q
    grantCount := r.grantCount + 1, joinCount := r.joinCount + 1, overrun := none
    outputs := r.outputs.map fun o => { o with held := false } }

/-- The swap check can swap no more. -/
def Rotation.Stuck (now : Clock) (r : Rotation) : Prop :=
  ∀ c h q, r.candidate now = some c → r.queue = h :: q → h.rank < c.rank

theorem swapLoop_swaps {c : Grant} {h : Wait} {q : List Wait} (taken : r.candidate now = some c) (queue : r.queue = h :: q)
    (outranks : c.rank ≤ h.rank) (n : Nat) : swapLoop now (n + 1) r = swapLoop now n (r.swapped now c h q) := by
  rw [swapLoop, taken, queue]
  exact if_pos outranks

theorem swapLoop_stuck (stuck : r.Stuck now) (n : Nat) : swapLoop now n r = r := by
  cases n with
  | zero => rfl
  | succ n =>
    unfold swapLoop
    split
    · rename_i c h q taken queue
      exact if_neg (Nat.not_le.2 (stuck c h q taken queue))
    · rfl

/-- Either no swap is due, or one is. -/
theorem Rotation.stuck_or_swaps (now : Clock) (r : Rotation) :
    r.Stuck now ∨ ∃ c h q, r.candidate now = some c ∧ r.queue = h :: q ∧ c.rank ≤ h.rank := by
  by_cases swaps : ∃ c h q, r.candidate now = some c ∧ r.queue = h :: q ∧ c.rank ≤ h.rank
  · exact .inr swaps
  · exact .inl fun c h q taken queue => Nat.not_le.1 fun outranks => swaps ⟨c, h, q, taken, queue, outranks⟩

/-! ### Each swap leaves one fewer expired zone -/

theorem expired_of_turn {g : Grant} : r.expired g = true ↔ r.turnLen * 60 ≤ g.turn := by simp [Rotation.expired]

theorem swapped_expired_lt {c : Grant} (h : Wait) (q : List Wait) (timed : 1 ≤ r.turnLen) (mem : c ∈ r.grants)
    (expired : r.expired c = true) :
    (((r.swapped now c h q).grants.filter (r.swapped now c h q).expired).length) < (r.grants.filter r.expired).length := by
  have fresh : r.expired ⟨h.zone, h.rank, now, r.grantCount + 1, 0⟩ = false := by
    rw [Bool.eq_false_iff, ne_eq, expired_of_turn]
    exact Nat.not_le.2 (by dsimp only; omega)
  have kept : (r.swapped now c h q).grants.filter (r.swapped now c h q).expired =
      (r.grants.filter fun g => decide (g.zone ≠ c.zone)).filter r.expired := by
    have one : [(⟨h.zone, h.rank, now, r.grantCount + 1, 0⟩ : Grant)].filter r.expired = [] := by
      exact List.filter_cons_of_neg (Bool.eq_false_iff.1 fresh)
    change (_ ++ _ : List Grant).filter r.expired = _
    rw [List.filter_append, one, List.append_nil]
  have turned : (r.grants.filter fun g => decide (g.zone ≠ c.zone)).filter r.expired =
      (r.grants.filter r.expired).filter fun g => decide (g.zone ≠ c.zone) := by
    rw [List.filter_filter, List.filter_filter]
    exact List.filter_congr fun g _ => Bool.and_comm _ _
  rw [kept, turned]
  exact filter_zone_length_lt (List.mem_filter.2 ⟨mem, expired⟩)

/-- With fuel for every expired zone the check ends where none can swap. -/
theorem swapLoop_ends (n : Nat) (timed : 1 ≤ r.turnLen) (fuel : (r.grants.filter r.expired).length ≤ n) :
    (swapLoop now n r).Stuck now := by
  induction n generalizing r with
  | zero =>
    have empty : r.grants.filter r.expired = [] := List.length_eq_zero_iff.1 (Nat.le_zero.1 fuel)
    intro c h q taken
    obtain ⟨mem, expired⟩ := Rotation.candidate_mem taken
    exact absurd (List.mem_filter.2 ⟨mem, expired⟩) (by rw [show swapLoop now 0 r = r from rfl, empty]; exact List.not_mem_nil)
  | succ n ih =>
    rcases r.stuck_or_swaps now with stuck | ⟨c, h, q, taken, queue, outranks⟩
    · rw [swapLoop_stuck stuck]
      exact stuck
    · obtain ⟨mem, expired⟩ := Rotation.candidate_mem taken
      have fewer := swapped_expired_lt (now := now) h q timed mem expired
      rw [swapLoop_swaps taken queue outranks]
      exact ih timed (by omega)

/-- Fuel past the expired zones is not used. -/
theorem swapLoop_more (n : Nat) (timed : 1 ≤ r.turnLen) (fuel : (r.grants.filter r.expired).length ≤ n) :
    swapLoop now (n + 1) r = swapLoop now n r := by
  induction n generalizing r with
  | zero => exact swapLoop_stuck (swapLoop_ends 0 timed fuel) 1
  | succ n ih =>
    rcases r.stuck_or_swaps now with stuck | ⟨c, h, q, taken, queue, outranks⟩
    · rw [swapLoop_stuck stuck, swapLoop_stuck stuck]
    · obtain ⟨mem, expired⟩ := Rotation.candidate_mem taken
      have fewer := swapped_expired_lt (now := now) h q timed mem expired
      rw [swapLoop_swaps taken queue outranks, swapLoop_swaps taken queue outranks]
      exact ih timed (by omega)

theorem Rotation.swapCheck_stuck (stuck : r.Stuck now) : r.swapCheck now = r := swapLoop_stuck stuck _

theorem Rotation.swapCheck_ends (timed : 1 ≤ r.turnLen) : (r.swapCheck now).Stuck now :=
  swapLoop_ends _ timed (List.length_filter_le _ _)

theorem Rotation.stuck_of_fresh (fresh : ∀ g ∈ r.grants, r.expired g = false) : r.Stuck now := by
  intro c h q taken
  rw [Rotation.candidate_eq_none fresh] at taken
  cases taken

theorem Rotation.stuck_of_empty (empty : r.queue = []) : r.Stuck now := by
  intro c h q _ queue
  rw [empty] at queue
  cases queue

/-! ### No zone is lost or doubled -/

/-- The zones that are granted or wait. -/
def Rotation.members (r : Rotation) : List (Fin 8) := r.grants.map (·.zone) ++ r.queue.map (·.zone)

theorem enqueue_perm (w : Wait) (q : List Wait) : (enqueue now w q).Perm (w :: q) := by
  induction q with
  | nil => exact .refl _
  | cons x q ih =>
    unfold enqueue
    split
    · exact .refl _
    · exact (ih.cons x).trans (.swap w x q)

/-- One zone's grant taken out of a grant set in which no zone is doubled. -/
theorem filter_zone_split {before after : List Grant} {c : Grant} (nodup : ((before ++ c :: after).map (·.zone)).Nodup) :
    ((before ++ c :: after).filter fun g => decide (g.zone ≠ c.zone)) = before ++ after := by
  rw [List.map_append, List.map_cons] at nodup
  obtain ⟨-, tail, apart⟩ := List.nodup_append.1 nodup
  obtain ⟨later, -⟩ := List.nodup_cons.1 tail
  have all : ∀ {l : List Grant}, (∀ g ∈ l, g.zone ≠ c.zone) → (l.filter fun g => decide (g.zone ≠ c.zone)) = l :=
    fun other => List.filter_eq_self.2 fun g hg => decide_eq_true (other g hg)
  have first : ∀ g ∈ before, g.zone ≠ c.zone := fun g hg same =>
    apart _ (List.mem_map_of_mem hg) _ List.mem_cons_self same
  have last : ∀ g ∈ after, g.zone ≠ c.zone := fun g hg same => later (same ▸ List.mem_map_of_mem hg)
  rw [List.filter_append, all first, List.filter_cons_of_neg (by simp), all last]

theorem members_nodup_grants (nodup : r.members.Nodup) : (r.grants.map (·.zone)).Nodup := (List.nodup_append.1 nodup).1

theorem swapped_members {c : Grant} {h : Wait} {q : List Wait} (nodup : r.members.Nodup) (mem : c ∈ r.grants)
    (queue : r.queue = h :: q) :
    (r.swapped now c h q).grants.length = r.grants.length ∧ (r.swapped now c h q).members.Perm r.members := by
  obtain ⟨before, after, split⟩ := List.append_of_mem mem
  have out : (r.grants.filter fun g => decide (g.zone ≠ c.zone)) = before ++ after := by
    rw [split]
    exact filter_zone_split (split ▸ members_nodup_grants nodup)
  have waiting : ((enqueue now ⟨c.zone, c.rank, now, r.joinCount + 1⟩ q).map (·.zone)).Perm (c.zone :: q.map (·.zone)) :=
    (enqueue_perm _ q).map _
  constructor
  · rw [Rotation.swapped, out, split]
    simp only [List.length_append, List.length_cons, List.length_nil]
    omega
  · rw [Rotation.members, Rotation.members, Rotation.swapped, out, split, queue, List.perm_iff_count]
    intro z
    have joined := waiting.count_eq z
    simp only [List.map_append, List.map_cons, List.map_nil, List.count_append, List.count_cons, List.count_nil] at joined ⊢
    omega

theorem swapLoop_members (n : Nat) (nodup : r.members.Nodup) :
    (swapLoop now n r).grants.length = r.grants.length ∧ (swapLoop now n r).members.Perm r.members := by
  induction n generalizing r with
  | zero => exact ⟨rfl, .refl _⟩
  | succ n ih =>
    rcases r.stuck_or_swaps now with stuck | ⟨c, h, q, taken, queue, outranks⟩
    · rw [swapLoop_stuck stuck]
      exact ⟨rfl, .refl _⟩
    · obtain ⟨same, perm⟩ := swapped_members (now := now) nodup (Rotation.candidate_mem taken).1 queue
      obtain ⟨length, members⟩ := ih (perm.nodup_iff.2 nodup)
      rw [swapLoop_swaps taken queue outranks]
      exact ⟨length.trans same, members.trans perm⟩

theorem swapLoop_grants_le (n : Nat) :
    (swapLoop now n r).grants.length ≤ r.grants.length ∧ (swapLoop now n r).limit = r.limit := by
  induction n generalizing r with
  | zero => exact ⟨Nat.le_refl _, rfl⟩
  | succ n ih =>
    rcases r.stuck_or_swaps now with stuck | ⟨c, h, q, taken, queue, outranks⟩
    · rw [swapLoop_stuck stuck]
      exact ⟨Nat.le_refl _, rfl⟩
    · obtain ⟨fewer, limit⟩ := ih (r := r.swapped now c h q)
      have out := filter_zone_length_lt (Rotation.candidate_mem taken).1
      have same : (r.swapped now c h q).grants.length = (r.grants.filter fun g => decide (g.zone ≠ c.zone)).length + 1 :=
        List.length_append
      rw [swapLoop_swaps taken queue outranks]
      exact ⟨by omega, limit⟩

/-- The swap check after one swap is the swap check. -/
theorem Rotation.swapCheck_swaps {c : Grant} {h : Wait} {q : List Wait} (timed : 1 ≤ r.turnLen) (nodup : r.members.Nodup)
    (taken : r.candidate now = some c) (queue : r.queue = h :: q) (outranks : c.rank ≤ h.rank) :
    r.swapCheck now = (r.swapped now c h q).swapCheck now := by
  obtain ⟨mem, expired⟩ := Rotation.candidate_mem taken
  have same := (swapped_members (now := now) nodup mem queue).1
  have fewer := swapped_expired_lt (now := now) h q timed mem expired
  have fuel := List.length_filter_le r.expired r.grants
  obtain ⟨n, hn⟩ : ∃ n, r.grants.length = n + 1 := ⟨r.grants.length - 1, by omega⟩
  rw [Rotation.swapCheck, Rotation.swapCheck, same, hn, swapLoop_swaps taken queue outranks]
  exact (swapLoop_more n (r := r.swapped now c h q) timed (by omega)).symm

end swap

/-- Settles O26. -/
theorem swapCheckEndsTheTurns : Obligations.SwapCheckEndsTheTurns := by
  intro now r timed t expired zones
  have fresh : ∀ g, ¬expired g → r.expired g = false := fun g young => by
    rw [Bool.eq_false_iff, ne_eq, expired_of_turn]
    exact young
  refine ⟨⟨(swapLoop_grants_le _).1, (swapLoop_grants_le _).2, fun c h rest mem out lowest queue => ?_⟩,
    fun nodup => swapLoop_members _ nodup, fun c h q nodup mem out first queue outranks => ?_, fun none_ => ?_⟩
  · have stuck : t.Stuck now := Rotation.swapCheck_ends timed
    have out : t.expired c = true := expired_of_turn.2 out
    have some_ : ∃ c', t.candidate now = some c' := by
      unfold Rotation.candidate
      split
      · rename_i empty
        exact absurd (List.mem_filter.2 ⟨mem, out⟩) (by rw [empty]; exact List.not_mem_nil)
      · exact ⟨_, rfl⟩
    obtain ⟨c', taken⟩ := some_
    obtain ⟨mem', out'⟩ := Rotation.candidate_mem taken
    have above := stuck c' h rest taken queue
    have least := Rotation.candidate_rank_le taken mem out
    omega
  · have taken : r.candidate now = some c := Rotation.candidate_eq mem (expired_of_turn.2 out) fun g granted late other =>
      first g granted (expired_of_turn.1 late) other
    exact Rotation.swapCheck_swaps timed nodup taken queue outranks
  · refine Rotation.swapCheck_stuck ?_
    rcases none_ with young | empty | ⟨h, q, queue, below⟩
    · exact Rotation.stuck_of_fresh fun g hg => fresh g (young g hg)
    · exact Rotation.stuck_of_empty empty
    · intro c h' q' taken queue'
      obtain ⟨mem, out⟩ := Rotation.candidate_mem taken
      obtain ⟨rfl, -⟩ := List.cons.inj (queue.symm.trans queue')
      exact below c mem (expired_of_turn.1 out)

end Sys2Proof.Machine
end

section
/-! Grants, limits and the events of the Rotation Unit (O27, O28). -/

namespace Sys2Proof.Machine

/-! ### The waiting queue (R59) -/

theorem waitBefore_iff {now : Clock} {w x : Wait} : waitBefore now w x = true ↔ x.rank < w.rank ∨ (x.rank = w.rank ∧
    (age now x.time < age now w.time ∨ (x.time = w.time ∧ w.order < x.order))) := by
  simp only [waitBefore, Bool.or_eq_true, Bool.and_eq_true, decide_eq_true_eq, eq_comm (a := w.rank),
    eq_comm (a := w.time)]

theorem enqueue_place (now : Clock) (w : Wait) (q : List Wait) : ∃ before after, q = before ++ after ∧
    enqueue now w q = before ++ w :: after ∧ (∀ x ∈ before, waitBefore now w x = false) ∧
    ∀ x, after.head? = some x → waitBefore now w x = true := by
  induction q with
  | nil => exact ⟨[], [], rfl, rfl, by simp, by simp⟩
  | cons y q ih =>
    by_cases ahead : waitBefore now w y = true
    · exact ⟨[], y :: q, rfl, by rw [enqueue, if_pos ahead]; rfl, by simp, by simpa using ahead⟩
    · obtain ⟨before, after, split, joined, behind, head⟩ := ih
      refine ⟨y :: before, after, by rw [split]; rfl, by rw [enqueue, if_neg ahead, joined]; rfl, fun x hx => ?_, head⟩
      rcases List.mem_cons.1 hx with rfl | hx
      · exact Bool.eq_false_iff.2 ahead
      · exact behind x hx

theorem enqueue_ne_nil (now : Clock) (w : Wait) (q : List Wait) : enqueue now w q ≠ [] := by
  intro empty
  have perm := enqueue_perm (now := now) w q
  rw [empty] at perm
  exact absurd perm.length_eq (by simp)

/-! ### The fill (R62) -/

section fill

variable {now : Clock} {r : Rotation}

/-- The Rotation Unit after the head `h` of the queue, behind which `q` waits, has been granted. -/
def Rotation.granted (now : Clock) (h : Wait) (q : List Wait) (r : Rotation) : Rotation :=
  { r with
    grants := r.grants ++ [⟨h.zone, h.rank, now, r.grantCount + 1, 0⟩], queue := q, grantCount := r.grantCount + 1
    overrun := none, outputs := r.outputs.map fun o => { o with held := false } }

/-- The fill works over the queue that it is given. -/
theorem fillFrom_queue (ws q : List Wait) (r : Rotation) : fillFrom now ws { r with queue := q } = fillFrom now ws r := by
  induction ws generalizing r with
  | nil => rfl
  | cons w ws ih =>
    unfold fillFrom
    split
    · exact ih (r.grant now w)
    · rfl

theorem Rotation.fill_empty (empty : r.queue = []) : r.fill now = r := by
  rw [Rotation.fill, empty, fillFrom, ← empty]

theorem Rotation.fill_full (full : r.limit ≤ r.grants.length) : r.fill now = r := by
  rw [Rotation.fill]
  cases queue : r.queue with
  | nil => rw [fillFrom, ← queue]
  | cons w ws => rw [fillFrom, if_neg (Nat.not_lt.2 full), ← queue]

theorem Rotation.fill_grants {h : Wait} {q : List Wait} (free : r.grants.length < r.limit) (queue : r.queue = h :: q) :
    r.fill now = (r.granted now h q).fill now := by
  rw [Rotation.fill, queue, fillFrom, if_pos free, Rotation.fill]
  exact (fillFrom_queue q q (r.grant now h)).symm

theorem fillFrom_ends (ws : List Wait) (r : Rotation) :
    (fillFrom now ws r).queue = [] ∨ (fillFrom now ws r).limit ≤ (fillFrom now ws r).grants.length := by
  induction ws generalizing r with
  | nil => exact .inl rfl
  | cons w ws ih =>
    unfold fillFrom
    split
    · exact ih _
    · exact .inr (Nat.not_lt.1 ‹_›)

theorem fillFrom_limit (ws : List Wait) (r : Rotation) : (fillFrom now ws r).limit = r.limit := by
  induction ws generalizing r with
  | nil => rfl
  | cons w ws ih =>
    unfold fillFrom
    split
    · exact ih _
    · rfl

theorem fillFrom_members (ws : List Wait) (r : Rotation) :
    (fillFrom now ws r).members = r.grants.map (·.zone) ++ ws.map (·.zone) := by
  induction ws generalizing r with
  | nil => rfl
  | cons w ws ih =>
    unfold fillFrom
    split
    · rw [ih]
      simp [Rotation.grant, Rotation.clearOverrun]
    · rfl

theorem Rotation.fill_members (r : Rotation) : (r.fill now).members = r.members := fillFrom_members _ _

/-! ### A lowered limit (R69) -/

/-- R69's order between two grants. -/
def ShedsBefore (now : Clock) (c g : Grant) : Prop :=
  c.rank < g.rank ∨ (c.rank = g.rank ∧ (age now c.time < age now g.time ∨
    (age now c.time = age now g.time ∧ g.order < c.order)))

theorem limitFirst_of_before {c g : Grant} (before : ShedsBefore now c g) :
    limitFirst now c g = c ∧ limitFirst now g c = c := by
  rw [ShedsBefore] at before
  constructor <;> grind [limitFirst]

/-- The Rotation Unit after the zone of `c` has left the grant set for the queue. -/
def Rotation.shed (now : Clock) (c : Grant) (r : Rotation) : Rotation :=
  { r with
    grants := r.grants.filter fun g => decide (g.zone ≠ c.zone)
    queue := enqueue now ⟨c.zone, c.rank, now, r.joinCount + 1⟩ r.queue
    joinCount := r.joinCount + 1 }

theorem shedLoop_within_limit (within : r.grants.length ≤ r.limit) (n : Nat) : shedLoop now n r = r := by
  cases n with
  | zero => rfl
  | succ n =>
    unfold shedLoop
    split
    · rfl
    · exact if_neg (Nat.not_lt.2 within)

theorem shedLoop_excess {g : Grant} {gs : List Grant} (excess : r.limit < r.grants.length) (grants : r.grants = g :: gs)
    (n : Nat) : shedLoop now (n + 1) r = shedLoop now n (r.shed now (gs.foldl (limitFirst now) g)) := by
  rw [shedLoop]
  split
  · rename_i empty
    rw [empty] at grants
    cases grants
  · rename_i g' gs' same
    cases grants.symm.trans same
    exact if_pos excess

/-- A grant set above the limit sheds one of its grants. -/
theorem shedLoop_sheds (excess : r.limit < r.grants.length) (n : Nat) :
    ∃ c ∈ r.grants, shedLoop now (n + 1) r = shedLoop now n (r.shed now c) := by
  obtain ⟨g, gs, grants⟩ := List.exists_cons_of_length_pos (Nat.zero_lt_of_lt excess)
  exact ⟨_, grants ▸ foldl_choice_mem limitFirst_mem gs g, shedLoop_excess excess grants n⟩

theorem shedLoop_first {c : Grant} (excess : r.limit < r.grants.length) (mem : c ∈ r.grants)
    (first : ∀ g ∈ r.grants, g ≠ c → ShedsBefore now c g) (n : Nat) :
    shedLoop now (n + 1) r = shedLoop now n (r.shed now c) := by
  obtain ⟨g, gs, grants⟩ := List.exists_cons_of_length_pos (Nat.zero_lt_of_lt excess)
  have chosen : gs.foldl (limitFirst now) g = c := by
    rw [grants] at mem first
    exact foldl_choice_eq limitFirst_mem gs g mem fun x hx other => limitFirst_of_before (first x hx other)
  rw [shedLoop_excess excess grants, chosen]

theorem mem_members_shed {c : Grant} {z : Fin 8} (mem : c ∈ r.grants) :
    z ∈ (r.shed now c).members ↔ z ∈ r.members := by
  have joined : ∀ {x : Wait} {q : List Wait}, z ∈ (enqueue now x q).map (·.zone) ↔ z = x.zone ∨ z ∈ q.map (·.zone) := by
    intro x q
    rw [((enqueue_perm x q).map _).mem_iff, List.map_cons, List.mem_cons]
  have left : z ∈ (r.grants.filter fun g => decide (g.zone ≠ c.zone)).map (·.zone) ↔
      z ≠ c.zone ∧ z ∈ r.grants.map (·.zone) := by
    simp only [List.mem_map, List.mem_filter, decide_eq_true_eq]
    constructor
    · rintro ⟨g, ⟨hg, other⟩, rfl⟩
      exact ⟨other, g, hg, rfl⟩
    · rintro ⟨other, g, hg, rfl⟩
      exact ⟨g, ⟨hg, other⟩, rfl⟩
  have own : z = c.zone → z ∈ r.grants.map (·.zone) := fun same => same ▸ List.mem_map_of_mem mem
  rw [Rotation.members, Rotation.members, List.mem_append, List.mem_append, Rotation.shed, left, joined]
  dsimp only
  by_cases same : z = c.zone
  · exact iff_of_true (.inr (.inl same)) (.inl (own same))
  · simp only [same, ne_eq, not_false_eq_true, true_and, false_or]

theorem shedLoop_members (n : Nat) {z : Fin 8} : z ∈ (shedLoop now n r).members ↔ z ∈ r.members := by
  induction n generalizing r with
  | zero => rfl
  | succ n ih =>
    by_cases excess : r.limit < r.grants.length
    · obtain ⟨c, mem, sheds⟩ := shedLoop_sheds (now := now) excess n
      rw [sheds, ih, mem_members_shed mem]
    · rw [shedLoop_within_limit (Nat.not_lt.1 excess)]

theorem shedLoop_limit (n : Nat) : (shedLoop now n r).limit = r.limit := by
  induction n generalizing r with
  | zero => rfl
  | succ n ih =>
    by_cases excess : r.limit < r.grants.length
    · obtain ⟨c, mem, sheds⟩ := shedLoop_sheds (now := now) excess n
      rw [sheds, ih]
      rfl
    · rw [shedLoop_within_limit (Nat.not_lt.1 excess)]

theorem Rotation.applyLimit_of_within (within : r.grants.length ≤ r.limit) : r.applyLimit now = r.fill now := by
  rw [Rotation.applyLimit, shedLoop_within_limit within]

theorem Rotation.applyLimit_limit (r : Rotation) : (r.applyLimit now).limit = r.limit :=
  (fillFrom_limit _ _).trans (shedLoop_limit _)

/-! ### The events (R61, R63, R64, R69, R74) -/

theorem Rotation.startOfCall_granted {z : Fin 8} {rank : Nat} {h : Wait} {q : List Wait}
    (joined : enqueue now ⟨z, rank, now, r.joinCount + 1⟩ r.queue = h :: q) (free : r.grants.length < r.limit) :
    r.startOfCall now z rank =
      ((({ r with joinCount := r.joinCount + 1 }.granted now h q).fill now).swapCheck now) := by
  have queue : (r.join now z rank).queue = h :: q := joined
  rw [Rotation.startOfCall, Rotation.fill_grants (r := r.join now z rank) free queue]
  rfl

theorem Rotation.startOfCall_waits {z : Fin 8} {rank : Nat} (full : r.limit ≤ r.grants.length) :
    r.startOfCall now z rank = ({ r with
      joinCount := r.joinCount + 1, queue := enqueue now ⟨z, rank, now, r.joinCount + 1⟩ r.queue } : Rotation).swapCheck now := by
  rw [Rotation.startOfCall, Rotation.fill_full (r := r.join now z rank) full]
  rfl

theorem Rotation.startOfCall_alone {z : Fin 8} {rank : Nat} (free : r.grants.length < r.limit) (empty : r.queue = []) :
    r.startOfCall now z rank = { r with
      joinCount := r.joinCount + 1, grantCount := r.grantCount + 1, overrun := none
      outputs := r.outputs.map fun o => { o with held := false }
      grants := r.grants ++ [⟨z, rank, now, r.grantCount + 1, 0⟩] } := by
  have joined : enqueue now ⟨z, rank, now, r.joinCount + 1⟩ r.queue = [⟨z, rank, now, r.joinCount + 1⟩] := by
    rw [empty]
    rfl
  rw [Rotation.startOfCall_granted joined free, Rotation.fill_empty (by rfl),
    Rotation.swapCheck_stuck (Rotation.stuck_of_empty (by rfl))]
  simp only [Rotation.granted, empty]

theorem Rotation.judgeOverrun_starts {f : Clock} (fired : r.lastFiring = some f) (timed : 0 < r.overrunTime)
    (recent : age now f < r.overrunTime) : r.judgeOverrun now = { r with
      overrun := some r.overrunTime
      outputs := if r.bypass then r.outputs
        else r.outputs.map fun o => if o.state = .opened then { o with held := true } else o } := by
  have holds : (fun o : Output => { o with held := o.held || decide (o.state = .opened) }) =
      fun o => if o.state = .opened then { o with held := true } else o := by
    funext o
    split <;> simp_all
  rw [Rotation.judgeOverrun, fired]
  exact (if_pos ⟨timed, recent⟩).trans (by rw [holds])

theorem Rotation.judgeOverrun_none
    (late : r.lastFiring = none ∨ r.overrunTime = 0 ∨ ∃ f, r.lastFiring = some f ∧ r.overrunTime ≤ age now f) :
    r.judgeOverrun now = r := by
  unfold Rotation.judgeOverrun
  split
  · rfl
  · rename_i f fired
    refine if_neg fun ⟨timed, recent⟩ => ?_
    rcases late with never | off | ⟨f', fired', past⟩
    · rw [never] at fired
      cases fired
    · omega
    · cases fired.symm.trans fired'
      omega

/-- An end of call that leaves a zone granted, or that finds none. -/
theorem Rotation.endOfCall_keeps {z : Fin 8} (kept : ((r.remove z).fill now).grants ≠ [] ∨ r.grants = []) :
    r.endOfCall now z = ((r.remove z).fill now).swapCheck now := by
  have same : (((r.remove z).fill now).grants.isEmpty && !r.grants.isEmpty) = false := by
    rcases kept with some_ | none_
    · simp [some_]
    · simp [none_]
  rw [Rotation.endOfCall, same]
  rfl

/-- An end of call that empties the grant set. -/
theorem Rotation.endOfCall_empties {z : Fin 8} (emptied : ((r.remove z).fill now).grants = []) (before : r.grants ≠ []) :
    r.endOfCall now z = (((r.remove z).fill now).judgeOverrun now).swapCheck now := by
  have both : (((r.remove z).fill now).grants.isEmpty && !r.grants.isEmpty) = true := by simp [emptied, before]
  rw [Rotation.endOfCall, both]
  rfl

theorem reRank_granted {z : Fin 8} {rank : Nat} {q : List Wait} (absent : ∀ w ∈ q, w.zone ≠ z) :
    reRank now z rank q = q := by
  have missing : q.find? (fun w => decide (w.zone = z)) = none :=
    List.find?_eq_none.2 fun w hw => by simpa using absent w hw
  rw [reRank, missing]

theorem reRank_waiting {before after : List Wait} {w : Wait} {rank : Nat} (earlier : ∀ x ∈ before, x.zone ≠ w.zone)
    (later : ∀ x ∈ after, x.zone ≠ w.zone) :
    reRank now w.zone rank (before ++ w :: after) = enqueue now { w with rank := rank } (before ++ after) := by
  have first : FirstOf (fun x : Wait => decide (x.zone = w.zone)) (before ++ w :: after) before w after :=
    ⟨rfl, fun x hx => decide_eq_false (earlier x hx), decide_eq_true rfl⟩
  have all : ∀ {l : List Wait}, (∀ x ∈ l, x.zone ≠ w.zone) → (l.filter fun x => decide (x.zone ≠ w.zone)) = l :=
    fun other => List.filter_eq_self.2 fun x hx => decide_eq_true (other x hx)
  have out : ((before ++ w :: after).filter fun x => decide (x.zone ≠ w.zone)) = before ++ after := by
    rw [List.filter_append, all earlier, List.filter_cons_of_neg (by simp), all later]
  rw [reRank, first.find?]
  dsimp only
  rw [out]

end fill

/-- In a list of distinct values the parts around one of them do not hold it. -/
theorem not_mem_around {α β : Type} {f : α → β} {before after : List α} {x : α}
    (nodup : ((before ++ x :: after).map f).Nodup) : (∀ y ∈ before, f y ≠ f x) ∧ ∀ y ∈ after, f y ≠ f x := by
  rw [List.map_append, List.map_cons] at nodup
  obtain ⟨-, tail, apart⟩ := List.nodup_append.1 nodup
  obtain ⟨later, -⟩ := List.nodup_cons.1 tail
  exact ⟨fun y hy same => apart _ (List.mem_map_of_mem hy) _ List.mem_cons_self same,
    fun y hy same => later (same ▸ List.mem_map_of_mem hy)⟩

/-- Settles O27. -/
theorem grantsAreFilled : Obligations.GrantsAreFilled := by
  refine ⟨?_, ?_, ?_, ?_, ?_, ?_⟩
  · intro now z rank r fresh timed t
    refine ⟨Rotation.startOfCall_alone, fun full => (Rotation.startOfCall_waits full).trans ?_⟩
    refine Rotation.swapCheck_stuck (Rotation.stuck_of_fresh fun g hg => ?_)
    rw [Bool.eq_false_iff, ne_eq, expired_of_turn]
    exact Nat.not_le.2 (fresh g hg)
  · intro now z rank r t joined
    refine ⟨Rotation.startOfCall_alone, fun h q one head => ?_, Rotation.startOfCall_waits⟩
    have full : r.limit ≤ ({ r with joinCount := r.joinCount + 1 }.granted now h q).grants.length := by
      simp only [Rotation.granted, List.length_append, List.length_singleton]
      omega
    exact (Rotation.startOfCall_granted head (by omega)).trans (by rw [Rotation.fill_full full]; rfl)
  · intro now r positive nodup t
    have within : t.grants.length ≤ r.limit := by
      have kept := Rotation.applyLimit_within (now := now) r
      rwa [Rotation.Within, Rotation.applyLimit_limit] at kept
    have ends : t.queue = [] ∨ r.limit ≤ t.grants.length := by
      have ends := fillFrom_ends (now := now) (shedLoop now r.grants.length r).queue (shedLoop now r.grants.length r)
      rwa [fillFrom_limit, shedLoop_limit] at ends
    refine ⟨within, ends.imp_right fun full => Nat.le_antisymm within full, fun z => ?_, fun c excess mem first => ?_,
      fun settled => ?_, fun h q free queue => ?_⟩
    · rw [← List.mem_append, ← List.mem_append]
      change z ∈ (Rotation.fill now (shedLoop now r.grants.length r)).members ↔ z ∈ r.members
      rw [Rotation.fill_members, shedLoop_members]
    · obtain ⟨before, after, split⟩ := List.append_of_mem mem
      have out : (r.shed now c).grants = before ++ after := by
        rw [Rotation.shed, split]
        exact filter_zone_split (split ▸ nodup)
      have length : r.grants.length = (r.shed now c).grants.length + 1 := by
        rw [out, split]
        simp only [List.length_append, List.length_cons]
        omega
      change Rotation.fill now (shedLoop now r.grants.length r) = (r.shed now c).applyLimit now
      rw [length, shedLoop_first excess mem first]
      rfl
    · rcases settled with full | ⟨free, empty⟩
      · exact (Rotation.applyLimit_of_within (Nat.le_of_eq full)).trans (Rotation.fill_full (Nat.le_of_eq full.symm))
      · exact (Rotation.applyLimit_of_within (Nat.le_of_lt free)).trans (Rotation.fill_empty empty)
    · have room : (r.granted now h q).grants.length ≤ r.limit := by
        simp only [Rotation.granted, List.length_append, List.length_singleton]
        omega
      exact ((Rotation.applyLimit_of_within (Nat.le_of_lt free)).trans (Rotation.fill_grants free queue)).trans
        (Rotation.applyLimit_of_within (r := r.granted now h q) room).symm
  · intro now w q ahead
    obtain ⟨before, after, split, joined, behind, head⟩ := enqueue_place now w q
    refine ⟨before, after, split, joined, fun x hx first => ?_, fun x hx => waitBefore_iff.1 (head x hx)⟩
    exact absurd (waitBefore_iff.2 first) (by simp [behind x hx])
  · intro now z r nodup t grants queue
    have filled : queue = [] → (r.remove z).fill now = { r with grants := grants, queue := [] } := by
      intro empty
      rw [Rotation.fill_empty (r := r.remove z) empty, ← empty]
      rfl
    refine ⟨fun kept empty => ?_, fun positive full => ?_, fun h q one head => ?_, fun before emptied empty => ⟨?_, ?_⟩⟩
    · have same := filled empty
      rw [← same]
      exact Rotation.endOfCall_keeps (by rw [same]; exact kept)
    · have same : (r.remove z).fill now = { r with grants := grants, queue := queue } := Rotation.fill_full full
      rw [← same]
      refine Rotation.endOfCall_keeps (.inl ?_)
      rw [same]
      exact List.ne_nil_of_length_pos (Nat.lt_of_lt_of_le positive full)
    · have room : (r.remove z).grants.length < (r.remove z).limit := by
        change grants.length < r.limit
        omega
      have full : r.limit ≤ ((r.remove z).granted now h q).grants.length := by
        simp only [Rotation.granted, List.length_append, List.length_singleton]
        change r.limit ≤ grants.length + 1
        omega
      have same : (r.remove z).fill now = (r.remove z).granted now h q :=
        (Rotation.fill_grants room head).trans (Rotation.fill_full full)
      refine (Rotation.endOfCall_keeps (.inl ?_)).trans (by rw [same]; rfl)
      rw [same, Rotation.granted]
      exact List.concat_ne_nil _ _
    · intro f fired timed recent
      have same := filled empty
      refine (Rotation.endOfCall_empties (by rw [same]; exact emptied) before).trans ?_
      rw [same, Rotation.judgeOverrun_starts (r := { r with grants := grants, queue := [] }) fired timed recent,
        Rotation.swapCheck_stuck (Rotation.stuck_of_empty (by rfl)), emptied]
    · intro late
      have same := filled empty
      refine (Rotation.endOfCall_empties (by rw [same]; exact emptied) before).trans ?_
      rw [same, Rotation.judgeOverrun_none (r := { r with grants := grants, queue := [] }) late,
        Rotation.swapCheck_stuck (Rotation.stuck_of_empty (by rfl)), emptied]
  · intro now z rank r nodup t
    obtain ⟨granted, waiting, apart⟩ := List.nodup_append.1 nodup
    refine ⟨fun before g after split here => ?_, fun before w after split here => ?_⟩
    · subst here
      obtain ⟨earlier, later⟩ := not_mem_around (split ▸ granted)
      have queue : reRank now g.zone rank r.queue = r.queue := reRank_granted fun w hw same =>
        apart g.zone (by rw [split]; simp) w.zone (List.mem_map_of_mem hw) same.symm
      have same : ∀ {l : List Grant}, (∀ x ∈ l, x.zone ≠ g.zone) →
          l.map (fun x : Grant => if x.zone = g.zone then { x with rank := rank } else x) = l :=
        fun other => (List.map_congr_left fun x hx => if_neg (other x hx)).trans (List.map_id _)
      have grants : r.grants.map (fun x : Grant => if x.zone = g.zone then { x with rank := rank } else x) =
          before ++ { g with rank := rank } :: after := by
        rw [split, List.map_append, List.map_cons, same earlier, same later, if_pos rfl]
      change Rotation.rankChange now g.zone rank r = _
      rw [Rotation.rankChange, queue, grants]
    · subst here
      obtain ⟨earlier, later⟩ := not_mem_around (split ▸ waiting)
      have grants : r.grants.map (fun x : Grant => if x.zone = w.zone then { x with rank := rank } else x) = r.grants :=
        (List.map_congr_left fun x hx => if_neg fun same =>
          apart x.zone (List.mem_map_of_mem hx) w.zone (by rw [split]; simp) same).trans (List.map_id _)
      change Rotation.rankChange now w.zone rank r = _
      rw [Rotation.rankChange, grants, split, reRank_waiting earlier later]

end Sys2Proof.Machine
end

section
/-! The timed events of the Rotation Unit, and the writes of its settings (O28). -/

namespace Sys2Proof.Machine

/-! ### The numeric settings outside the zone records -/

theorem Num.clamp_eq (f : Num) (v : Nat) : f.clamp v = nearest f.range.1 f.range.2 v :=
  (nearest_eq _ _ v (by cases f <;> decide)).symm

/-- A WRITE of one numeric setting outside the zone records: it is stored at its nearest limit. -/
theorem houseRequest_num {tag : Byte} {f : Num} {start size n : Nat} {data : List Byte} {s : State}
    (starts : FieldStarts (.num f) start size) (takes : HouseTakes (writeFrame tag start data) s)
    (idle : s.store.save = none) (whole : data.length = size) (value : ofLE data = n) :
    houseRequest (writeFrame tag start data) s =
      .next (answered tag (numericAnswer size n (nearest f.range.1 f.range.2 n))
        (f.write (nearest f.range.1 f.range.2 n) (houseTaken s))) := by
  rw [houseRequest_field starts takes idle whole, applyField, value, f.clamp_eq, fieldAnswer_numeric]

theorem numField_starts :
    FieldStarts (.num .limit) 0x180 1 ∧ FieldStarts (.num .turnLen) 0x181 1 :=
  ⟨⟨by decide, by decide, by decide, by decide⟩, ⟨by decide, by decide, by decide, by decide⟩⟩

/-! ### The timed events (R66, R70, R75) -/

/-- A travel timer that has run out ends the travel of its output. -/
theorem exec_valveTravelEnd {z : Fin 8} {s : State} (on : s.powered = true) {o : Output} (stands : s.rot.outputs.get z = o)
    (ended : o.travelOver = true) : exec (.valveTravelEnd z) s =
      .next (rotationEvent (fun r => { r with outputs := r.outputs.set z o.travelEnd }) s) := by
  subst stands
  have works : exec (.valveTravelEnd z) s = .next (valveTravelEnd z s) := whenOn_powered on
  rw [works, valveTravelEnd, if_pos ended]
  exact congrArg _ (congrArg (givePermit _) rfl)

theorem routeOf_named (i : Fin 8) : routeOf i.val = some (some i) := by
  rw [routeOf, if_neg (by omega), dif_pos i.isLt]

theorem routeOf_unknown {n : Nat} (high : 8 ≤ n) (present : n ≠ 0xFF) : routeOf n = none := by
  rw [routeOf, if_neg present, dif_neg (by omega)]

/-- Settles O28. -/
theorem rotationCommandsAreTaken : Obligations.RotationCommandsAreTaken := by
  refine ⟨?_, ?_⟩
  · intro z s on
    refine ⟨fun expired => ?_, fun o stands opening still => ?_, fun o stands closing still => ?_, fun done => ?_⟩
    · obtain ⟨g, granted, own, out⟩ := expired
      have works : exec (.turnExpires z) s = .next (turnExpires z s) := whenOn_powered on
      have found : s.rot.grants.any (fun g => decide (g.zone = z) && s.rot.expired g) = true :=
        List.any_eq_true.2 ⟨g, granted, by simp [own, Rotation.expired, out]⟩
      rw [works, turnExpires, if_pos found]
    · rw [exec_valveTravelEnd on stands (by simp [Output.travelOver, Output.moving, opening, still]), Output.travelEnd,
        opening, ← still]
    · rw [exec_valveTravelEnd on stands (by simp [Output.travelOver, Output.moving, closing, still]), Output.travelEnd,
        closing, ← still]
    · have works : exec .overrunEnds s = .next (overrunEnds s) := whenOn_powered on
      rw [works, overrunEnds, if_pos done]
      rfl
  · intro tag b z s idle t n
    refine ⟨fun takes => houseRequest_num numField_starts.1 takes idle rfl (ofLE_byte b),
      fun takes => houseRequest_num numField_starts.2 takes idle rfl (ofLE_byte b), ?_⟩
    intro takes routed done
    have works : exec (.routeWrite tag z b) s = .next (answered tag (fieldAnswer 1 (applyField (.route z) n t).1)
        (applyField (.route z) n t).2) := by
      obtain ⟨-, -, -, route, -⟩ := zoneFields_start z
      refine (congrArg (fun a => houseRequest (writeFrame tag a [b]) s) (zoneBase_add z 3)).trans ?_
      rw [houseRequest_field route takes idle rfl, ofLE_byte]
    have stores : ∀ a, routeOf n = some a → exec (.routeWrite tag z b) s = .next (answered tag [0] (done a)) := by
      intro a named
      rw [works, applyField, named]
      rfl
    refine ⟨fun i named => stores (some i) (by rw [named, routeOf_named]), fun absent => stores none ?_,
      fun high present => ?_⟩
    · rw [absent]
      rfl
    · rw [works, applyField, routeOf_unknown high present]
      rfl

end Sys2Proof.Machine
end

section
/-! The judgement of the demand conditions, and the limits of the burner states (O29, O30). -/

namespace Sys2Proof.Machine

/-! ### The demand conditions (R82) -/

theorem oilPermit_iff {s : State} : oilPermit s = true ↔ ¬(s.gauge.band = .dry ∧ s.burner.dryStop = true) := by
  rw [oilPermit, Bool.not_eq_true', Bool.eq_false_iff, ne_eq, Bool.and_eq_true, decide_eq_true_iff]

theorem Burner.settled_iff {b : Burner} : b.settled = true ↔ b.run.acc ≠ none ∧ b.lock.acc ≠ none := by
  simp [Burner.settled, Option.isSome_iff_ne_none]

section judgement

variable {s : State}

theorem judgeDemand_quiet (idle : s.burner.state ≠ .idle) (starting : s.burner.state ≠ .starting)
    (firing : s.burner.state ≠ .firing) : judgeDemand s = s := by
  unfold judgeDemand
  split
  · cases state : s.burner.state <;> simp_all
  · rfl

theorem judgeDemand_idle (settled : s.burner.settled = true) (state : s.burner.state = .idle) :
    judgeDemand s = if demandConditions s then s.onBurner Burner.start else s := by
  simp [judgeDemand, settled, state]

theorem judgeDemand_starting (settled : s.burner.settled = true) (state : s.burner.state = .starting) :
    judgeDemand s = if demandConditions s then s else s.onBurner Burner.toRunout := by
  simp [judgeDemand, settled, state]

theorem judgeDemand_inFiring (settled : s.burner.settled = true) (state : s.burner.state = .firing) :
    judgeDemand s = if demandConditions s then s else (leaveFiring s).onBurner Burner.toRunout := by
  simp [judgeDemand, settled, state]

theorem judgeDemand_settling (settling : s.burner.settled = false) : judgeDemand s = s := by
  simp [judgeDemand, settling]

end judgement

/-- Settles O29. -/
theorem demandConditionsAreJudged : Obligations.DemandConditionsAreJudged := by
  intro s conditions t
  have met : demandConditions s = true ↔ conditions := by
    rw [demandConditions_iff, oilPermit_iff, Burner.settled_iff, and_assoc (a := s.burner.run.acc ≠ none)]
  have unmet : ¬conditions → ¬demandConditions s = true := mt met.1
  refine ⟨fun state met' => ?_, fun met' state => ?_, fun unmet' run lock state => ?_, fun unmet' run lock state => ?_,
    fun starting firing unmet' => ?_⟩
  · exact (judgeDemand_idle (demandConditions_iff.1 (met.2 met')).2.2.2.2.2.1 state).trans (if_pos (met.2 met'))
  · have settled := (demandConditions_iff.1 (met.2 met')).2.2.2.2.2.1
    rcases state with state | state
    · exact (judgeDemand_starting settled state).trans (if_pos (met.2 met'))
    · exact (judgeDemand_inFiring settled state).trans (if_pos (met.2 met'))
  · exact (judgeDemand_starting (Burner.settled_iff.2 ⟨run, lock⟩) state).trans (if_neg (unmet unmet'))
  · exact (judgeDemand_inFiring (Burner.settled_iff.2 ⟨run, lock⟩) state).trans (if_neg (unmet unmet'))
  · by_cases settled : s.burner.settled = true
    · by_cases state : s.burner.state = .idle
      · exact (judgeDemand_idle settled state).trans (if_neg (unmet unmet'))
      · exact judgeDemand_quiet state starting firing
    · exact judgeDemand_settling (Bool.eq_false_iff.2 settled)

/-! ### SENSE_FAULT (R88) -/

theorem enterSenseFault_eq (left : BurnerState) {s : State} (run : s.burner.run.acc = some true) :
    enterSenseFault left s = raise
      { bit := .burnerFault, code := 0x05, subject := left.code
        value1 := if s.burner.lock.acc = some true then 3 else 1 }
      (s.onBurner fun b =>
        { b with demand := false, state := .senseFault, timer := none, senseFault := min 65535 (b.senseFault + 1) }) := by
  have levels : flagByte [s.burner.runOn, s.burner.lockOn] = if s.burner.lock.acc = some true then 3 else 1 := by
    rw [Burner.runOn, run, Burner.lockOn]
    split <;> simp [*, flagByte]
  rw [enterSenseFault, senseFaultNotice, levels]
  rfl

/-- The acceptance of a raw level (R79). -/
theorem Debounced.accept_eq {d : Debounced} {level : Bool} (raw : d.raw = level) :
    d.accept = { d with acc := some level, change := none } := by
  rw [Debounced.accept, raw]

/-- Settles O30. -/
theorem burnerTimersRunOut : Obligations.BurnerTimersRunOut := by
  intro s on idle fault
  have works : ∀ {f : State → State} {c : Instr} {t : State}, exec c s = whenOn f s → f s = t →
      exec c s = .next t :=
    fun is next => is.trans ((whenOn_powered on).trans (congrArg _ next))
  refine ⟨fun state timer => works (f := startLimitExpires) rfl ?_, fun state timer run => works (f := runoutLimitExpires) rfl ?_,
    fun state timer run => works (f := runoutLimitExpires) rfl ?_, fun state timer => works (f := backOffExpires) rfl ?_,
    fun state timer apart => works (f := clearTimerExpires) rfl ?_, fun state timer due raw acc lock => ?_,
    fun gap => works (f := resetGapEnds) rfl ?_⟩
  · exact if_pos ⟨state, timer⟩
  · simp [runoutLimitExpires, timer, state, Burner.runOn, run]
    rfl
  · have fault_eq := enterSenseFault_eq s.burner.state run
    rcases state with state | state <;> rw [state] at fault_eq <;>
      simpa [runoutLimitExpires, timer, state, Burner.runOn, run, fault] using fault_eq
  · exact if_pos ⟨state, timer⟩
  · rw [clearTimerExpires, if_pos ⟨state, timer⟩, if_neg]
    · rfl
    · simpa [Debounced.due] using apart
  · intro cleared
    have left : exec .clearTimerExpires s = .next cleared := by
      refine works (f := clearTimerExpires) rfl ?_
      rw [clearTimerExpires, if_pos ⟨state, timer⟩, if_pos (by simp [Debounced.due, due, raw])]
      rfl
    have accepted : RunDue true cleared :=
      ⟨due, raw, Option.isSome_iff_ne_none.2 acc, Option.isSome_iff_ne_none.2 lock⟩
    refine ⟨left, (exec_runAccepted (show cleared.powered = true from on)).trans (congrArg _ ?_)⟩
    rw [runDue_accepted accepted]
    have entered : actOnAcceptance .run true (cleared.onBurner (·.onInput .run Debounced.accept)) =
        enterSenseFault .idle (cleared.onBurner (·.onInput .run Debounced.accept)) := rfl
    rw [entered, enterSenseFault_eq .idle (congrArg some raw)]
    simp [cleared, State.onBurner, Burner.onInput, Debounced.accept_eq raw]
    rfl
  · exact if_pos gap

end Sys2Proof.Machine
end

section
/-! What the acceptances of RUN and LOCK do (O31, O32). -/

namespace Sys2Proof.Machine

/-! ### The acceptance (R79, R80) -/

section acceptance

variable {i : Input} {s : State}

theorem inputAccepted_settled (due : (s.burner.input i).change = some 2) (settled : s.burner.settled = true) :
    inputAccepted i s = actOnAcceptance i (s.burner.input i).raw (s.onBurner (·.onInput i Debounced.accept)) := by
  rw [inputAccepted, if_pos (show (s.burner.input i).due = true from decide_eq_true due)]
  exact if_pos settled

theorem inputAccepted_settling (due : (s.burner.input i).change = some 2) (settling : s.burner.settled = false)
    {a : State} (accepted : s.onBurner (·.onInput i Debounced.accept) = a) :
    inputAccepted i s = if a.burner.settled then endSettling a else a := by
  rw [inputAccepted, if_pos (show (s.burner.input i).due = true from decide_eq_true due)]
  subst accepted
  exact if_neg (Bool.eq_false_iff.1 settling)

theorem exec_inputAccepted (on : s.powered = true) : exec (.inputAccepted i) s = .next (inputAccepted i s) :=
  whenOn_powered on

end acceptance

/-! ### What an acceptance does in each state (R83 to R88) -/

section states

variable {s : State}

theorem runAcceptedOn_faults (state : s.burner.state = .idle ∨ s.burner.state = .locked ∨ s.burner.state = .noStart) :
    runAcceptedOn s = enterSenseFault s.burner.state s := by
  rcases state with state | state | state <;> simp [runAcceptedOn, state]

theorem runAcceptedOff_stays (state : s.burner.state = .idle ∨ s.burner.state = .starting ∨ s.burner.state = .noStart) :
    runAcceptedOff s = s := by
  rcases state with state | state | state <;> simp [runAcceptedOff, state]

theorem lockAcceptedOn_locks (state : s.burner.state ≠ .senseFault) :
    lockAcceptedOn s = enterLocked false s.burner.state s := by
  cases left : s.burner.state <;> simp_all [lockAcceptedOn]

theorem lockAcceptedOff_stays (locked : s.burner.state ≠ .locked) (fault : s.burner.state ≠ .senseFault) :
    lockAcceptedOff s = s := by
  cases left : s.burner.state <;> simp_all [lockAcceptedOff]

theorem endSettling_idle (run : s.burner.run.acc = some false) (lock : s.burner.lock.acc = some false) :
    endSettling s = enterIdle s := by
  simp [endSettling, Burner.runOn, Burner.lockOn, run, lock]

theorem endSettling_locked (run : s.burner.run.acc = some false) (lock : s.burner.lock.acc = some true) :
    endSettling s = enterLocked true .idle s := by
  simp [endSettling, Burner.runOn, Burner.lockOn, run, lock]

theorem endSettling_fault (run : s.burner.run.acc = some true) {on : Bool} (lock : s.burner.lock.acc = some on) :
    endSettling s = enterSenseFault .idle (s.onBurner fun b => { b with presentMark := on }) := by
  cases on <;> simp [endSettling, Burner.runOn, Burner.lockOn, run, lock, State.onBurner]

end states

/-- Settles O31. -/
theorem runIsAccepted : Obligations.RunIsAccepted := by
  refine ⟨?_, ?_⟩
  · intro level s on due raw run lock a fault
    have accepted : s.onBurner (·.onInput .run Debounced.accept) = a := by
      simp [a, State.onBurner, Burner.onInput, Debounced.accept_eq raw]
    have works : ∀ {t}, actOnAcceptance .run level a = t → exec (.inputAccepted .run) s = .next t := by
      rintro t rfl
      rw [exec_inputAccepted on, inputAccepted_settled (i := .run) due (Burner.settled_iff.2 ⟨run, lock⟩), accepted,
        ← raw]
      rfl
    refine ⟨fun up state => works ?_, fun up state => works ?_, fun up state => works ?_, fun up state => works ?_,
      fun down state off => works ?_, fun down state => works ?_, fun down state => works ?_,
      fun down state off => works ?_, fun down state held => works ?_, fun down state => works ?_⟩
    · subst up
      exact (runAcceptedOn_faults (s := a) state).trans (enterSenseFault_eq _ rfl)
    · subst up
      simp [actOnAcceptance, runAcceptedOn, show a.burner.state = _ from state]
      rfl
    · subst up
      rcases state with state | state <;> simp [actOnAcceptance, runAcceptedOn, show a.burner.state = _ from state]
    · subst up
      simp [actOnAcceptance, runAcceptedOn, show a.burner.state = _ from state]
    · subst down
      simp [actOnAcceptance, runAcceptedOff, show a.burner.state = _ from state, Burner.lockOn,
        show a.burner.lock.acc = _ from off]
      rfl
    · subst down
      simp [actOnAcceptance, runAcceptedOff, show a.burner.state = _ from state]
      rfl
    · subst down
      simp [actOnAcceptance, runAcceptedOff, show a.burner.state = _ from state]
    · subst down
      simp [actOnAcceptance, runAcceptedOff, show a.burner.state = _ from state, Burner.lockOn,
        show a.burner.lock.acc = _ from off, startClearTimer]
    · subst down
      simp [actOnAcceptance, runAcceptedOff, show a.burner.state = _ from state, Burner.lockOn,
        show a.burner.lock.acc = _ from held]
      rfl
    · subst down
      exact runAcceptedOff_stays (s := a) state
  · intro i run lock s on hasRun hasLock settling runOn lockOn a
    have accepted : s.onBurner (·.onInput i Debounced.accept) = a := by
      subst hasRun hasLock
      cases i <;> rfl
    have runAcc : a.burner.run.acc = runOn := by cases i <;> rfl
    have lockAcc : a.burner.lock.acc = lockOn := by cases i <;> rfl
    have works : exec (.inputAccepted i) s = .next (if a.burner.settled then endSettling a else a) := by
      rw [exec_inputAccepted on]
      refine congrArg _ (inputAccepted_settling ?_ ?_ accepted)
      · rcases settling with ⟨rfl, due, -⟩ | ⟨rfl, due, -⟩
        · exact (congrArg Debounced.change hasRun).trans due
        · exact (congrArg Debounced.change hasLock).trans due
      · rcases settling with ⟨-, -, absent⟩ | ⟨-, -, absent⟩ <;> simp [Burner.settled, hasRun, hasLock, absent]
    have ends : ∀ {r l : Bool} {t}, runOn = some r → lockOn = some l → endSettling a = t →
        exec (.inputAccepted i) s = .next t := by
      rintro r l t run lock rfl
      rw [works, if_pos (Burner.settled_iff.2 ⟨by simp [runAcc, run], by simp [lockAcc, lock]⟩)]
    refine ⟨fun absent => ?_, fun run lock => ?_, fun run lock => ?_, fun run l lock => ?_⟩
    · rw [works, if_neg]
      rw [Burner.settled_iff, runAcc, lockAcc]
      exact fun both => absent.elim both.1 both.2
    · exact ends run lock (endSettling_idle (runAcc.trans run) (lockAcc.trans lock))
    · exact ends run lock (endSettling_locked (runAcc.trans run) (lockAcc.trans lock))
    · refine ends run lock ((endSettling_fault (runAcc.trans run) (lockAcc.trans lock)).trans ?_)
      have level : (a.onBurner fun b => { b with presentMark := l }).burner.lock.acc = some l := lockAcc.trans lock
      rw [enterSenseFault_eq (s := a.onBurner fun b => { b with presentMark := l }) .idle (runAcc.trans run), level]
      cases l <;> rfl

/-! ### The handoffs to the Recovery Controller (R87, R91, R97) -/

/-- A judgement leaves nothing for a second one. -/
theorem judgeDemand_again (s : State) : judgeDemand (judgeDemand s) = judgeDemand s := by
  by_cases settled : s.burner.settled = true
  · by_cases conditions : demandConditions s = true
    · cases state : s.burner.state with
      | idle =>
        rw [judgeDemand_idle settled state, if_pos conditions]
        exact (judgeDemand_starting (s := s.onBurner Burner.start) settled rfl).trans
          (if_pos (demandConditions_start conditions))
      | starting => rw [judgeDemand_starting settled state, if_pos conditions, judgeDemand_starting settled state,
          if_pos conditions]
      | firing => rw [judgeDemand_inFiring settled state, if_pos conditions, judgeDemand_inFiring settled state,
          if_pos conditions]
      | _ => simp [judgeDemand, settled, state]
    · cases state : s.burner.state with
      | idle => rw [judgeDemand_idle settled state, if_neg conditions, judgeDemand_idle settled state, if_neg conditions]
      | starting =>
        rw [judgeDemand_starting settled state, if_neg conditions]
        exact judgeDemand_quiet (by simp [Burner.toRunout]) (by simp [Burner.toRunout]) (by simp [Burner.toRunout])
      | firing =>
        rw [judgeDemand_inFiring settled state, if_neg conditions]
        exact judgeDemand_quiet (by simp [Burner.toRunout]) (by simp [Burner.toRunout]) (by simp [Burner.toRunout])
      | _ => simp [judgeDemand, settled, state]
  · have settling := Bool.eq_false_iff.2 settled
    rw [judgeDemand_settling settling, judgeDemand_settling settling]

/-- With RESET released, a change of the recovery state to another state than PULSE changes no relay. -/
theorem recovTo_released {st : RecState} (other : st ≠ .pulse) (timer : Option Nat) {s : State}
    (released : s.burner.reset = false) :
    recovTo st timer s = judgeDemand (s.onRecov fun r => { r with state := st, timer := timer }) := by
  have same : { s.burner with reset := false, gap := if s.burner.reset = true then some s.recov.gapLen else s.burner.gap } =
      s.burner := by
    rw [if_neg (Bool.eq_false_iff.1 released), ← released]
  rw [recovTo_enters other, recoveryEnters, same]
  rfl

theorem joinBounded_eq {α : Type} (n : Nat) (l : List α) (x : α) :
    joinBounded n l x = (if l.length < n then l else l.drop 1) ++ [x] := by
  rw [joinBounded]
  split <;> rfl

theorem addRecord_eq (began : Clock) (c : Cause) (o : RecOutcome) (s : State) :
    addRecord began c o s = s.onRecov fun r => { r with
      log := (if r.log.length < 16 then r.log else r.log.drop 1) ++
        [⟨began, c, o, s.gauge.band, if s.gauge.band = .unknown then none else some s.gauge.litres⟩] } := by
  simp only [addRecord, joinBounded_eq]

theorem powerOnPenalty_eq (s : State) : powerOnPenalty s = s.onRecov fun r => { r with
    budget := if s.clock.toNat < r.window * 3600 ∧ r.budget.length < 5 then r.budget ++ [0] else r.budget
    log := (if r.log.length < 16 then r.log else r.log.drop 1) ++
      [⟨0, .unknown, .unknown, s.gauge.band, if s.gauge.band = .unknown then none else some s.gauge.litres⟩] } := by
  rw [powerOnPenalty, addRecord_eq]
  by_cases young : s.clock.toNat < s.recov.window * 3600
  · by_cases room : s.recov.budget.length < 5 <;> simp [young, room, addBudget, State.onRecov]
  · simp [young, State.onRecov]

theorem Burner.toLocked_eq (b : Burner) : b.toLocked = { b with
    demand := false, state := .locked, presentMark := false
    timer := if b.run.acc = some true then some b.runoutLimit else none } := by
  simp only [Burner.toLocked, Burner.runOn, decide_eq_true_eq]

section handoffs

variable {s : State}

theorem takeLockout_none (state : s.recov.state = .none) (present : Bool) (left : BurnerState) :
    takeLockout present left s =
      if present then
        powerOnPenalty (postInternal .boilerFault (raise (lockoutNotice left s.gauge.band present) (toCooling s)))
      else postInternal .boilerFault (raise (lockoutNotice left s.gauge.band present) (toCooling s)) := by
  simp only [takeLockout, state]

theorem takeLockout_proving (state : s.recov.state = .proving) (present : Bool) (left : BurnerState) :
    takeLockout present left s = raise (relockNotice s.recov.proving) (toCooling (closeRecord .relocked s)) := by
  simp only [takeLockout, state]

theorem takeLockout_stays (none : s.recov.state ≠ .none) (proving : s.recov.state ≠ .proving) (present : Bool)
    (left : BurnerState) : takeLockout present left s = s := by
  cases state : s.recov.state <;> simp_all [takeLockout]

theorem takeLockClear_waiting (waiting : s.recov.state = .cooling ∨ s.recov.state = .due ∨ s.recov.state = .waitOil ∨
    s.recov.state = .held ∨ s.recov.state = .await ∨ s.recov.state = .hard) : takeLockClear s = manualReset s := by
  rcases waiting with state | state | state | state | state | state <;> simp only [takeLockClear, state]

theorem takeLockClear_stays (waiting : ¬(s.recov.state = .cooling ∨ s.recov.state = .due ∨ s.recov.state = .waitOil ∨
    s.recov.state = .held ∨ s.recov.state = .await ∨ s.recov.state = .hard)) (checking : s.recov.state ≠ .checking) :
    takeLockClear s = s := by
  cases state : s.recov.state <;> simp_all [takeLockClear]

/-- With RESET released, the locked burner takes no judgement of the demand conditions. -/
theorem toCooling_locked (state : s.burner.state = .locked) (released : s.burner.reset = false) :
    toCooling s = s.onRecov fun r => { r with state := .cooling, timer := some r.coolOff } := by
  rw [toCooling, recovTo_released (by decide) _ released, judgeDemand_quiet] <;> simp [State.onRecov, state]

theorem judgeDemand_locked (state : s.burner.state = .locked) : judgeDemand s = s :=
  judgeDemand_quiet (by simp [state]) (by simp [state]) (by simp [state])

end handoffs

/-- Settles O32. -/
theorem lockIsAccepted : Obligations.LockIsAccepted := by
  refine ⟨?_, ?_, ?_⟩
  · intro level s on due raw run lock a runs
    have accepted : s.onBurner (·.onInput .lock Debounced.accept) =
        s.onBurner fun b => { b with lock := { b.lock with acc := some level, change := none } } := by
      simp [State.onBurner, Burner.onInput, Debounced.accept_eq raw]
    have works : ∀ {t}, (if level then lockAcceptedOn a else lockAcceptedOff a) = t →
        exec (.inputAccepted .lock) s = .next t := by
      rintro t rfl
      rw [exec_inputAccepted on, inputAccepted_settled (i := .lock) due (Burner.settled_iff.2 ⟨run, lock⟩), accepted,
        show (s.burner.input .lock).raw = level from raw]
      cases level <;> rfl
    have runOn : a.burner.runOn = decide runs := rfl
    refine ⟨fun up other => works ?_, fun up state runs => works ?_, fun up state runs => works ?_,
      fun down state runs => works ?_, fun down state runs => works ?_, fun down state runs => works ?_,
      fun down state runs => works ?_, fun down locked fault => works ?_⟩
    · rw [if_pos up]
      exact lockAcceptedOn_locks (s := a) other
    · rw [if_pos up]
      simp [lockAcceptedOn, show a.burner.state = _ from state, runOn, runs]
    · rw [if_pos up]
      simp [lockAcceptedOn, show a.burner.state = _ from state, runOn, runs]
      simp [a, up, State.onBurner]
    · subst down
      simp [lockAcceptedOff, show a.burner.state = _ from state, runOn, runs]
      rfl
    · subst down
      simp [lockAcceptedOff, show a.burner.state = _ from state, runOn, runs]
      rw [enterSenseFault_eq (s := a) .locked runs]
      rfl
    · subst down
      simp [lockAcceptedOff, show a.burner.state = _ from state, runOn, runs]
    · subst down
      simp [lockAcceptedOff, show a.burner.state = _ from state, runOn, runs, startClearTimer]
    · subst down
      exact lockAcceptedOff_stays (s := a) locked fault
  · intro present left s released freed locked cooling begun t
    have enters : t = judgeDemand (takeLockout present left locked) := by
      have entered : t = judgeDemand (takeLockout present left (freed.onBurner Burner.toLocked)) := rfl
      rw [entered, State.onBurner, Burner.toLocked_eq]
      rfl
    have lockedRelease : locked.burner.reset = false := by
      by_cases firing : left = .firing <;> simp [locked, freed, firing, State.onBurner, State.onOil, released]
    have recov : locked.recov = s.recov := by
      by_cases firing : left = .firing <;> simp [locked, freed, firing]
    have gauge : locked.gauge = s.gauge := by
      by_cases firing : left = .firing <;> simp [locked, freed, firing]
    have clock : locked.clock = s.clock := by
      by_cases firing : left = .firing <;> simp [locked, freed, firing]
    have cools : toCooling locked = cooling := toCooling_locked rfl lockedRelease
    have begins : postInternal .boilerFault (raise (lockoutNotice left locked.gauge.band present) (toCooling locked)) =
        begun := by
      rw [cools, gauge]
      cases present <;> rfl
    refine ⟨fun state fresh => ?_, fun state old => ?_, fun state => ?_, fun none proving => ?_⟩
    · rw [enters, takeLockout_none (recov ▸ state), if_neg (by simp [fresh]), begins]
      exact judgeDemand_locked (by simp [begun, cooling, locked])
    · rw [enters, takeLockout_none (recov ▸ state), if_pos old, begins, powerOnPenalty_eq]
      have same : begun.clock = s.clock ∧ begun.gauge = s.gauge := by
        simp [begun, cooling, gauge, clock]
      rw [judgeDemand_locked (by simp [begun, cooling, locked]), same.1, same.2]
    · rw [enters, takeLockout_proving (recov ▸ state), toCooling_locked (s := closeRecord .relocked locked) rfl (by exact lockedRelease), recov]
      exact judgeDemand_locked (by simp [closeRecord, locked])
    · rw [enters, takeLockout_stays (recov ▸ none) (recov ▸ proving)]
      exact judgeDemand_locked rfl
  · intro s released waiting t
    refine ⟨fun waits => ?_, fun checking => ?_, fun waits checking => ?_⟩
    · have ends : t = judgeDemand (manualReset s) := congrArg judgeDemand (takeLockClear_waiting waits)
      rw [ends, manualReset, addRecord_eq, recovTo_released (by decide) none (by exact released)]
      rfl
    · have begins : t = judgeDemand (toProving s) := by
        simp only [t, handLockClear, takeLockClear, checking]
      rw [begins, toProving, recovTo_released (by decide) none (by exact released)]
      exact judgeDemand_again _
    · exact congrArg judgeDemand (takeLockClear_stays waits checking)

end Sys2Proof.Machine
end

section
/-! The writes of the recovery settings, and the due check (O33, O34). -/

namespace Sys2Proof.Machine

/-! ### The part flags (12.6; log 12) -/

/-- The byte that `flagFrame` writes spells the flags as they stand but for the one it changes. -/
theorem flagByte_changed (a b c d on : Bool) :
    let flags := BitVec.ofNat 8 (flagByte [a, b, c, d])
    let spells (v : Byte) (a b c d : Bool) := v.toNat.testBit 0 = a ∧ v.toNat.testBit 1 = b ∧ v.toNat.testBit 2 = c ∧
      v.toNat.testBit 3 = d
    spells (if on then flags ||| BitVec.ofNat 8 (2 ^ 1) else flags &&& ~~~BitVec.ofNat 8 (2 ^ 1)) a on c d ∧
    spells (if on then flags ||| BitVec.ofNat 8 (2 ^ 2) else flags &&& ~~~BitVec.ofNat 8 (2 ^ 2)) a b on d ∧
    spells (if on then flags ||| BitVec.ofNat 8 (2 ^ 3) else flags &&& ~~~BitVec.ofNat 8 (2 ^ 3)) a b c on := by
  revert a b c d on
  decide

theorem storePartFlags_eq {v : Nat} {a b c d : Bool}
    (spells : v.testBit 0 = a ∧ v.testBit 1 = b ∧ v.testBit 2 = c ∧ v.testBit 3 = d) (s : State) :
    storePartFlags v s = { s with
      cls := { s.cls with forwardUnlisted := a }, rot := { s.rot with bypass := b }
      burner := { s.burner with dryStop := c }, recov := { s.recov with noGauge := d } } := by
  obtain ⟨forward, bypass, stop, gauge⟩ := spells
  rw [storePartFlags, forward, bypass, stop, gauge]
  rfl

/-- A WRITE of the part flags: PUMP afresh, the demand conditions, the due check (R21, R76, R82, R100). -/
theorem houseRequest_flags {tag b : Byte} {s : State} (takes : HouseTakes (writeFrame tag 0x008 [b]) s)
    (idle : s.store.save = none) :
    houseRequest (writeFrame tag 0x008 [b]) s = .next (answered tag [0]
      (dueTrigger (judgeDemand (setPump (storePartFlags b.toNat (houseTaken s)))))) := by
  have starts : FieldStarts .partFlags 0x008 1 := ⟨by decide, by decide, by decide, by decide⟩
  rw [houseRequest_field starts takes idle rfl, ofLE_byte]
  rfl

theorem recoveryFields_start :
    FieldStarts .auto 0x1C4 1 ∧ FieldStarts (.num .window) 0x1C6 1 ∧ FieldStarts (.num .provingTime) 0x1CE 2 :=
  ⟨⟨by decide, by decide, by decide, by decide⟩, ⟨by decide, by decide, by decide, by decide⟩,
    ⟨by decide, by decide, by decide, by decide⟩⟩

/-- Settles O33. -/
theorem burnerAndRecoverySettingIsWritten : Obligations.BurnerAndRecoverySettingIsWritten := by
  refine ⟨?_, ?_⟩
  · intro tag on s idle handed t
    obtain ⟨bypass, stop, gauge⟩ :=
      flagByte_changed s.cls.forwardUnlisted s.rot.bypass s.burner.dryStop s.recov.noGauge on
    refine ⟨fun takes => (houseRequest_flags takes idle).trans ?_, fun takes => (houseRequest_flags takes idle).trans ?_,
      fun takes => (houseRequest_flags takes idle).trans ?_⟩
    · exact congrArg (fun u => Host.Outcome.next (answered tag [0] (handed u))) (storePartFlags_eq bypass t)
    · exact congrArg (fun u => Host.Outcome.next (answered tag [0] (handed u))) (storePartFlags_eq stop t)
    · exact congrArg (fun u => Host.Outcome.next (answered tag [0] (handed u))) (storePartFlags_eq gauge t)
  · intro tag b v s idle t n
    obtain ⟨auto, window, proving⟩ := recoveryFields_start
    refine ⟨fun takes => ?_, fun takes => houseRequest_num window takes idle rfl (ofLE_byte b), ?_⟩
    · refine (houseRequest_field auto takes idle rfl).trans ?_
      rw [ofLE_byte, applyField, boolOf_byte]
      by_cases yesNo : b = 0 ∨ b = 1
      · rw [if_pos yesNo, if_pos yesNo]
        rfl
      · rw [if_neg yesNo, if_neg yesNo]
        rfl
    · intro takes stored
      exact houseRequest_num proving takes idle rfl (ofLE_word v.isLt)

/-! ### What stays outside the heat side and the recovery -/

theorem HeatOnly.withRecovery {s t : State} (kept : HeatOnly s t) : HeatAndRecoveryOnly s t := by
  rw [HeatOnly] at kept
  rw [HeatAndRecoveryOnly, congrArg State.recov kept, congrArg State.postbox kept]
  exact kept

theorem HeatAndRecoveryOnly.trans {s t u : State} (first : HeatAndRecoveryOnly s t) (second : HeatAndRecoveryOnly t u) :
    HeatAndRecoveryOnly s u := by
  rw [HeatAndRecoveryOnly] at first second ⊢
  conv => lhs; rw [second, first]

theorem raise_recoveryOnly (n : Notice) (s : State) : HeatAndRecoveryOnly s (raise n s) :=
  (raise_heatOnly n s).withRecovery

theorem postInternal_recoveryOnly (n : Internal) (s : State) : HeatAndRecoveryOnly s (postInternal n s) := rfl

theorem recovTo_recoveryOnly (st : RecState) (timer : Option Nat) (s : State) :
    HeatAndRecoveryOnly s (recovTo st timer s) :=
  HeatAndRecoveryOnly.trans rfl (judgeDemand_heatOnly _).withRecovery

theorem beginPulse_recoveryOnly (c : Cause) (s : State) : HeatAndRecoveryOnly s (beginPulse c s) :=
  HeatAndRecoveryOnly.trans rfl (recovTo_recoveryOnly _ _ _)

/-! ### The due check (R100) -/

@[simp] theorem recovTo_recov (st : RecState) (timer : Option Nat) (s : State) :
    (recovTo st timer s).recov = { s.recov with state := st, timer := timer } := by
  simp [recovTo]

theorem raised_bit (n : Notice) (s : State) (given : n.bit.word ≠ 0) : (raise n s).mgmt.attn &&& n.bit.word ≠ 0 := by
  rwa [raise_sets_bit]

theorem oilGateFails_iff {s : State} :
    oilGateFails s = true ↔ s.gauge.band = .dry ∨ (s.gauge.band = .unknown ∧ s.recov.noGauge = false) := by
  simp [oilGateFails]

theorem enterWait_other {st : RecState} (pulse : st ≠ .pulse) {s : State} (other : s.recov.state ≠ st) :
    enterWait st s = raise { bit := .recoveryWait, code := 0x11, value1 := st.code } (recoveryEnters st none s) := by
  rw [enterWait, if_neg other, recovTo_enters pulse]
  rfl

/-- An entry into a waiting state, by its state, its bit and its whole next state (R115). -/
theorem enterWait_waits {st : RecState} (pulse : st ≠ .pulse) {s : State} (other : s.recov.state ≠ st) :
    (enterWait st s).recov = { s.recov with state := st, timer := none } ∧
      (enterWait st s).mgmt.attn &&& AttnBit.recoveryWait.word ≠ 0 ∧
      enterWait st s = raise { bit := .recoveryWait, code := 0x11, value1 := st.code } (recoveryEnters st none s) := by
  have entered : enterWait st s = raise (waitNotice st) (recovTo st none s) := if_neg other
  refine ⟨by simp [entered], ?_, enterWait_other pulse other⟩
  rw [entered]
  exact raised_bit (waitNotice st) _ (show AttnBit.recoveryWait.word ≠ 0 by decide)

theorem enterHard_other {s : State} (other : s.recov.state ≠ .hard) :
    (enterHard s).recov = { s.recov with state := .hard, timer := none } ∧
      (enterHard s).mgmt.attn &&& AttnBit.hard.word ≠ 0 ∧
      enterHard s = postInternal .callEngineer (raise { bit := .hard, code := 0x03, value1 := s.recov.budget.length }
        (recoveryEnters .hard none s)) := by
  have entered : enterHard s = postInternal .callEngineer (raise (hardNotice s.recov.budget.length)
      (recovTo .hard none s)) := if_neg other
  refine ⟨by simp [entered], ?_, ?_⟩
  · rw [entered, (postInternal_frame _ _).2.2.2.2.2.2.2.2.2.2.2.2.2.1]
    exact raised_bit (hardNotice _) _ (show AttnBit.hard.word ≠ 0 by decide)
  · rw [entered, recovTo_enters (by decide)]
    rfl

theorem addBudget_room {s : State} (room : s.recov.budget.length < 5) (t : Clock) :
    addBudget t s = s.onRecov fun r => { r with budget := r.budget ++ [t] } := by
  simp only [addBudget, State.onRecov, if_pos room]

/-- A pulse begins: its record and the entry into PREGAP (R104, R114). -/
theorem beginPulse_eq (c : Cause) (s : State) :
    (beginPulse c s).recov = { s.recov with
      state := .pregap, timer := some s.recov.gapLen
      log := (if s.recov.log.length < 16 then s.recov.log else s.recov.log.drop 1) ++
        [⟨s.clock, c, .pending, s.gauge.band, if s.gauge.band = .unknown then none else some s.gauge.litres⟩] } ∧
    beginPulse c s = recoveryEnters .pregap (some s.recov.gapLen) (s.onRecov fun _ => (beginPulse c s).recov) := by
  have whole : (beginPulse c s).recov = { s.recov with
      state := .pregap, timer := some s.recov.gapLen
      log := (if s.recov.log.length < 16 then s.recov.log else s.recov.log.drop 1) ++
        [⟨s.clock, c, .pending, s.gauge.band, if s.gauge.band = .unknown then none else some s.gauge.litres⟩] } := by
    rw [beginPulse, recovTo_recov, addRecord_eq]
    rfl
  refine ⟨whole, ?_⟩
  rw [whole, beginPulse, addRecord_eq, recovTo_enters (by decide)]
  rfl

section rows

variable {s : State}

theorem dueCheck_held (claimed : s.recov.word ≠ 0) : dueCheck s = enterWait .held s := if_pos claimed

theorem dueCheck_noOil (free : s.recov.word = 0) (gate : oilGateFails s = true) :
    dueCheck s = enterWait .waitOil s :=
  (if_neg (Classical.not_not.2 free)).trans (if_pos gate)

theorem dueCheck_manual (free : s.recov.word = 0) (gate : oilGateFails s = false) (manual : s.recov.auto = false) :
    dueCheck s = enterWait .await s := by
  simp [dueCheck, free, gate, manual]

theorem dueCheck_spacing (free : s.recov.word = 0) (gate : oilGateFails s = false) (auto : s.recov.auto = true)
    (runs : s.recov.spacing ≠ none) : dueCheck s = if s.recov.state = .due then s else recovTo .due none s := by
  simp [dueCheck, free, gate, auto, Option.isSome_iff_ne_none, runs]

theorem dueCheck_spent (free : s.recov.word = 0) (gate : oilGateFails s = false) (auto : s.recov.auto = true)
    (ended : s.recov.spacing = none) (spent : s.recov.budgetMax ≤ s.recov.budget.length) : dueCheck s = enterHard s := by
  simp [dueCheck, free, gate, auto, ended, spent]

theorem dueCheck_pulse (free : s.recov.word = 0) (gate : oilGateFails s = false) (auto : s.recov.auto = true)
    (ended : s.recov.spacing = none) (left : s.recov.budget.length < s.recov.budgetMax) :
    dueCheck s = beginPulse .auto (addBudget s.clock s) := by
  simp [dueCheck, free, gate, auto, ended, Nat.not_le.2 left]

end rows

theorem enterWait_recoveryOnly (st : RecState) (s : State) : HeatAndRecoveryOnly s (enterWait st s) := by
  unfold enterWait
  split
  · rfl
  · exact (recovTo_recoveryOnly _ _ _).trans (raise_recoveryOnly _ _)

theorem dueCheck_recoveryOnly (s : State) : HeatAndRecoveryOnly s (dueCheck s) := by
  unfold dueCheck
  split
  · exact enterWait_recoveryOnly _ _
  split
  · exact enterWait_recoveryOnly _ _
  split
  · exact enterWait_recoveryOnly _ _
  split
  · split
    · rfl
    · exact recovTo_recoveryOnly _ _ _
  split
  · unfold enterHard
    split
    · rfl
    · exact ((recovTo_recoveryOnly _ _ _).trans (raise_recoveryOnly _ _)).trans (postInternal_recoveryOnly _ _)
  · exact HeatAndRecoveryOnly.trans rfl (beginPulse_recoveryOnly _ _)

theorem RecState.waitsForDue_iff {st : RecState} :
    st.waitsForDue = true ↔ st = .due ∨ st = .waitOil ∨ st = .held ∨ st = .await := by
  simp [RecState.waitsForDue, or_assoc]

theorem dueTrigger_eq (s : State) : dueTrigger s =
    if s.recov.state = .due ∨ s.recov.state = .waitOil ∨ s.recov.state = .held ∨ s.recov.state = .await then dueCheck s
    else s := by
  simp only [dueTrigger, RecState.waitsForDue_iff]

/-- Settles O34. -/
theorem dueCheckDecides : Obligations.DueCheckDecides := by
  refine ⟨?_, ?_⟩
  · intro s t r noOil waits
    have gate : ¬noOil → oilGateFails s = false := fun dry => Bool.eq_false_iff.2 (mt oilGateFails_iff.1 dry)
    have stays : ∀ {st}, dueCheck s = enterWait st s → r.state = st → t = s := fun row state => row.trans (if_pos state)
    have entersWait : ∀ {st : RecState}, st ≠ .pulse → dueCheck s = enterWait st s → r.state ≠ st → waits st := by
      intro st pulse row other
      have whole := enterWait_waits pulse other
      rwa [← row] at whole
    refine ⟨fun claimed => stays (dueCheck_held claimed), fun claimed => entersWait (by decide) (dueCheck_held claimed),
      fun free dry => stays (dueCheck_noOil free (oilGateFails_iff.2 dry)),
      fun free dry => entersWait (by decide) (dueCheck_noOil free (oilGateFails_iff.2 dry)),
      fun free oil manual => stays (dueCheck_manual free (gate oil) manual),
      fun free oil manual => entersWait (by decide) (dueCheck_manual free (gate oil) manual),
      fun free oil auto runs state => (dueCheck_spacing free (gate oil) auto runs).trans (if_pos state),
      fun free oil auto runs state => ?_, fun free oil auto ended spent state => ?_,
      fun free oil auto ended spent state => ?_, fun free oil auto ended left room => ?_, dueCheck_recoveryOnly s⟩
    · have due : t = recovTo .due none s := (dueCheck_spacing free (gate oil) auto runs).trans (if_neg state)
      rw [due]
      exact ⟨by simp [r], by simp, recovTo_enters (by decide) _ _⟩
    · exact (dueCheck_spent free (gate oil) auto ended spent).trans (if_pos state)
    · rw [show t = enterHard s from dueCheck_spent free (gate oil) auto ended spent]
      exact enterHard_other state
    · have pulse : t = beginPulse .auto (s.onRecov fun r => { r with budget := r.budget ++ [s.clock] }) := by
        rw [← addBudget_room room]
        exact dueCheck_pulse free (gate oil) auto ended left
      obtain ⟨recov, whole⟩ := beginPulse_eq .auto (s.onRecov fun r => { r with budget := r.budget ++ [s.clock] })
      rw [pulse]
      exact ⟨recov, by simp, whole⟩
  · intro s on waiting spent
    have trigger : exec .spacingExpires s = .next (spacingExpires s) := whenOn_powered on
    refine ⟨fun state timer => ?_, fun ended waits => ?_, fun ended waits => ?_, whenOn_powered on⟩
    · have works : exec .coolOffExpires s = .next (coolOffExpires s) := whenOn_powered on
      rw [works, coolOffExpires, if_pos (by simp [recovTimerOver, state, timer])]
    · rw [trigger, spacingExpires, if_pos ended, dueTrigger_eq]
      exact congrArg _ (if_pos waits)
    · rw [trigger, spacingExpires, if_pos ended, dueTrigger_eq]
      exact congrArg _ (if_neg waits)

end Sys2Proof.Machine
end

section
/-! The pulse sequence, the end of an attempt and of a claim, and the requests of 6.4 to 6.7 (O35, O36, O37, O38). -/

namespace Sys2Proof.Machine

/-! ### The pulse sequence (R90, R104) -/

section resting

variable {s : State}

/-- Outside NONE and PROVING the lawful burner is neither starting nor firing (R82). -/
theorem DemandLawful.resting (lawful : DemandLawful s) (none : s.recov.state ≠ .none) (proving : s.recov.state ≠ .proving) :
    s.burner.state ≠ .starting ∧ s.burner.state ≠ .firing := by
  have released : ¬s.burner.demand = true := by
    intro on
    obtain ⟨-, allowed, -⟩ := demandConditions_iff.1 (lawful.permitted on)
    exact allowed.elim none proving
  exact ⟨fun state => released (lawful.states.2 (.inl state)), fun state => released (lawful.states.2 (.inr state))⟩

theorem judgeDemand_unmet (starting : s.burner.state ≠ .starting) (firing : s.burner.state ≠ .firing)
    (unmet : ¬demandConditions s = true) : judgeDemand s = s := by
  by_cases settled : s.burner.settled = true
  · by_cases idle : s.burner.state = .idle
    · exact (judgeDemand_idle settled idle).trans (if_neg unmet)
    · exact judgeDemand_quiet idle starting firing
  · exact judgeDemand_settling (Bool.eq_false_iff.2 settled)

/-- From a state of an episode to another, the demand conditions fail on: RESET alone follows (R82, R90). -/
theorem recovTo_resting (lawful : DemandLawful s) (none : s.recov.state ≠ .none) (proving : s.recov.state ≠ .proving)
    {st : RecState} (notNone : st ≠ .none) (notProving : st ≠ .proving) (timer : Option Nat) :
    recovTo st timer s = (s.onRecov fun r => { r with state := st, timer := timer }).onBurner
      (·.followPulse (decide (st = .pulse)) s.recov.gapLen) := by
  obtain ⟨starting, firing⟩ := lawful.resting none proving
  refine judgeDemand_unmet starting firing fun met => ?_
  obtain ⟨-, allowed, -⟩ := demandConditions_iff.1 met
  exact allowed.elim notNone notProving

theorem DemandLawful.released (lawful : DemandLawful s) (other : s.recov.state ≠ .pulse) : s.burner.reset = false :=
  Bool.eq_false_iff.2 (mt lawful.pulse.1 other)

theorem followPulse_released {b : Burner} (released : b.reset = false) (gapLen : Nat) : b.followPulse false gapLen = b := by
  have still : (if b.reset && !false then some gapLen else b.gap) = b.gap := by simp [released]
  rw [Burner.followPulse, still, ← released]

/-- The same with RESET released before and after. -/
theorem recovTo_resting_released (lawful : DemandLawful s) (none : s.recov.state ≠ .none)
    (proving : s.recov.state ≠ .proving) (pulse : s.recov.state ≠ .pulse) {st : RecState} (notNone : st ≠ .none)
    (notProving : st ≠ .proving) (notPulse : st ≠ .pulse) (timer : Option Nat) :
    recovTo st timer s = s.onRecov fun r => { r with state := st, timer := timer } := by
  rw [recovTo_resting lawful none proving notNone notProving, decide_eq_false notPulse]
  simp only [State.onBurner, State.onRecov, followPulse_released (lawful.released pulse)]

theorem recovTimerOver_iff {st : RecState} : recovTimerOver st s = true ↔ s.recov.state = st ∧ s.recov.timer = some 0 := by
  simp [recovTimerOver]

end resting

/-- Settles O35. -/
theorem pulseSequenceRuns : Obligations.PulseSequenceRuns := by
  intro s on lawful r
  have spaced : DemandLawful (s.onRecov fun r => { r with spacing := some r.spacingTime }) :=
    DemandAlike.lawful {} lawful
  have works : ∀ {f : State → State} {c : Instr} {t : State}, exec c s = whenOn f s → f s = t → exec c s = .next t :=
    fun is next => is.trans ((whenOn_powered on).trans (congrArg _ next))
  refine ⟨fun state timer => works (f := pregapEnds) rfl ?_, fun state timer => works (f := pulseEnds) rfl ?_,
    fun state timer lock => works (f := postgapEnds) rfl ?_, fun state timer lock => works (f := postgapEnds) rfl ?_,
    fun state timer => works (f := checkingExpires) rfl ?_⟩
  · have released := lawful.released (show s.recov.state ≠ .pulse by simp [show s.recov.state = _ from state])
    rw [pregapEnds, if_pos (recovTimerOver_iff.2 ⟨state, timer⟩), recovTo_resting lawful] <;>
      simp [show s.recov.state = _ from state, State.onBurner, State.onRecov, Burner.followPulse]
  · have energized := lawful.pulse.2 state
    rw [pulseEnds, if_pos (recovTimerOver_iff.2 ⟨state, timer⟩), recovTo_resting lawful] <;>
      simp [show s.recov.state = _ from state, State.onBurner, State.onRecov, Burner.followPulse, energized, r]
  · rw [postgapEnds, if_pos (recovTimerOver_iff.2 ⟨state, timer⟩)]
    refine (if_neg lock).trans ?_
    rw [recovTo_resting_released spaced] <;> simp [show s.recov.state = _ from state, State.onRecov]
  · rw [postgapEnds, if_pos (recovTimerOver_iff.2 ⟨state, timer⟩)]
    refine (if_pos lock).trans ?_
    exact recovTo_released (by decide) none (lawful.released (by simp [show s.recov.state = _ from state]))
  · have closed : DemandLawful (closeRecord .ineffective s) := DemandAlike.lawful {} lawful
    rw [checkingExpires, if_pos (recovTimerOver_iff.2 ⟨state, timer⟩), toCooling, recovTo_resting_released closed] <;>
      simp [show s.recov.state = _ from state, State.onRecov, closeRecord]

/-! ### The end of an attempt and of a claim (R106, R113) -/

theorem pendingCause_first {r : Recovery} {before after : List RecRecord} {x : RecRecord}
    (held : r.log = before ++ x :: after) (pending : x.outcome = .pending) (first : ∀ y ∈ before, y.outcome ≠ .pending) :
    pendingCause r = x.cause := by
  have found : r.log.find? (fun x => decide (x.outcome = .pending)) = some x :=
    List.find?_eq_some_iff_append.2 ⟨by simp [pending], before, after, held, by simpa using first⟩
  rw [pendingCause, found]

/-- Settles O36. -/
theorem attemptIsProvedAndClaimExpires : Obligations.AttemptIsProvedAndClaimExpires := by
  intro s on
  have works : exec .proved s = .next (provedEvent s) := whenOn_powered on
  refine ⟨fun state reached => ⟨proveAttempt s, ?_, ?_, ?_, ?_, fun before x after held pending first => ?_⟩,
    fun state short => ?_, fun ended => ?_⟩
  · rw [works, provedEvent, if_pos ⟨state, reached⟩]
  · simp [proveAttempt, closeRecord]
  · rw [proveAttempt, (postInternal_frame _ _).2.2.2.2.2.2.2.2.2.2.2.2.2.1]
    exact raised_bit (recoveredNotice _ _) _ (show AttnBit.recovered.word ≠ 0 by decide)
  · exact ((HeatAndRecoveryOnly.trans rfl (recovTo_recoveryOnly _ _ _)).trans (raise_recoveryOnly _ _)).trans
      (postInternal_recoveryOnly _ _)
  · rw [proveAttempt, pendingCause_first held pending first, recovTo_enters (by decide)]
    rfl
  · rw [works, provedEvent, if_neg fun reached => absurd reached.2 (Nat.not_le.2 short)]
  · intro cleared
    have expires : exec .claimHoldExpires s = .next (claimHoldExpires s) := whenOn_powered on
    have same : cleared.recov.state = s.recov.state := by simp [cleared]
    rw [expires, claimHoldExpires, if_pos ended, ← same]
    exact congrArg _ (dueTrigger_eq cleared)

/-! ### Requests of the house and of a service tool -/

/-- A request of the house that is next, well formed and not barred: what its operation answers and leaves. -/
theorem houseRequest_operation {op : Byte} {o : MgmtOp} {r : HouseReq} {s : State} (takes : HouseTakes (houseFrame op r) s)
    (own : r.dest = 0) (named : MgmtOp.ofCode op = some o) (formed : o.formed (r.params.length + 1) = true)
    (free : s.store.save = none ∨ o.barred = false) :
    houseRequest (houseFrame op r) s = .next (offerAnswer r.tag (runOperation o r.params (houseTaken s))) := by
  have runs : manageOp o r.params (houseTaken s) = runOperation o r.params (houseTaken s) := by
    rcases free with idle | unbarred
    · exact manageOp_runs formed idle
    · simp [manageOp, formed, unbarred]
  rw [houseRequest_taken takes, handleHouse_mgmt _ rfl, manage_known _ own rfl named, runs]
  rfl

/-- The same for an operation that leaves no restart pending. -/
theorem houseRequest_answered {op : Byte} {o : MgmtOp} {r : HouseReq} {s : State} (takes : HouseTakes (houseFrame op r) s)
    (own : r.dest = 0) (named : MgmtOp.ofCode op = some o) (formed : o.formed (r.params.length + 1) = true)
    (free : s.store.save = none ∨ o.barred = false)
    (plain : (runOperation o r.params (houseTaken s)).2.mgmt.restart = s.mgmt.restart) :
    houseRequest (houseFrame op r) s = .next (answered r.tag (runOperation o r.params (houseTaken s)).1
      (runOperation o r.params (houseTaken s)).2) := by
  rw [houseRequest_operation takes own named formed free, offerAnswer_plain (plain.trans takes.2.2.2.1)]

/-- A request of a service tool that is next: what its operation answers and leaves. -/
theorem serviceRequest_answered {op : Byte} {v : SvcReq} {s : State} (takes : ServiceTakes (svcFrame op v) s) :
    fieldRequest (svcFrame op v) v.time s = .next (serviceAnswered (svcFrame op v)
      (serviceOperation op v.params (fieldInHand (svcFrame op v) v.time s)).1
      (serviceOperation op v.params (fieldInHand (svcFrame op v) v.time s)).2) := by
  rw [serviceRequest_taken takes]
  exact congrArg _ (fieldEnded_offerSvcans _ _ _)

section rows

variable {p : Prop} [Decidable p] (a b : Answer × State)

theorem answered_ite (tag : Byte) : answered tag (if p then a else b).1 (if p then a else b).2 =
    if p then answered tag a.1 a.2 else answered tag b.1 b.2 := by
  split <;> rfl

theorem serviceAnswered_ite (f : Frame) : serviceAnswered f (if p then a else b).1 (if p then a else b).2 =
    if p then serviceAnswered f a.1 a.2 else serviceAnswered f b.1 b.2 := by
  split <;> rfl

end rows

theorem wordOf_bytes (lo hi : Byte) (rest : List Byte) : wordOf (lo :: hi :: rest) = hi ++ lo := by
  refine BitVec.eq_of_toNat_eq ?_
  have low := lo.isLt
  have high := hi.isLt
  rw [wordOf, BitVec.toNat_ofNat, BitVec.toNat_append, ← Nat.shiftLeft_add_eq_or_of_lt low, Nat.shiftLeft_eq]
  simp only [List.take, ofLE]
  omega

/-- Settles O37. -/
theorem claimsAreOperated : Obligations.ClaimsAreOperated := by
  refine ⟨?_, ?_⟩
  · intro r lo hi s own params w t held
    have word : wordOf r.params = w := by rw [params, wordOf_bytes]
    have formed : MgmtOp.formed (r.params.length + 1) .claimSelect = true := by rw [params]; rfl
    refine ⟨fun takes => ?_, fun takes => ?_, fun takes => ?_⟩
    · refine (houseRequest_answered (o := .claimSelect) takes own rfl formed (.inr rfl)
        (by simp [runOperation])).trans ?_
      simp only [runOperation, word, claimSelect, answered_ite]
      rfl
    · refine (houseRequest_answered (o := .claimTest) takes own rfl formed (.inr rfl)
        (by simp [runOperation])).trans ?_
      simp only [runOperation, word, claimTest, answered_ite]
      rfl
    · refine (houseRequest_answered (o := .claimRelease) takes own rfl formed (.inr rfl)
        (by simp [runOperation])).trans ?_
      simp only [runOperation, word, claimRelease, answered_ite]
      rfl
  · intro v lo hi x s params w held at_
    have word : wordOf v.params = w := by rw [params, wordOf_bytes]
    refine ⟨fun takes => (serviceRequest_answered takes).trans ?_, fun takes => (serviceRequest_answered takes).trans ?_,
      fun takes => (serviceRequest_answered takes).trans ?_⟩
    · rw [show ∀ u, serviceOperation 0x0A v.params u = claimSelect .field (wordOf v.params) u from fun u => rfl]
      simp only [word, claimSelect, serviceAnswered_ite]
      rfl
    · rw [show ∀ u, serviceOperation 0x0B v.params u = claimTest (wordOf v.params) u from fun u => rfl]
      simp only [word, claimTest, serviceAnswered_ite]
      rfl
    · rw [show ∀ u, serviceOperation 0x0C v.params u = claimRelease (wordOf v.params) u from fun u => rfl]
      simp only [word, claimRelease, serviceAnswered_ite]
      rfl

theorem RecState.busy_iff {st : RecState} :
    st.busy = true ↔ st = .pregap ∨ st = .pulse ∨ st = .postgap ∨ st = .checking ∨ st = .proving := by
  simp [RecState.busy, or_assoc]

theorem fieldWordHeld_iff {w : BitVec 16} {r : Recovery} :
    fieldWordHeld w r = true ↔ r.side = .field ∧ w ≠ 0 ∧ w = r.word := by
  simp [fieldWordHeld, and_assoc]

/-- Settles O38. -/
theorem resetsAreRequested : Obligations.ResetsAreRequested := by
  intro r v lo hi x s own params svcParams st busy noOil w held reset cleared
  have word : wordOf v.params = w := by rw [svcParams, wordOf_bytes]
  refine ⟨fun takes => ?_, fun takes => (serviceRequest_answered takes).trans ?_,
    fun takes => (serviceRequest_answered takes).trans ?_, fun lawful none free c => ?_⟩
  · refine (houseRequest_answered (o := .remoteReset) takes own rfl (by rw [params]; rfl) (.inr rfl)
      (by simp [runOperation])).trans ?_
    simp only [runOperation, remoteReset, answered_ite, RecState.busy_iff, oilGateFails_iff]
    rfl
  · rw [show ∀ u, serviceOperation 0x11 v.params u = serviceReset (wordOf v.params) u from fun u => rfl]
    simp only [word, serviceReset, serviceAnswered_ite, RecState.busy_iff, Bool.not_eq_true', ← Bool.not_eq_true,
      fieldWordHeld_iff]
    rfl
  · rw [show ∀ u, serviceOperation 0x12 v.params u = clearHard (wordOf v.params) u from fun u => rfl]
    simp only [word, clearHard, serviceAnswered_ite, RecState.busy_iff, Bool.not_eq_true', ← Bool.not_eq_true,
      fieldWordHeld_iff]
    rfl
  · have recorded : DemandLawful (addRecord s.clock c .pending s) := DemandAlike.lawful {} lawful
    have proving : s.recov.state ≠ .proving := fun state => free (.inr (.inr (.inr (.inr state))))
    have pulse : s.recov.state ≠ .pulse := fun state => free (.inr (.inl state))
    have begins : beginPulse c s = (addRecord s.clock c .pending s).onRecov fun k =>
        { k with state := .pregap, timer := some s.recov.gapLen } :=
      recovTo_resting_released recorded none proving pulse (by decide) (by decide) (by decide) _
    rw [begins, addRecord_eq]
    rfl

end Sys2Proof.Machine
end

section
/-! The timers and settings of the gauge, the reconciliation and the daily roll (O39, O43, O44). -/

namespace Sys2Proof.Machine

/-- Settles O39. -/
theorem sampleIsTimed : Obligations.SampleIsTimed := by
  intro s on
  have works : ∀ {f : State → State} {c : Instr} {t : State}, exec c s = whenOn f s → f s = t → exec c s = .next t :=
    fun is next => is.trans ((whenOn_powered on).trans (congrArg _ next))
  refine ⟨fun ended => works (f := sampleTimerExpires) rfl (if_pos ended), fun supply count => ?_,
    fun ended => works (f := gaugeReportDue) rfl (if_pos ended)⟩
  exact works (f := supplyConversionDone count) rfl (if_pos supply)

/-! ### The settings of the gauge that are events (R131, R135, R143) -/

theorem gaugeFields_start : FieldStarts .dryT 0x20A 2 ∧ FieldStarts .lowT 0x20C 2 ∧
    FieldStarts (.num .bandHyst) 0x207 1 ∧ FieldStarts (.num .reportInterval) 0x009 1 ∧
    FieldStarts (.num .reconcileHours) 0x2E2 1 :=
  ⟨⟨by decide, by decide, by decide, by decide⟩, ⟨by decide, by decide, by decide, by decide⟩,
    ⟨by decide, by decide, by decide, by decide⟩, ⟨by decide, by decide, by decide, by decide⟩,
    ⟨by decide, by decide, by decide, by decide⟩⟩

theorem Gauge.reportable_iff {g : Gauge} : g.reportable = true ↔ g.state = .valid ∧ g.sFlag = true := by
  simp [Gauge.reportable]

/-- The band from the band before, as a chain of the three cases of R129. -/
theorem Gauge.judgeBand_eq (v : Nat) (g : Gauge) : g.judgeBand v =
    if g.band = .low then (if v < g.dryT then .dry else if g.lowT + g.bandHyst ≤ v then .normal else .low)
    else if g.band = .dry then
      (if g.lowT + g.bandHyst ≤ v then .normal else if g.dryT + g.bandHyst ≤ v then .low else .dry)
    else if v < g.dryT then .dry else if v < g.lowT then .low else .normal := by
  unfold Gauge.judgeBand
  cases g.band <;> rfl

theorem rejudgeBand_eq (s : State) : rejudgeBand s =
    if s.gauge.state = .valid ∧ s.gauge.sFlag = true then
      handBand s.gauge.band (s.onGauge fun g => { g with band := g.judgeBand (g.s10 / 10) })
    else s := by
  simp only [rejudgeBand, Gauge.reportable_iff]
  rfl

theorem rejudgeReconcile_eq (s : State) : rejudgeReconcile s =
    if s.oil.based = true ∧ s.oil.reconcileHours * 3600 ≤ age s.clock (s.oil.rebaseTime.getD 0) then reconcileOrMark s
    else s := by
  simp only [rejudgeReconcile, reconcileReached, Bool.and_eq_true, decide_eq_true_eq]

/-- Settles O43. -/
theorem gaugeSettingIsWritten : Obligations.GaugeSettingIsWritten := by
  intro tag b v s idle t n low m old judged
  obtain ⟨dryT, lowT, hysteresis, interval, hours⟩ := gaugeFields_start
  have rejudged : ∀ u : State, u.gauge.band = old → rejudgeBand u = judged u := by
    intro u same
    rw [rejudgeBand_eq]
    simp only [judged, Gauge.judgeBand_eq, ← same]
    rfl
  refine ⟨fun takes => ?_, fun takes => ?_, fun takes => ?_, fun takes => ?_, ?_⟩
  · refine (houseRequest_field dryT takes idle rfl).trans ?_
    rw [ofLE_word v.isLt, applyField]
    by_cases above : s.gauge.lowT ≤ n
    · rw [if_pos above, if_pos (show t.gauge.lowT ≤ v.toNat from above)]
      rfl
    · rw [if_neg above, if_neg (show ¬t.gauge.lowT ≤ v.toNat from above)]
      exact congrArg (fun u => Host.Outcome.next (answered tag [0] u)) (rejudged _ rfl)
  · refine (houseRequest_field lowT takes idle rfl).trans ?_
    rw [ofLE_word v.isLt, applyField]
    by_cases below : n ≤ s.gauge.dryT
    · rw [if_pos below, if_pos (show v.toNat ≤ t.gauge.dryT from below)]
      rfl
    · rw [if_neg below, if_neg (show ¬v.toNat ≤ t.gauge.dryT from below)]
      exact congrArg (fun u => Host.Outcome.next (answered tag [0] u)) (rejudged _ rfl)
  · refine (houseRequest_num hysteresis takes idle rfl (ofLE_lowByte n)).trans ?_
    exact congrArg (fun u => Host.Outcome.next (answered tag _ u)) (rejudged _ rfl)
  · refine (houseRequest_num interval takes idle rfl (ofLE_byte b)).trans ?_
    simp [Num.write, Num.range, writeReportInterval, Gauge.startReportTimer, nearest_eq_zero, State.onGauge, t, m]
  · intro takes stored since
    refine (houseRequest_num hours takes idle rfl (ofLE_byte b)).trans ?_
    have elapsed : since = age s.clock (s.oil.rebaseTime.getD 0) := by
      simp only [since]
      cases s.oil.rebaseTime <;> rfl
    rw [elapsed]
    exact congrArg (fun u => Host.Outcome.next (answered tag _ u)) (rejudgeReconcile_eq _)

/-! ### The reconciliation (R143, R144) -/

theorem Gauge.riseWatch_iff {g : Gauge} : g.riseWatch = true ↔ g.rising = true ∨ 0 < g.candRun := by
  simp [Gauge.riseWatch]

theorem reconcileOrMark_marks {s : State}
    (waits : s.gauge.reported = none ∨ s.gauge.rising = true ∨ 0 < s.gauge.candRun) :
    reconcileOrMark s = s.onOil fun o => { o with due := true, timerRuns := false } := by
  unfold reconcileOrMark
  split
  · rename_i v reported
    exact if_pos (Gauge.riseWatch_iff.2 (waits.resolve_left (by simp [reported])))
  · rfl

theorem reconcileOrMark_works {s : State} {v : Nat} (reported : s.gauge.reported = some v) (level : s.gauge.rising = false)
    (still : s.gauge.candRun = 0) : reconcileOrMark s = oilTakes (·.reconcile s.clock v) s := by
  have quiet : s.gauge.riseWatch = false := by simp [Gauge.riseWatch, level, still]
  simp [reconcileOrMark, reported, quiet]

/-- What stays outside the accounts, the house queue and the attention word. -/
abbrev AccountsOnly (s t : State) : Prop :=
  t = { s with
    oil := t.oil, ports := { s.ports with houseTx := t.ports.houseTx }
    mgmt := { s.mgmt with attn := t.mgmt.attn, houseNoticeLost := t.mgmt.houseNoticeLost } }

theorem AccountsOnly.trans {s t u : State} (first : AccountsOnly s t) (second : AccountsOnly t u) : AccountsOnly s u := by
  rw [AccountsOnly] at first second ⊢
  conv => lhs; rw [second, first]

theorem raise_accountsOnly (n : Notice) (s : State) : AccountsOnly s (raise n s) := by
  unfold raise
  (repeat' split) <;> rfl

theorem raiseAll_accountsOnly (ns : List Notice) (s : State) : AccountsOnly s (raiseAll ns s) := by
  induction ns generalizing s with
  | nil => rfl
  | cons n ns ih => exact (raise_accountsOnly n s).trans (ih (raise n s))

theorem oilTakes_accountsOnly (f : Oil → Oil × List Notice) (s : State) : AccountsOnly s (oilTakes f s) :=
  AccountsOnly.trans rfl (raiseAll_accountsOnly _ _)

@[simp] theorem oilTakes_oil (f : Oil → Oil × List Notice) (s : State) : (oilTakes f s).oil = (f s.oil).1 := by
  simp [oilTakes]

theorem or_keeps_bits {a b w : BitVec 16} (stands : a &&& w = w) : (a ||| b) &&& w = w := by
  rw [BitVec.and_or_distrib_right, stands]
  ext i
  simp

/-- A bit that stands set stays set. -/
theorem raise_keeps_bit {n : Notice} {w : BitVec 16} {s : State} (stands : s.mgmt.attn &&& w = w) :
    (raise n s).mgmt.attn &&& w = w := by
  by_cases disabled : s.mgmt.enable &&& n.bit.word = 0
  · rw [raise_of_disabled disabled]
    exact or_keeps_bits stands
  · obtain room | full := Nat.lt_or_ge s.ports.houseTx.length 15
    · rw [raise_of_accepted disabled room]
      exact or_keeps_bits stands
    · rw [raise_of_lost disabled full, loseNotice_attn]
      exact or_keeps_bits (or_keeps_bits stands)

theorem raiseAll_keeps_bit {ns : List Notice} {w : BitVec 16} {s : State} (stands : s.mgmt.attn &&& w = w) :
    (raiseAll ns s).mgmt.attn &&& w = w := by
  induction ns generalizing s with
  | nil => exact stands
  | cons n ns ih => exact ih (raise_keeps_bit stands)

/-- Every bit of a list of events stands set after them. -/
theorem raiseAll_sets_bit {ns : List Notice} {n : Notice} (raised : n ∈ ns) (s : State) :
    (raiseAll ns s).mgmt.attn &&& n.bit.word = n.bit.word := by
  induction ns generalizing s with
  | nil => cases raised
  | cons m ns ih =>
    rcases List.mem_cons.1 raised with rfl | later
    · exact raiseAll_keeps_bit (s := raise n s) (raise_sets_bit n s)
    · exact ih later (raise m s)

theorem AttnBit.word_ne_zero (b : AttnBit) : b.word ≠ 0 := by cases b <;> decide

/-- The bit of a notice that Oil Accounting raises stands set. -/
theorem oilTakes_raises {f : Oil → Oil × List Notice} {s : State} {n : Notice} (raised : n ∈ (f s.oil).2) :
    (oilTakes f s).mgmt.attn &&& n.bit.word ≠ 0 := by
  have stands := raiseAll_sets_bit raised (s.onOil fun o => (f o).1)
  rw [oilTakes, stands]
  exact n.bit.word_ne_zero

theorem Oil.addEvent_events (e : OilEvent) (o : Oil) :
    (o.addEvent e).events = (if o.events.length < 16 then o.events else o.events.drop 1) ++ [e] := joinBounded_eq _ _ _

/-! The three outcomes of a reconciliation (R144 steps 2 and 3): its record, the checkpoint and its notice. -/

section outcomes

variable {now : Clock} {v : Nat} {o : Oil}

theorem Oil.reconcile_loss (loss : (v : Int) - o.book ≤ -(o.runLoss : Int)) :
    (o.reconcile now v).1.events = (if o.events.length < 16 then o.events else o.events.drop 1) ++
      [⟨.lossRun, now, some o.book.toNat, some v, (o.book - v).toNat, none⟩] ∧
    (o.reconcile now v).1.checkpoint = o.checkpoint ∧
    (o.reconcile now v).2 = [lossNotice (o.book - v).toNat .lossRun] := by
  have record : o.reconcileRecord now v = _ := if_pos loss
  rw [Oil.reconcile, record]
  exact ⟨Oil.addEvent_events _ _, rfl, rfl⟩

theorem Oil.reconcile_delivery (even : -(o.runLoss : Int) < (v : Int) - o.book)
    (delivery : (o.deliveryLoss : Int) ≤ (v : Int) - o.book) :
    (o.reconcile now v).1.events = (if o.events.length < 16 then o.events else o.events.drop 1) ++
      [⟨.delivery, now, some o.book.toNat, some v, v - o.book.toNat, some .reconcile⟩] ∧
    (o.reconcile now v).1.checkpoint = o.checkpoint.map (fun _ => v) ∧
    (o.reconcile now v).2 = [deliveryNotice (v - o.book.toNat) .reconcile] := by
  have record : o.reconcileRecord now v = _ := (if_neg (Int.not_le.2 even)).trans (if_pos delivery)
  rw [Oil.reconcile, record]
  exact ⟨Oil.addEvent_events _ _, rfl, rfl⟩

theorem Oil.reconcile_even (even : -(o.runLoss : Int) < (v : Int) - o.book)
    (none : (v : Int) - o.book < (o.deliveryLoss : Int)) :
    (o.reconcile now v).1.events = o.events ∧ (o.reconcile now v).1.checkpoint = o.checkpoint ∧
    (o.reconcile now v).2 = [] := by
  have record : o.reconcileRecord now v = (o, []) := (if_neg (Int.not_le.2 even)).trans (if_neg (Int.not_le.2 none))
  rw [Oil.reconcile, record]
  exact ⟨rfl, rfl, rfl⟩

theorem Oil.reconcile_checkpoint : (o.reconcile now v).1.checkpoint =
    if o.checkpoint ≠ none ∧ (o.deliveryLoss : Int) ≤ (v : Int) - o.book ∧ -(o.runLoss : Int) < (v : Int) - o.book then
      some v
    else o.checkpoint := by
  by_cases even : -(o.runLoss : Int) < (v : Int) - o.book
  · by_cases delivery : (o.deliveryLoss : Int) ≤ (v : Int) - o.book
    · rw [(Oil.reconcile_delivery even delivery).2.1]
      cases o.checkpoint <;> simp [even, delivery]
    · rw [(Oil.reconcile_even even (Int.not_le.1 delivery)).2.1, if_neg fun all => delivery all.2.1]
  · rw [(Oil.reconcile_loss (Int.not_lt.1 even)).2.1, if_neg fun all => even all.2.2]

end outcomes

/-- What a reconciliation leaves beside its record: the rebased accounts and the judged rate (R141, R144). -/
theorem Oil.reconcile_rebased (now : Clock) (v : Nat) (o : Oil) :
    let t := (o.reconcile now v).1
    t.observed = (if 3600 ≤ o.firing ∧ v < o.base then some (min 65535 ((o.base - v) * 1000 * 3600 / o.firing))
      else o.observed) ∧
    t.based = true ∧ t.base = v ∧ t.used = 0 ∧ t.remainder = 0 ∧ t.firing = 0 ∧ t.rebaseTime = some now ∧ t.due = false ∧
    t.timerRuns = true := ⟨rfl, rfl, rfl, rfl, rfl, rfl, rfl, rfl, rfl⟩

/-- Settles O44. -/
theorem reconciliationAndDailyRoll : Obligations.ReconciliationAndDailyRoll := by
  intro s on
  refine ⟨fun x based runs rebased reached => ?_, fun due => ?_, fun due multiple last seconds => ?_⟩
  · have expires : exec .reconcileTimerExpires s = .next (reconcileOrMark s) := by
      have works : exec .reconcileTimerExpires s = .next (reconcileTimerExpires s) := whenOn_powered on
      rw [works, reconcileTimerExpires, if_pos (by simp [based, runs, reconcileReached, rebased, reached])]
    refine ⟨fun waits => by rw [expires, reconcileOrMark_marks waits], fun v reported level still =>
      ⟨oilTakes (·.reconcile s.clock v) s, by rw [expires, reconcileOrMark_works reported level still], ?_⟩⟩
    obtain ⟨observed, rest⟩ := s.oil.reconcile_rebased s.clock v
    have only := oilTakes_accountsOnly (·.reconcile s.clock v) s
    have raises : ∀ n : Notice, (s.oil.reconcile s.clock v).2 = [n] →
        (oilTakes (·.reconcile s.clock v) s).mgmt.attn &&& n.bit.word ≠ 0 := fun n single =>
      oilTakes_raises (single ▸ List.mem_singleton_self n)
    simp only [oilTakes_oil]
    refine ⟨⟨fun loss => ?_, fun even delivery => ?_, fun even none => ?_⟩, observed, Oil.reconcile_checkpoint, ?_⟩
    · obtain ⟨events, -, notices⟩ := Oil.reconcile_loss (now := s.clock) loss
      exact ⟨events, raises _ notices⟩
    · obtain ⟨events, -, notices⟩ := Oil.reconcile_delivery (now := s.clock) even delivery
      exact ⟨events, raises _ notices⟩
    · obtain ⟨events, -, notices⟩ := Oil.reconcile_even (now := s.clock) even none
      refine ⟨events, ?_⟩
      rw [oilTakes, notices]
      rfl
    · obtain ⟨based, base, used, remainder, firing, time, due, runs⟩ := rest
      refine ⟨based, base, used, remainder, firing, time, due, runs, ?_⟩
      rwa [AccountsOnly, oilTakes_oil] at only
  · have works : exec (.dailyRingRoll false) s = .next (dailyRingRoll false s) := whenOn_powered on
    rw [works, dailyRingRoll, if_pos due]
    rfl
  · have works : exec (.dailyRingRoll true) s = .next (dailyRingRoll true s) := whenOn_powered on
    rw [works, dailyRingRoll, if_pos due]
    simp [Oil.roll, multiple, last, seconds]

end Sys2Proof.Machine
end

section
/-! The strapping tables (O42). -/

namespace Sys2Proof.Machine

/-! ### The checks of COMMIT_STRAP (R133) -/

/-- One point of a table stands below and before another. -/
abbrev Ascends (p q : Nat × Nat) : Prop := p.1 < q.1 ∧ p.2 < q.2

theorem strapDisorder_none {i : Nat} {ps : List (Nat × Nat)} (ascending : ps.Pairwise Ascends) :
    strapDisorder i ps = none := by
  induction ps generalizing i with
  | nil => rfl
  | cons p ps ih =>
    cases ps with
    | nil => rfl
    | cons q rest =>
      obtain ⟨first, later⟩ := List.pairwise_cons.1 ascending
      obtain ⟨deeper, more⟩ := first q List.mem_cons_self
      exact (if_neg (not_or.2 ⟨Nat.not_le.2 deeper, Nat.not_le.2 more⟩)).trans (ih later)

/-- The first point that does not rise above the one before it. -/
theorem strapDisorder_first {i : Nat} {before after : List (Nat × Nat)} {a b : Nat × Nat}
    (ascending : (before ++ [a]).Pairwise Ascends) (falls : b.1 ≤ a.1 ∨ b.2 ≤ a.2) :
    strapDisorder i (before ++ a :: b :: after) = some (i + before.length) := by
  induction before generalizing i with
  | nil => exact if_pos falls
  | cons p before ih =>
    obtain ⟨first, later⟩ := List.pairwise_cons.1 ascending
    have rises : ∀ q ∈ before ++ [a], ¬(q.1 ≤ p.1 ∨ q.2 ≤ p.2) := fun q mem =>
      not_or.2 ⟨Nat.not_le.2 (first q mem).1, Nat.not_le.2 (first q mem).2⟩
    have further : strapDisorder i (p :: (before ++ a :: b :: after)) =
        strapDisorder (i + 1) (before ++ a :: b :: after) := by
      cases before with
      | nil => exact if_neg (rises a (by simp))
      | cons q rest => exact if_neg (rises q (by simp))
    rw [List.cons_append, further, ih later, List.length_cons]
    congr 1
    omega

section checks

variable {ps : List (Nat × Nat)}

theorem checkStrap_short (short : ps.length < 2) : checkStrap ps = .noTable := by
  match ps with
  | [] => rfl
  | [p] => rfl
  | p :: q :: rest => exact absurd short (by rw [List.length_cons, List.length_cons]; omega)

theorem checkStrap_raised {p : Nat × Nat} {rest : List (Nat × Nat)} (more : 1 ≤ rest.length) (raised : p.1 ≠ 0) :
    checkStrap (p :: rest) = .order 0 := by
  cases rest with
  | nil => simp at more
  | cons q rest => exact if_neg raised

theorem checkStrap_level (long : 2 ≤ ps.length) (level : ps.head?.map (·.1) = some 0) :
    checkStrap ps = (strapDisorder 1 ps).elim .good .order := by
  match ps with
  | [] => simp at long
  | [p] => simp at long
  | p :: q :: rest =>
    have zero : p.1 = 0 := by simpa using level
    refine (if_pos zero).trans ?_
    cases strapDisorder 1 (p :: q :: rest) <;> rfl

end checks

/-! ### The committed table (R132, R133) -/

/-- Entries whose depths are all given are all points. -/
theorem strapPoints_cut (es : List StrapEntry) (rest : List StrapEntry) :
    strapPoints (es.take (strapPoints es).length ++ rest.map fun e => { e with depth := none }) = strapPoints es := by
  induction es with
  | nil => cases rest <;> rfl
  | cons e es ih =>
    cases given : e.depth with
    | none => cases rest <;> simp [strapPoints, given]
    | some d => simpa [strapPoints, given] using ih

theorem strapPoints_cutTable (es : List StrapEntry) : strapPoints (cutTable es) = strapPoints es :=
  strapPoints_cut es _

theorem cutTable_after {es : List StrapEntry} {i : Nat} {e : StrapEntry} (held : es[i]? = some e)
    (after : (strapPoints es).length ≤ i) : (cutTable es)[i]? = some { e with depth := none } := by
  have within : i < es.length := (List.getElem?_eq_some_iff.1 held).1
  have cut : (es.take (strapPoints es).length).length = (strapPoints es).length := by
    rw [List.length_take]
    omega
  rw [cutTable, List.getElem?_append_right (by omega), cut, List.getElem?_map, List.getElem?_drop,
    Nat.add_sub_cancel' after, held]
  rfl

/-! ### A band change and what it touches (R130) -/

/-- What a handed band change touches. -/
abbrev BandOnly (s t : State) : Prop :=
  t = { s with
    gauge := t.gauge, zones := t.zones, rot := t.rot, burner := t.burner, oil := t.oil, recov := t.recov
    postbox := t.postbox, ports := { s.ports with houseTx := t.ports.houseTx }
    mgmt := { s.mgmt with attn := t.mgmt.attn, houseNoticeLost := t.mgmt.houseNoticeLost } }

theorem BandOnly.trans {s t u : State} (first : BandOnly s t) (second : BandOnly t u) : BandOnly s u := by
  rw [BandOnly] at first second ⊢
  conv => lhs; rw [second, first]

theorem HeatAndRecoveryOnly.withGauge {s t : State} (kept : HeatAndRecoveryOnly s t) : BandOnly s t := by
  rw [HeatAndRecoveryOnly] at kept
  rw [BandOnly, congrArg State.gauge kept]
  exact kept

theorem evaluateZone_heatOnly (i : Fin 8) (s : State) : HeatOnly s (evaluateZone i s) :=
  (HeatOnly.trans (t := storeEvaluated i ((s.zone i).evaluate s.gauge.band s.clock) s) rfl
    (zoneAttention_heatOnly _ _ _ _)).trans (handOver_heatOnly _ _ _ _)

theorem evaluateAll_heatOnly (s : State) : HeatOnly s (evaluateAll s) := by
  have all : ∀ l : List (Fin 8), ∀ u, HeatOnly u (l.foldl (fun u i => evaluateZone i u) u) := by
    intro l
    induction l with
    | nil => exact fun u => rfl
    | cons i l ih => exact fun u => (evaluateZone_heatOnly i u).trans (ih _)
  exact all _ s

theorem dueTrigger_recoveryOnly (s : State) : HeatAndRecoveryOnly s (dueTrigger s) := by
  rw [dueTrigger_eq]
  split
  · exact dueCheck_recoveryOnly s
  · rfl

theorem bandNotices_recoveryOnly (s : State) : HeatAndRecoveryOnly s (bandNotices s) := by
  unfold bandNotices
  split
  · rfl
  · exact (raise_recoveryOnly _ _).trans (postInternal_recoveryOnly _ _)
  · rfl
  · exact (raise_recoveryOnly _ _).trans (postInternal_recoveryOnly _ _)
  · exact postInternal_recoveryOnly _ _
  · exact postInternal_recoveryOnly _ _
  · rfl

/-- The three blocks told of a band change, and its notices (R130). -/
theorem bandTold_recoveryOnly (s : State) :
    HeatAndRecoveryOnly s (bandNotices (dueTrigger (judgeDemand (evaluateAll s)))) :=
  (((evaluateAll_heatOnly s).trans (judgeDemand_heatOnly _)).withRecovery.trans (dueTrigger_recoveryOnly _)).trans
    (bandNotices_recoveryOnly _)

theorem handBand_bandOnly (old : Band) (s : State) : BandOnly s (handBand old s) := by
  unfold handBand
  split
  · rfl
  · exact (bandTold_recoveryOnly s).withGauge.trans rfl

theorem bandTold_gauge (s : State) :
    (bandNotices (dueTrigger (judgeDemand (evaluateAll s)))).gauge = s.gauge := by
  have kept := bandTold_recoveryOnly s
  rw [HeatAndRecoveryOnly] at kept
  rw [kept]

/-- An UNKNOWN band leaves the last known one (R130). -/
theorem handBand_gauge_unknown {old : Band} {s : State} (unknown : s.gauge.band = .unknown) :
    (handBand old s).gauge = s.gauge := by
  unfold handBand
  split
  · rfl
  · have same := bandTold_gauge s
    simp [State.onGauge, same, Gauge.knowBand, unknown]

/-! ### The requests (R133, R134) -/

/-- A request that a SAVE in flight bars (R169 row 5). -/
theorem houseRequest_barred {op : Byte} {o : MgmtOp} {r : HouseReq} {s : State} (takes : HouseTakes (houseFrame op r) s)
    (own : r.dest = 0) (named : MgmtOp.ofCode op = some o) (formed : o.formed (r.params.length + 1) = true)
    (saving : s.store.save ≠ none) (barred : o.barred = true) :
    houseRequest (houseFrame op r) s = .next (answered r.tag [4] (houseTaken s)) := by
  have busy : manageOp o r.params (houseTaken s) = ([4], houseTaken s) := by
    have flight : ((houseTaken s).store.save.isSome && o.barred) = true := by
      rw [barred, Bool.and_true]
      exact Option.isSome_iff_ne_none.2 saving
    rw [manageOp, formed]
    exact if_pos flight
  rw [houseRequest_taken takes, handleHouse_mgmt _ rfl, manage_known _ own rfl named, busy]
  exact congrArg _ (offerAnswer_plain takes.2.2.2.1)

/-- Settles O42. -/
theorem strappingTableIsCommitted : Obligations.StrappingTableIsCommitted := by
  intro r s own params
  have formed : MgmtOp.formed (r.params.length + 1) .discard = true := by rw [params]; rfl
  refine ⟨fun saving takes => houseRequest_barred (o := .discard) takes own rfl formed saving rfl, ?_⟩
  intro idle ps
  have commits : HouseTakes (houseFrame 0x03 r) s → exec (.commitStrap r) s =
      .next (answered r.tag (commitStrap (houseTaken s)).1 (commitStrap (houseTaken s)).2) := fun takes =>
    houseRequest_answered (o := .commit) takes own rfl formed (.inl idle) (by simp [runOperation])
  refine ⟨fun takes => houseRequest_answered (o := .discard) takes own rfl formed (.inl idle) rfl,
    fun takes short => ?_, fun takes p rest split more raised => ?_,
    fun takes before a b after split level ascending falls => ?_, fun takes long level ascending => ?_⟩
  · rw [commits takes, commitStrap, show checkStrap (strapPoints (houseTaken s).gauge.pend) = .noTable from
      checkStrap_short short]
    rfl
  · have check : checkStrap (strapPoints (houseTaken s).gauge.pend) = .order 0 :=
      (congrArg checkStrap split).trans (checkStrap_raised more raised)
    rw [commits takes, commitStrap, check]
    rfl
  · have long : 2 ≤ ps.length := by simp [split]; omega
    have check : checkStrap (strapPoints (houseTaken s).gauge.pend) = .order (before.length + 1) := by
      refine (checkStrap_level long level).trans ?_
      rw [split, strapDisorder_first ascending falls, Nat.add_comm]
      rfl
    rw [commits takes, commitStrap, check]
    rfl
  · have check : checkStrap (strapPoints (houseTaken s).gauge.pend) = .good := by
      refine (checkStrap_level long level).trans ?_
      rw [strapDisorder_none ascending]
      rfl
    have done : commitStrap (houseTaken s) =
        ([0], (handBand s.gauge.band ((houseTaken s).onGauge Gauge.commit)).onOil Oil.unbase) := by
      rw [commitStrap, check]
      rfl
    have only := handBand_bandOnly s.gauge.band ((houseTaken s).onGauge Gauge.commit)
    have gauge : (handBand s.gauge.band ((houseTaken s).onGauge Gauge.commit)).gauge = s.gauge.commit :=
      handBand_gauge_unknown rfl
    refine ⟨_, commits takes, ?_⟩
    rw [done]
    generalize handBand s.gauge.band ((houseTaken s).onGauge Gauge.commit) = u at only gauge
    have final : (answered r.tag [0] (u.onOil Oil.unbase)).gauge = s.gauge.commit := gauge
    dsimp only
    rw [final]
    refine ⟨strapPoints_cutTable _, rfl, cutTable_length _, fun i e held after => cutTable_after held after, rfl, rfl, rfl,
      rfl, rfl, rfl, ?_, ?_⟩
    · rw [BandOnly] at only
      rw [← final, only]
      rfl
    · exact congrArg (Option.map HouseEntry.frame) List.getLast?_concat

end Sys2Proof.Machine
end

section
/-! A valid sample: the level arithmetic, the smoothing and the rise watch (O41). -/

namespace Sys2Proof.Machine

/-! ### The volume through a table (R124) -/

/-- Up to a point whose depth is not above the head, the table is passed over. -/
theorem volumeAt_skip {h : Nat} {before after : List (Nat × Nat)} {p : Nat × Nat}
    (ascending : (before ++ p :: after).Pairwise fun a b => a.1 < b.1) (reached : p.1 ≤ h) :
    volumeAt h (before ++ p :: after) = volumeAt h (p :: after) := by
  induction before with
  | nil => rfl
  | cons x before ih =>
    obtain ⟨-, later⟩ := List.pairwise_cons.1 ascending
    have rest := ih later
    have next : ∀ y ∈ (before ++ p :: after).head?, y.1 ≤ h := by
      cases before with
      | nil =>
        rintro y ⟨⟩
        exact reached
      | cons y before =>
        rintro z ⟨⟩
        have below := (List.pairwise_cons.1 later).1 p (List.mem_append_right _ List.mem_cons_self)
        omega
    cases shape : before ++ p :: after with
    | nil => simp at shape
    | cons y ys =>
      have passed : ¬h < y.1 := Nat.not_lt.2 (next y (by simp [shape]))
      rw [shape] at rest
      rw [List.cons_append, shape, ← rest]
      exact if_neg passed

/-! ### A valid sample in the fault runs (R121) -/

theorem invalidKind_valid {t c : Nat} (low : 2800 ≤ c) (high : c ≤ 3300) (opened : 205 ≤ t) (shorted : t ≤ 3890) :
    invalidKind t c = none := by
  rw [invalidKind, if_neg (by omega), if_neg (by omega), if_neg (by omega)]

theorem Gauge.validRuns_clear {g : Gauge} (clears : g.fault = false ∨ 2 ≤ g.validRun) :
    g.validRuns = { g with
      fault := false, invalidRun := 0, validRun := if g.fault then 0 else g.validRun } := by
  by_cases fault : g.fault = true
  · have third : ¬g.validRun < 2 := Nat.not_lt.2 (clears.resolve_left (by simp [fault]))
    simp [Gauge.validRuns, fault, third]
  · rw [Gauge.validRuns, if_neg fault, if_neg fault, ← Bool.eq_false_iff.2 fault]

theorem Gauge.validRuns_stays {g : Gauge} (fault : g.fault = true) (short : g.validRun < 2) :
    g.validRuns = { g with validRun := g.validRun + 1 } := by
  simp [Gauge.validRuns, fault, short]

/-- The gauge with the values of a valid sample stored and the fault runs cleared (R119, R121 to R124). -/
def Gauge.sampled (t c : Nat) (g : Gauge) : Gauge :=
  let n := normalised t c
  { g with
    conv := .idle, sampleCount := g.sampleCount + 1, lastT := some t, lastS := some c, lastN := some n
    lastH := some (g.head n), lastV := some (volumeAt (g.head n) (strapPoints g.live))
    fault := false, invalidRun := 0, validRun := if g.fault then 0 else g.validRun }

section valid

variable {t c v : Nat} {g : Gauge}

theorem Gauge.takeVolume_noTable (state : g.state = .noTable) : g.takeVolume v = (g, {}) := by
  simp only [Gauge.takeVolume, state]

theorem Gauge.takeVolume_fault (state : g.state = .fault) : g.takeVolume v = ({ g with lastV := some v }, {}) := by
  simp only [Gauge.takeVolume, state]

theorem Gauge.takeVolume_valid (state : g.state = .valid) :
    g.takeVolume v =
      let seen : Gauge := { g with lastV := some v }
      if g.sFlag then
        if g.rising then ((seen.follow v).1.setBand, { rise := (seen.follow v).2 }) else ((seen.watch v).setBand, {})
      else ({ seen with s10 := 10 * v, sFlag := true }.setBand, { first := true }) := by
  simp only [Gauge.takeVolume, state]

/-- A valid sample of a gauge that reports a volume takes that volume (R125 to R129). -/
theorem Gauge.takeSample_reports (valid : invalidKind t c = none) (clears : g.fault = false ∨ 2 ≤ g.validRun)
    (tables : 2 ≤ (strapPoints g.live).length) :
    g.takeSample t c = (g.sampled t c).takeVolume (volumeAt (g.head (normalised t c)) (strapPoints g.live)) := by
  have runs : (g.recordCounts t c).validRuns = { g.recordCounts t c with
      fault := false, invalidRun := 0, validRun := if g.fault then 0 else g.validRun } := Gauge.validRuns_clear clears
  have state : (g.sampled t c).state = .valid := by
    simp [Gauge.state, Gauge.sampled, Nat.not_lt.2 tables]
  have stored : ∀ lastV, ({ g.sampled t c with lastV := lastV } : Gauge).takeVolume
      (volumeAt (g.head (normalised t c)) (strapPoints g.live)) =
        (g.sampled t c).takeVolume (volumeAt (g.head (normalised t c)) (strapPoints g.live)) := fun lastV =>
    (Gauge.takeVolume_valid (g := { g.sampled t c with lastV := lastV }) state).trans (Gauge.takeVolume_valid state).symm
  rw [Gauge.takeSample, valid, ← stored g.lastV]
  exact congrArg (fun r : Gauge => ({ r with
      lastN := some (normalised t c), lastH := some (r.head (normalised t c)) } : Gauge).takeVolume
        (volumeAt (r.head (normalised t c)) (strapPoints g.live))) runs

end valid

/-! ### The smoothing and the rise watch (R125 to R129) -/

/-- What the smoothing and the rise watch leave of a gauge. -/
structure Gauge.SampleKept (g w : Gauge) : Prop where
  conv : w.conv = g.conv
  sampleCount : w.sampleCount = g.sampleCount
  lastT : w.lastT = g.lastT
  lastS : w.lastS = g.lastS
  lastN : w.lastN = g.lastN
  lastH : w.lastH = g.lastH
  lastV : w.lastV = g.lastV
  fault : w.fault = g.fault
  band : w.band = g.band
  dryT : w.dryT = g.dryT
  lowT : w.lowT = g.lowT
  bandHyst : w.bandHyst = g.bandHyst
  live : w.live = g.live
  supplyFault : w.supplyFault = g.supplyFault
  openInput : w.openInput = g.openInput
  shortInput : w.shortInput = g.shortInput

theorem Gauge.watch_kept (v : Nat) (g : Gauge) :
    g.SampleKept (g.watch v) ∧ (g.watch v).sFlag = g.sFlag ∧ (g.watch v).s10 = smoothed g.shift g.s10 v := by
  unfold Gauge.watch
  split
  · split <;> exact ⟨⟨rfl, rfl, rfl, rfl, rfl, rfl, rfl, rfl, rfl, rfl, rfl, rfl, rfl, rfl, rfl, rfl⟩, rfl, rfl⟩
  · exact ⟨⟨rfl, rfl, rfl, rfl, rfl, rfl, rfl, rfl, rfl, rfl, rfl, rfl, rfl, rfl, rfl, rfl⟩, rfl, rfl⟩

theorem Gauge.follow_kept (v : Nat) (g : Gauge) :
    g.SampleKept (g.follow v).1 ∧ (g.follow v).1.sFlag = g.sFlag ∧ (g.follow v).1.s10 = 10 * v ∧
    (g.follow v).1.peak = max g.peak v ∧ (g.follow v).1.settleRun = g.settleNext v := by
  unfold Gauge.follow
  dsimp only
  split
  · exact ⟨⟨rfl, rfl, rfl, rfl, rfl, rfl, rfl, rfl, rfl, rfl, rfl, rfl, rfl, rfl, rfl, rfl⟩, rfl, rfl, rfl, rfl⟩
  · split <;> exact ⟨⟨rfl, rfl, rfl, rfl, rfl, rfl, rfl, rfl, rfl, rfl, rfl, rfl, rfl, rfl, rfl, rfl⟩, rfl, rfl, rfl, rfl⟩

/-- The band after a sample, by the band before and the smoothed volume (R129). -/
theorem Gauge.SampleKept.judged {g w : Gauge} (kept : g.SampleKept w) : w.setBand.band =
    if g.band = .low then
      (if w.s10 / 10 < g.dryT then .dry else if g.lowT + g.bandHyst ≤ w.s10 / 10 then .normal else .low)
    else if g.band = .dry then
      (if g.lowT + g.bandHyst ≤ w.s10 / 10 then .normal else if g.dryT + g.bandHyst ≤ w.s10 / 10 then .low else .dry)
    else if w.s10 / 10 < g.dryT then .dry else if w.s10 / 10 < g.lowT then .low else .normal := by
  rw [Gauge.setBand, Gauge.judgeBand_eq, kept.band, kept.dryT, kept.lowT, kept.bandHyst]
  rfl

theorem Gauge.watch_below {v : Nat} {g : Gauge} (below : v < g.litres + g.delivery) :
    g.watch v = { g.smooth v with candRun := 0 } := by
  simp [Gauge.watch, Gauge.candidate, Nat.not_le.2 below]

theorem Gauge.watch_first {v : Nat} {g : Gauge} (above : g.litres + g.delivery ≤ v) (run : g.candRun = 0) :
    g.watch v = { g.smooth v with before := g.litres, candRun := 1, candMax := v } := by
  simp [Gauge.watch, Gauge.candidate, above, run]

theorem Gauge.watch_second {v : Nat} {g : Gauge} (above : g.litres + g.delivery ≤ v) (run : g.candRun = 1) :
    g.watch v = { g.smooth v with candRun := 2, candMax := max g.candMax v } := by
  simp [Gauge.watch, Gauge.candidate, above, run]

theorem Gauge.watch_third {v : Nat} {g : Gauge} (above : g.litres + g.delivery ≤ v) (run : 2 ≤ g.candRun) :
    g.watch v = { g.smooth v with rising := true, candRun := 0, settleRun := 0, peak := max g.candMax v } := by
  obtain ⟨k, more⟩ := Nat.exists_eq_add_of_le' run
  simp [Gauge.watch, Gauge.candidate, above, more]

section sampled

variable {t c : Nat} {g : Gauge}

theorem Gauge.sampled_state (tables : 2 ≤ (strapPoints g.live).length) : (g.sampled t c).state = .valid := by
  simp [Gauge.state, Gauge.sampled, Nat.not_lt.2 tables]

/-! The three ways of a volume taken: the first one, the watch and the rise that is followed (R125, R127, R128). -/

section ways

variable (valid : invalidKind t c = none) (clears : g.fault = false ∨ 2 ≤ g.validRun)
  (tables : 2 ≤ (strapPoints g.live).length)

include valid clears tables

theorem Gauge.takeSample_first (unset : g.sFlag = false) : g.takeSample t c =
    ({ g.sampled t c with s10 := 10 * volumeAt (g.head (normalised t c)) (strapPoints g.live), sFlag := true }.setBand,
      { first := true }) := by
  rw [Gauge.takeSample_reports valid clears tables, Gauge.takeVolume_valid (Gauge.sampled_state tables)]
  exact if_neg (by simp [Gauge.sampled, unset])

theorem Gauge.takeSample_watched (flag : g.sFlag = true) (level : g.rising = false) : g.takeSample t c =
    (((g.sampled t c).watch (volumeAt (g.head (normalised t c)) (strapPoints g.live))).setBand, {}) := by
  rw [Gauge.takeSample_reports valid clears tables, Gauge.takeVolume_valid (Gauge.sampled_state tables)]
  exact (if_pos flag).trans (if_neg (by simp [Gauge.sampled, level]))

theorem Gauge.takeSample_followed (flag : g.sFlag = true) (rising : g.rising = true) : g.takeSample t c =
    (((g.sampled t c).follow (volumeAt (g.head (normalised t c)) (strapPoints g.live))).1.setBand,
      { rise := ((g.sampled t c).follow (volumeAt (g.head (normalised t c)) (strapPoints g.live))).2 }) := by
  rw [Gauge.takeSample_reports valid clears tables, Gauge.takeVolume_valid (Gauge.sampled_state tables)]
  exact (if_pos flag).trans (if_pos rising)

/-- However the volume is taken, the band is judged last. -/
theorem Gauge.takeSample_judges : ∃ w handed, g.takeSample t c = (w.setBand, handed) ∧
    (g.sampled t c).SampleKept w ∧ w.sFlag = true ∧ handed.invalid = none := by
  by_cases flag : g.sFlag = true
  · by_cases rising : g.rising = true
    · obtain ⟨kept, same, -⟩ := (g.sampled t c).follow_kept (volumeAt (g.head (normalised t c)) (strapPoints g.live))
      exact ⟨_, _, Gauge.takeSample_followed valid clears tables flag rising, kept, same.trans flag, rfl⟩
    · obtain ⟨kept, same, -⟩ := (g.sampled t c).watch_kept (volumeAt (g.head (normalised t c)) (strapPoints g.live))
      exact ⟨_, _, Gauge.takeSample_watched valid clears tables flag (Bool.eq_false_iff.2 rising), kept,
        same.trans flag, rfl⟩
  · exact ⟨_, _, Gauge.takeSample_first valid clears tables (Bool.eq_false_iff.2 flag),
      ⟨rfl, rfl, rfl, rfl, rfl, rfl, rfl, rfl, rfl, rfl, rfl, rfl, rfl, rfl, rfl, rfl⟩, rfl, rfl⟩

end ways

/-- A valid sample that reports no volume, for want of a table or in FAULT (R121, R122). -/
theorem Gauge.takeSample_silent (valid : invalidKind t c = none)
    (silent : ¬2 ≤ (strapPoints g.live).length ∨ (g.fault = true ∧ g.validRun < 2)) :
    let stays := g.fault = true ∧ g.validRun < 2
    g.takeSample t c = ({ g with
      conv := .idle, sampleCount := g.sampleCount + 1, lastT := some t, lastS := some c, lastN := some (normalised t c)
      lastH := some (g.head (normalised t c))
      lastV := if 2 ≤ (strapPoints g.live).length then some (volumeAt (g.head (normalised t c)) (strapPoints g.live))
        else g.lastV
      fault := decide stays
      invalidRun := if stays then g.invalidRun else 0
      validRun := if stays then g.validRun + 1 else if g.fault then 0 else g.validRun }, {}) := by
  intro stays
  rw [Gauge.takeSample, valid]
  by_cases still : stays
  · have runs : (g.recordCounts t c).validRuns = { g.recordCounts t c with validRun := g.validRun + 1 } :=
      Gauge.validRuns_stays still.1 still.2
    simp only [Gauge.validSample, runs, if_pos still, decide_eq_true still]
    by_cases tables : 2 ≤ (strapPoints g.live).length
    · refine (Gauge.takeVolume_fault ?_).trans ?_
      · simp [Gauge.state, Gauge.recordCounts, still.1, Nat.not_lt.2 tables]
      · rw [if_pos tables, ← still.1]
        rfl
    · refine (Gauge.takeVolume_noTable ?_).trans ?_
      · simp [Gauge.state, Gauge.recordCounts, Nat.not_le.1 tables]
      · rw [if_neg tables, ← still.1]
        rfl
  · have tables := silent.resolve_right still
    have clears : g.fault = false ∨ 2 ≤ g.validRun := by
      by_cases fault : g.fault = true
      · exact .inr (Nat.not_lt.1 fun short => still ⟨fault, short⟩)
      · exact .inl (Bool.eq_false_iff.2 fault)
    have runs : (g.recordCounts t c).validRuns = { g.recordCounts t c with
        fault := false, invalidRun := 0, validRun := if g.fault then 0 else g.validRun } := Gauge.validRuns_clear clears
    simp only [Gauge.validSample, runs, if_neg still, decide_eq_false still, if_neg tables]
    refine (Gauge.takeVolume_noTable ?_).trans rfl
    simp [Gauge.state, Gauge.recordCounts, Nat.not_le.1 tables]

end sampled

/-- Settles O41. -/
theorem validSampleIsSmoothed : Obligations.ValidSampleIsSmoothed := by
  refine ⟨?_, ?_, ?_, ?_⟩
  · intro t c g low high opened shorted clears tables n h v u handed
    have valid := invalidKind_valid low high opened shorted
    obtain ⟨w, handed', taken, kept, flagged, none⟩ := Gauge.takeSample_judges valid clears tables
    have after : u = w.setBand := congrArg Prod.fst taken
    have judged : u.band = _ := (congrArg Gauge.band after).trans kept.judged
    have tenths : w.s10 = u.s10 := (congrArg Gauge.s10 after).symm
    rw [tenths] at judged
    refine ⟨(congrArg Gauge.lastN after).trans kept.lastN, (congrArg Gauge.lastH after).trans kept.lastH,
      (congrArg Gauge.lastV after).trans kept.lastV, (congrArg Gauge.fault after).trans kept.fault,
      (congrArg Gauge.sFlag after).trans flagged, (congrArg (fun x => x.2.invalid) taken).trans none,
      fun unset => ?_, fun set level => ?_, ?_, fun band => ?_, fun band => ?_, fun band => ?_⟩
    · have first := Gauge.takeSample_first valid clears tables unset
      exact ⟨congrArg (fun x => x.1.s10) first, congrArg Prod.snd first, congrArg (fun x => x.1.rising) first,
        congrArg (fun x => x.1.candRun) first⟩
    · have watched := Gauge.takeSample_watched valid clears tables set level
      have seen : u = ((g.sampled t c).watch v).setBand := congrArg Prod.fst watched
      have s10 : u.s10 = smoothed g.shift g.s10 v := (congrArg Gauge.s10 seen).trans (Gauge.watch_kept v _).2.2
      refine ⟨congrArg Prod.snd watched, fun falls => ?_, fun rises => ?_, fun below => ?_, fun above run => ?_,
        fun above run => ?_⟩
      · exact s10.trans (if_neg (Nat.not_le.2 falls))
      · exact s10.trans (if_pos rises)
      · rw [seen, Gauge.watch_below (g := g.sampled t c) below]
        exact ⟨rfl, level⟩
      · obtain run | run : g.candRun = 0 ∨ g.candRun = 1 := by omega
        · rw [seen, Gauge.watch_first (g := g.sampled t c) above run, run]
          exact ⟨rfl, level, fun _ => rfl⟩
        · rw [seen, Gauge.watch_second (g := g.sampled t c) above run, run]
          exact ⟨rfl, level, fun zero => absurd zero (by decide)⟩
      · rw [seen, Gauge.watch_third (g := g.sampled t c) above run]
        exact ⟨rfl, rfl, rfl⟩
    · intro set rises settle
      have followed := Gauge.takeSample_followed valid clears tables set rises
      have seen : u = ((g.sampled t c).follow v).1.setBand := congrArg Prod.fst followed
      have rise : handed = { rise := ((g.sampled t c).follow v).2 } := congrArg Prod.snd followed
      obtain ⟨-, -, s10, peak, run⟩ := Gauge.follow_kept v (g.sampled t c)
      refine ⟨(congrArg Gauge.s10 seen).trans s10, (congrArg Gauge.peak seen).trans peak,
        (congrArg Gauge.settleRun seen).trans run, fun waits => ?_, fun settled higher => ?_, fun settled lower => ?_⟩
      · have follows : (g.sampled t c).follow v = _ := if_pos waits
        rw [seen, rise, follows]
        exact ⟨rises, rfl⟩
      · have follows : (g.sampled t c).follow v = _ := (if_neg (Nat.not_lt.2 settled)).trans (if_pos higher)
        rw [seen, rise, follows]
        exact ⟨rfl, rfl, rfl⟩
      · have follows : (g.sampled t c).follow v = _ :=
          (if_neg (Nat.not_lt.2 settled)).trans (if_neg (Nat.not_lt.2 lower))
        rw [seen, rise, follows]
        exact ⟨rfl, rfl, rfl⟩
    · rw [judged, if_neg, if_neg]
      · rfl
      · rcases band with band | band <;> simp [Gauge.sampled, band]
      · rcases band with band | band <;> simp [Gauge.sampled, band]
    · rw [judged, if_pos (by simpa [Gauge.sampled] using band)]
      rfl
    · rw [judged, if_neg (by simp [Gauge.sampled, band]), if_pos (by simpa [Gauge.sampled] using band)]
      rfl
  · intro t c g low high opened shorted tables stays silent
    exact Gauge.takeSample_silent (invalidKind_valid low high opened shorted) silent
  · intro before after p q h ascending reached short
    rw [volumeAt_skip ascending reached]
    exact if_pos short
  · intro before p h ascending reached
    rw [volumeAt_skip ascending reached]
    rfl

end Sys2Proof.Machine
end

section
/-! What a taken sample hands on, and an invalid sample (O40). -/

namespace Sys2Proof.Machine

/-! ### What the blocks that are told of a band leave of the accounts and the attention word -/

/-- A step that changes of the accounts the idle watch alone and clears no attention bit. -/
structure Told (s t : State) : Prop where
  watch : t.oil = { s.oil with armed := t.oil.armed, checkpoint := t.oil.checkpoint }
  bits : ∀ w, s.mgmt.attn &&& w = w → t.mgmt.attn &&& w = w

theorem Told.refl (s : State) : Told s s := ⟨rfl, fun _ => id⟩

theorem Told.of_eq {s t : State} (oil : t.oil = s.oil) (attn : t.mgmt.attn = s.mgmt.attn) : Told s t :=
  ⟨by rw [oil], fun w stands => by rwa [attn]⟩

theorem Told.trans {s t u : State} (first : Told s t) (second : Told t u) : Told s u where
  watch := by
    have before := first.watch
    rw [second.watch, before]
  bits w := second.bits w ∘ first.bits w

theorem raise_told (n : Notice) (s : State) : Told s (raise n s) :=
  ⟨by simp, fun _ => raise_keeps_bit⟩

theorem postInternal_told (n : Internal) (s : State) : Told s (postInternal n s) := .of_eq rfl rfl

theorem judgeDemand_told (s : State) : Told s (judgeDemand s) := by
  refine ⟨?_, fun w stands => by simpa using stands⟩
  unfold judgeDemand
  (repeat' split) <;> rfl

theorem judged_told {s u : State} (oil : u.oil = s.oil) (attn : u.mgmt.attn = s.mgmt.attn) : Told s (judgeDemand u) :=
  (Told.of_eq oil attn).trans (judgeDemand_told u)

theorem rotationEvent_told (f : Rotation → Rotation) (s : State) : Told s (rotationEvent f s) := by
  rw [rotationEvent_eq]
  split
  · exact .of_eq rfl rfl
  · exact judged_told rfl rfl

theorem handOver_told (z : Fin 8) (old new : Option Nat) (s : State) : Told s (handOver z old new s) := by
  unfold handOver
  split
  · exact rotationEvent_told _ s
  · exact rotationEvent_told _ s
  · split
    · exact .refl s
    · exact rotationEvent_told _ s
  · exact .refl s

theorem evaluateZone_told (i : Fin 8) (s : State) : Told s (evaluateZone i s) := by
  have stored : Told s (storeEvaluated i ((s.zone i).evaluate s.gauge.band s.clock) s) := .of_eq rfl rfl
  refine (stored.trans ?_).trans (handOver_told _ _ _ _)
  unfold zoneAttention
  split
  · exact raise_told _ _
  · exact .refl _

theorem evaluateAll_told (s : State) : Told s (evaluateAll s) := by
  have all : ∀ l : List (Fin 8), ∀ u, Told u (l.foldl (fun u i => evaluateZone i u) u) := by
    intro l
    induction l with
    | nil => exact fun u => .refl u
    | cons i l ih => exact fun u => (evaluateZone_told i u).trans (ih _)
  exact all _ s

theorem recovTo_told (st : RecState) (timer : Option Nat) (s : State) : Told s (recovTo st timer s) := by
  unfold recovTo
  exact judged_told rfl rfl

theorem enterWait_told (st : RecState) (s : State) : Told s (enterWait st s) := by
  unfold enterWait
  split
  · exact .refl s
  · exact (recovTo_told _ _ _).trans (raise_told _ _)

theorem dueCheck_told (s : State) : Told s (dueCheck s) := by
  unfold dueCheck
  split
  · exact enterWait_told _ s
  split
  · exact enterWait_told _ s
  split
  · exact enterWait_told _ s
  split
  · split
    · exact .refl s
    · exact recovTo_told _ _ s
  split
  · unfold enterHard
    split
    · exact .refl s
    · exact ((recovTo_told _ _ _).trans (raise_told _ _)).trans (postInternal_told _ _)
  · have recorded : Told s (addRecord s.clock .auto .pending (addBudget s.clock s)) := .of_eq (by simp) (by simp)
    exact recorded.trans (recovTo_told _ _ _)

theorem dueTrigger_told (s : State) : Told s (dueTrigger s) := by
  unfold dueTrigger
  split
  · exact dueCheck_told s
  · exact .refl s

theorem bandNotices_told (s : State) : Told s (bandNotices s) := by
  unfold bandNotices
  split
  · exact .refl s
  · exact (raise_told _ _).trans (postInternal_told _ _)
  · exact .refl s
  · exact (raise_told _ _).trans (postInternal_told _ _)
  · exact postInternal_told _ _
  · exact postInternal_told _ _
  · exact .refl s

theorem handBand_told (old : Band) (s : State) : Told s (handBand old s) := by
  unfold handBand
  split
  · exact .refl s
  · exact ((((evaluateAll_told s).trans (judgeDemand_told _)).trans (dueTrigger_told _)).trans (bandNotices_told _)).trans
      (.of_eq rfl rfl)

/-! ### The handoffs of a sample (R135) -/

/-- An UNKNOWN band is told without a notice and without becoming the last known one (R130). -/
theorem handBand_unknown {old : Band} {s : State} (unknown : s.gauge.band = .unknown) : handBand old s =
    if old = .unknown then s else dueTrigger (judgeDemand (evaluateAll s)) := by
  have gauge : (dueTrigger (judgeDemand (evaluateAll s))).gauge = s.gauge := by simp
  have silent : ∀ u : State, u.gauge.band = .unknown → bandNotices u = u ∧ u.onGauge Gauge.knowBand = u := by
    intro u band
    exact ⟨by simp [bandNotices, band], by simp [State.onGauge, Gauge.knowBand, band]⟩
  obtain ⟨notices, known⟩ := silent _ ((congrArg Gauge.band gauge).trans unknown)
  rw [handBand, unknown, notices, known]

/-- The gauge with other values of the last known band and of the report (R130, R135). -/
def Gauge.ReportOnly (g h : Gauge) : Prop :=
  h = { g with lastBand := h.lastBand, reportDue := h.reportDue, reportTimer := h.reportTimer, reportDropped := h.reportDropped }

theorem handBand_reportOnly (old : Band) (s : State) : s.gauge.ReportOnly (handBand old s).gauge := by
  unfold handBand
  split
  · rfl
  · have same := bandTold_gauge s
    unfold Gauge.ReportOnly
    simp only [State.onGauge_gauge, same]
    unfold Gauge.knowBand
    split <;> rfl

theorem gaugeReported_reportOnly (kind : Nat) (s : State) : s.gauge.ReportOnly (gaugeReported kind s).gauge := by
  by_cases due : s.gauge.reportDue = true
  · simp [gaugeReported, due, Gauge.ReportOnly]
  · have same : gaugeReported kind s = s := if_neg due
    rw [same]
    rfl

theorem handFault_gauge (old : Bool) (before : Option Nat) (k : Option InvalidKind) (s : State) :
    (handFault old before k s).gauge = s.gauge := by
  unfold handFault
  (repeat' split) <;> simp

theorem handRise_gauge (h : Handoff) (s : State) : (handRise h s).gauge = s.gauge := by
  unfold handRise
  split <;> simp

theorem exec_sampleTaken {s : State} (on : s.powered = true) {t c : BitVec 12} (conv : s.gauge.conv = .tank c) :
    exec (.sampleTaken t) s = .next (handSample s.gauge (s.gauge.takeSample t.toNat c.toNat).2
      (s.onGauge fun _ => (s.gauge.takeSample t.toNat c.toNat).1)) := by
  have works : exec (.sampleTaken t) s = .next (sampleTaken t s) := whenOn_powered on
  rw [works, sampleTaken, conv]
  rfl

/-- The gauge after a taken sample: the sample's values, with the band and the report handed on. -/
theorem handSample_gauge (old : Gauge) (h : Handoff) (s : State) : s.gauge.ReportOnly (handSample old h s).gauge := by
  have told := handBand_reportOnly old.band (handFault old.fault old.reported h.invalid s)
  have sent := gaugeReported_reportOnly (h.invalid.elim 0 InvalidKind.code)
    (handRise h (handReport h (handBand old.band (handFault old.fault old.reported h.invalid s))))
  rw [handFault_gauge] at told
  rw [← handGaugeReport_eq, handRise_gauge, (handReport_frame _ _).2.2.2.2.2.2.2.2.2.2.1] at sent
  rw [handSample, (reconcileAfterSample_frame _).2.2.2.2.2.2.2.2.2.2.1]
  unfold Gauge.ReportOnly at *
  rw [sent, told]

/-! ### An invalid sample (R120, R121) -/

section invalid

variable {t c : Nat} {g : Gauge} {k : InvalidKind}

theorem invalidKind_iff : (∃ k, invalidKind t c = some k) ↔ ((c < 2800 ∨ 3300 < c) ∨ t < 205 ∨ 3890 < t) := by
  unfold invalidKind
  split
  · simp [*]
  split
  · simp [*]
  split <;> simp [*]

theorem invalidKind_code (invalid : invalidKind t c = some k) :
    k.code = if c < 2800 ∨ 3300 < c then 1 else if t < 205 then 2 else 3 := by
  unfold invalidKind at invalid
  split at invalid
  · cases invalid
    exact (if_pos ‹_›).symm
  split at invalid
  · cases invalid
    exact ((if_neg ‹_›).trans (if_pos ‹_›)).symm
  split at invalid
  · cases invalid
    exact ((if_neg ‹_›).trans (if_neg ‹_›)).symm
  · cases invalid

theorem Gauge.takeSample_invalid (invalid : invalidKind t c = some k) :
    g.takeSample t c = ((g.recordCounts t c).invalidSample k, { invalid := some k }) := by
  rw [Gauge.takeSample, invalid]

theorem Gauge.countInvalid_kept (k : InvalidKind) (g : Gauge) :
    (g.countInvalid k).fault = g.fault ∧ (g.countInvalid k).invalidRun = g.invalidRun ∧
    (g.countInvalid k).validRun = g.validRun ∧ (g.countInvalid k).band = g.band := by
  cases k <;> exact ⟨rfl, rfl, rfl, rfl⟩

theorem Gauge.countInvalid_values (k : InvalidKind) (g : Gauge) :
    (g.countInvalid k).conv = g.conv ∧ (g.countInvalid k).sampleCount = g.sampleCount ∧
    (g.countInvalid k).lastT = g.lastT ∧ (g.countInvalid k).lastS = g.lastS ∧ (g.countInvalid k).s10 = g.s10 ∧
    (g.countInvalid k).lastN = g.lastN ∧ (g.countInvalid k).lastH = g.lastH ∧ (g.countInvalid k).lastV = g.lastV := by
  cases k <;> exact ⟨rfl, rfl, rfl, rfl, rfl, rfl, rfl, rfl⟩

theorem Gauge.invalidSample_cases (k : InvalidKind) (g : Gauge) :
    (g.fault = true ∧ g.invalidSample k = { g.countInvalid k with candRun := 0, settleRun := 0, validRun := 0 }) ∨
    (g.fault = false ∧ g.invalidRun < 2 ∧ g.invalidSample k =
      { g.countInvalid k with candRun := 0, settleRun := 0, invalidRun := g.invalidRun + 1 }) ∨
    (g.fault = false ∧ 2 ≤ g.invalidRun ∧ g.invalidSample k = { g.countInvalid k with
      candRun := 0, settleRun := 0, rising := false, sFlag := false, band := .unknown, fault := true, invalidRun := 0
      validRun := 0 }) := by
  by_cases fault : g.fault = true
  · exact .inl ⟨fault, if_pos fault⟩
  · by_cases early : g.invalidRun < 2
    · exact .inr (.inl ⟨Bool.eq_false_iff.2 fault, early, (if_neg fault).trans (if_pos early)⟩)
    · exact .inr (.inr ⟨Bool.eq_false_iff.2 fault, Nat.not_lt.1 early, (if_neg fault).trans (if_neg early)⟩)

/-- What every invalid sample leaves, whatever the fault runs say (R119, R120). -/
theorem Gauge.invalidSample_kept (k : InvalidKind) (g : Gauge) :
    let u := g.invalidSample k
    u.conv = g.conv ∧ u.sampleCount = g.sampleCount ∧ u.lastT = g.lastT ∧ u.lastS = g.lastS ∧ u.candRun = 0 ∧
    u.settleRun = 0 ∧ u.s10 = g.s10 ∧ u.lastN = g.lastN ∧ u.lastH = g.lastH ∧ u.lastV = g.lastV ∧
    u.supplyFault = (g.countInvalid k).supplyFault ∧ u.openInput = (g.countInvalid k).openInput ∧
    u.shortInput = (g.countInvalid k).shortInput := by
  intro u
  obtain ⟨conv, count, t, s, s10, n, h, v⟩ := g.countInvalid_values k
  obtain ⟨-, next⟩ | ⟨-, -, next⟩ | ⟨-, -, next⟩ := g.invalidSample_cases k
  all_goals
    rw [show u = _ from next]
    exact ⟨conv, count, t, s, rfl, rfl, s10, n, h, v, rfl, rfl, rfl⟩

/-- The fault runs after an invalid sample (R121). -/
theorem Gauge.invalidSample_runs (k : InvalidKind) (g : Gauge) :
    let u := g.invalidSample k
    (g.fault = true → u.fault = true ∧ u.validRun = 0 ∧ u.band = g.band) ∧
    (g.fault = false → g.invalidRun < 2 →
      u.fault = false ∧ u.invalidRun = g.invalidRun + 1 ∧ u.validRun = g.validRun ∧ u.band = g.band) ∧
    (g.fault = false → 2 ≤ g.invalidRun →
      u.fault = true ∧ u.sFlag = false ∧ u.band = .unknown ∧ u.rising = false ∧ u.validRun = 0) := by
  intro u
  obtain ⟨fault, runs, valids, band⟩ := g.countInvalid_kept k
  obtain ⟨set, next⟩ | ⟨unset, early, next⟩ | ⟨unset, third, next⟩ := g.invalidSample_cases k
  all_goals rw [show u = _ from next]
  · exact ⟨fun _ => ⟨fault.trans set, rfl, band⟩, fun unset => absurd set (Bool.eq_false_iff.1 unset),
      fun unset => absurd set (Bool.eq_false_iff.1 unset)⟩
  · exact ⟨fun set => absurd set (Bool.eq_false_iff.1 unset), fun _ _ => ⟨fault.trans unset, rfl, valids, band⟩,
      fun _ third => absurd early (Nat.not_lt.2 third)⟩
  · exact ⟨fun set => absurd set (Bool.eq_false_iff.1 unset), fun _ early => absurd third (Nat.not_le.2 early),
      fun _ _ => ⟨rfl, rfl, rfl, rfl, rfl⟩⟩

/-- A valid sample, whether a volume is reported or not: its counts, its level and the fault runs (R119, R121). -/
theorem Gauge.takeSample_valid (valid : invalidKind t c = none) :
    let u := (g.takeSample t c).1
    u.conv = .idle ∧ u.sampleCount = g.sampleCount + 1 ∧ u.lastT = some t ∧ u.lastS = some c ∧
    u.fault = (g.fault && decide (g.validRun < 2)) ∧ u.lastN = some (normalised t c) ∧ u.supplyFault = g.supplyFault ∧
    u.openInput = g.openInput ∧ u.shortInput = g.shortInput := by
  intro u
  by_cases silent : ¬2 ≤ (strapPoints g.live).length ∨ (g.fault = true ∧ g.validRun < 2)
  · rw [show u = _ from congrArg Prod.fst (Gauge.takeSample_silent valid silent)]
    exact ⟨rfl, rfl, rfl, rfl, by simp, rfl, rfl, rfl, rfl⟩
  · obtain ⟨tables, short⟩ := not_or.1 silent
    have clears : g.fault = false ∨ 2 ≤ g.validRun := by
      by_cases fault : g.fault = true
      · exact .inr (Nat.not_lt.1 fun early => short ⟨fault, early⟩)
      · exact .inl (Bool.eq_false_iff.2 fault)
    obtain ⟨w, handed, taken, kept, -⟩ := Gauge.takeSample_judges valid clears (Classical.not_not.1 tables)
    have after : u = w.setBand := congrArg Prod.fst taken
    have healthy : (g.fault && decide (g.validRun < 2)) = false := by simpa using short
    rw [after, healthy]
    exact ⟨kept.conv, kept.sampleCount, kept.lastT, kept.lastS, kept.fault, kept.lastN, kept.supplyFault, kept.openInput,
      kept.shortInput⟩

end invalid

/-! ### The accounts after the handoffs (R143) -/

/-- A reconciliation waits: it is marked, or its timer has run out (R143). -/
abbrev ReconcileWaits (now : Clock) (o : Oil) : Prop :=
  o.based = true ∧ (o.due = true ∨ (o.timerRuns = true ∧ o.reconcileHours * 3600 ≤ age now (o.rebaseTime.getD 0)))

theorem reconcileAfterSample_eq (s : State) :
    reconcileAfterSample s = if ReconcileWaits s.clock s.oil then reconcileOrMark s else s := by
  simp only [reconcileAfterSample, reconcileReached, ReconcileWaits, Bool.and_eq_true, Bool.or_eq_true, decide_eq_true_eq]

theorem Told.reconcileWaits {s t : State} (told : Told s t) (now : Clock) :
    ReconcileWaits now t.oil ↔ ReconcileWaits now s.oil := by
  rw [told.watch]

/-- The handoffs of an invalid sample: the fault, the band and the GAUGE report (R135, R145). -/
theorem handSample_invalid (old : Gauge) (k : InvalidKind) (s : State) :
    handSample old { invalid := some k } s = reconcileAfterSample
      (gaugeReported k.code (handBand old.band (handFault old.fault old.reported (some k) s))) := by
  rw [handSample, handGaugeReport_eq]
  rfl

@[simp] theorem gaugeReported_frame (kind : Nat) (s : State) :
    (gaugeReported kind s).oil = s.oil ∧ (gaugeReported kind s).mgmt = s.mgmt ∧ (gaugeReported kind s).clock = s.clock := by
  by_cases due : s.gauge.reportDue = true
  · simp [gaugeReported, due]
  · have same : gaugeReported kind s = s := if_neg due
    simp [same]

end Sys2Proof.Machine
end

section
/-! An invalid sample through its handoffs (O40). -/

namespace Sys2Proof.Machine

theorem Gauge.ReportOnly.reported {g h : Gauge} (only : g.ReportOnly h) :
    h.reported = g.reported ∧ h.rising = g.rising ∧ h.candRun = g.candRun := by
  rw [Gauge.ReportOnly] at only
  rw [only]
  exact ⟨rfl, rfl, rfl⟩

/-- The third invalid sample in a row is handed on as a fault (R121, R135 step 1, R150). -/
theorem handFault_enters {s : State} (fault : s.gauge.fault = true) (before : Option Nat) (k : InvalidKind) :
    handFault false before (some k) s = raise { bit := .gauge, code := 0x0A, value1 := k.code } (s.onOil fun o => { o with
      events := (if o.events.length < 16 then o.events else o.events.drop 1) ++
        [⟨.gaugeFault, s.clock, before, none, 0, none⟩] }) := by
  have recorded : (s.onOil fun o => o.addEvent ⟨.gaugeFault, s.clock, before, none, 0, none⟩) = s.onOil fun o => { o with
      events := (if o.events.length < 16 then o.events else o.events.drop 1) ++
        [⟨.gaugeFault, s.clock, before, none, 0, none⟩] } := by
    simp only [Oil.addEvent, joinBounded_eq]
  rw [← recorded, handFault, if_neg (by simp [fault]), if_pos fault]
  rfl

theorem handFault_same {old : Bool} {s : State} (same : s.gauge.fault = old) (before : Option Nat)
    (k : Option InvalidKind) : handFault old before k s = s := if_pos same.symm

theorem handBand_same {old : Band} {s : State} (same : s.gauge.band = old) : handBand old s = s := if_pos same.symm

theorem handFault_oil (old : Bool) (before : Option Nat) (k : Option InvalidKind) (s : State) :
    (handFault old before k s).oil = { s.oil with events := (handFault old before k s).oil.events } := by
  unfold handFault
  split
  · rfl
  split <;> simp [Oil.addEvent]

theorem reconcileOrMark_keeps_bit {w : BitVec 16} {s : State} (stands : s.mgmt.attn &&& w = w) :
    (reconcileOrMark s).mgmt.attn &&& w = w := by
  unfold reconcileOrMark
  split
  · split
    · exact stands
    · exact raiseAll_keeps_bit stands
  · exact stands

theorem reconcileAfterSample_keeps_bit {w : BitVec 16} {s : State} (stands : s.mgmt.attn &&& w = w) :
    (reconcileAfterSample s).mgmt.attn &&& w = w := by
  rw [reconcileAfterSample_eq]
  split
  · exact reconcileOrMark_keeps_bit stands
  · exact stands

section handed

variable {s : State} {t c : Nat} {k : InvalidKind}

/-- The gauge after an invalid sample. -/
abbrev invalidGauge (t c : Nat) (k : InvalidKind) (g : Gauge) : Gauge := (g.recordCounts t c).invalidSample k

/-- An invalid sample handed to the blocks in front of the report (R121, R130, R135). -/
abbrev invalidTold (t c : Nat) (k : InvalidKind) (s : State) : State :=
  handBand s.gauge.band (handFault s.gauge.fault s.gauge.reported (some k) (s.onGauge fun _ => invalidGauge t c k s.gauge))

theorem invalidTold_fault (healthy : s.gauge.fault = false) (third : 2 ≤ s.gauge.invalidRun) :
    let noticed := raise { bit := .gauge, code := 0x0A, value1 := k.code }
      ((s.onGauge fun _ => invalidGauge t c k s.gauge).onOil fun o => { o with
        events := (if o.events.length < 16 then o.events else o.events.drop 1) ++
          [⟨.gaugeFault, s.clock, s.gauge.reported, none, 0, none⟩] })
    invalidTold t c k s =
      if s.gauge.band = .unknown then noticed else dueTrigger (judgeDemand (evaluateAll noticed)) := by
  intro noticed
  obtain ⟨-, -, runs⟩ := Gauge.invalidSample_runs k (s.gauge.recordCounts t c)
  obtain ⟨fault, -, band, -⟩ := runs healthy third
  have entered : handFault s.gauge.fault s.gauge.reported (some k) (s.onGauge fun _ => invalidGauge t c k s.gauge) =
      noticed := by
    rw [healthy]
    exact handFault_enters fault _ _
  rw [invalidTold, entered]
  exact handBand_unknown (by simpa [noticed] using band)

theorem invalidTold_quiet (quiet : ¬(s.gauge.fault = false ∧ 2 ≤ s.gauge.invalidRun)) :
    invalidTold t c k s = s.onGauge fun _ => invalidGauge t c k s.gauge := by
  obtain ⟨inFault, early, -⟩ := Gauge.invalidSample_runs k (s.gauge.recordCounts t c)
  have same : (invalidGauge t c k s.gauge).fault = s.gauge.fault ∧ (invalidGauge t c k s.gauge).band = s.gauge.band := by
    by_cases fault : s.gauge.fault = true
    · obtain ⟨set, -, band⟩ := inFault fault
      exact ⟨set.trans fault.symm, band⟩
    · have healthy := Bool.eq_false_iff.2 fault
      obtain ⟨unset, -, -, band⟩ := early healthy (Nat.not_le.1 fun third => quiet ⟨healthy, third⟩)
      exact ⟨unset.trans healthy.symm, band⟩
  have handed : handFault s.gauge.fault s.gauge.reported (some k) (s.onGauge fun _ => invalidGauge t c k s.gauge) =
      s.onGauge fun _ => invalidGauge t c k s.gauge := handFault_same same.1 _ _
  rw [invalidTold, handed]
  exact handBand_same same.2

theorem invalidTold_accounts (now : Clock) : (ReconcileWaits now (invalidTold t c k s).oil ↔ ReconcileWaits now s.oil) ∧
    (invalidTold t c k s).oil.daysToDry = s.oil.daysToDry := by
  have told := handBand_told s.gauge.band
    (handFault s.gauge.fault s.gauge.reported (some k) (s.onGauge fun _ => invalidGauge t c k s.gauge))
  have oil := handFault_oil s.gauge.fault s.gauge.reported (some k) (s.onGauge fun _ => invalidGauge t c k s.gauge)
  refine ⟨(told.reconcileWaits now).trans ?_, ?_⟩
  · rw [oil]
    rfl
  · rw [told.watch, oil]
    rfl

theorem invalidTold_clock : (invalidTold t c k s).clock = s.clock := by
  have fault : (handFault s.gauge.fault s.gauge.reported (some k)
      (s.onGauge fun _ => invalidGauge t c k s.gauge)).clock = s.clock := by
    unfold handFault
    (repeat' split) <;> simp
  rw [invalidTold, (handBand_frame _ _).2.2.2.2.1, fault]

/-- The bit of a gauge fault stands set after the handoffs of its sample (R121, R174). -/
theorem handSample_sets_gauge (healthy : s.gauge.fault = false) (third : 2 ≤ s.gauge.invalidRun) :
    (handSample s.gauge { invalid := some k } (s.onGauge fun _ => invalidGauge t c k s.gauge)).mgmt.attn &&&
      AttnBit.gauge.word ≠ 0 := by
  obtain ⟨-, -, runs⟩ := Gauge.invalidSample_runs k (s.gauge.recordCounts t c)
  obtain ⟨fault, -⟩ := runs healthy third
  have set : (handFault s.gauge.fault s.gauge.reported (some k)
      (s.onGauge fun _ => invalidGauge t c k s.gauge)).mgmt.attn &&& AttnBit.gauge.word = AttnBit.gauge.word := by
    rw [healthy, handFault_enters fault]
    exact raise_sets_bit _ _
  have told := (handBand_told s.gauge.band _).bits _ set
  rw [handSample_invalid]
  rw [reconcileAfterSample_keeps_bit (w := AttnBit.gauge.word) (by rwa [(gaugeReported_frame _ _).2.1])]
  decide

theorem invalidTold_eq : invalidTold t c k s =
    if s.gauge.fault = false ∧ 2 ≤ s.gauge.invalidRun then
      (if s.gauge.band = .unknown then
          raise { bit := .gauge, code := 0x0A, value1 := k.code }
            ((s.onGauge fun _ => invalidGauge t c k s.gauge).onOil fun o => { o with
              events := (if o.events.length < 16 then o.events else o.events.drop 1) ++
                [⟨.gaugeFault, s.clock, s.gauge.reported, none, 0, none⟩] })
        else dueTrigger (judgeDemand (evaluateAll
          (raise { bit := .gauge, code := 0x0A, value1 := k.code }
            ((s.onGauge fun _ => invalidGauge t c k s.gauge).onOil fun o => { o with
              events := (if o.events.length < 16 then o.events else o.events.drop 1) ++
                [⟨.gaugeFault, s.clock, s.gauge.reported, none, 0, none⟩] })))))
    else s.onGauge fun _ => invalidGauge t c k s.gauge := by
  by_cases enters : s.gauge.fault = false ∧ 2 ≤ s.gauge.invalidRun
  · rw [if_pos enters]
    exact invalidTold_fault enters.1 enters.2
  · rw [if_neg enters]
    exact invalidTold_quiet enters

/-- What the report of the sample leaves for the reconciliation: the accounts as they were, and the gauge of the sample. -/
theorem invalidSent (kind : Nat) :
    let sent := gaugeReported kind (invalidTold t c k s)
    (ReconcileWaits sent.clock sent.oil ↔ ReconcileWaits s.clock s.oil) ∧ sent.clock = s.clock ∧
    sent.oil.daysToDry = s.oil.daysToDry ∧ sent.gauge.reported = (invalidGauge t c k s.gauge).reported ∧
    sent.gauge.rising = (invalidGauge t c k s.gauge).rising ∧ sent.gauge.candRun = 0 := by
  intro sent
  obtain ⟨oil, -, clock⟩ := gaugeReported_frame kind (invalidTold t c k s)
  have now : sent.clock = s.clock := clock.trans invalidTold_clock
  obtain ⟨waits, days⟩ := invalidTold_accounts (s := s) (t := t) (c := c) (k := k) s.clock
  obtain ⟨reported, rising, cand⟩ := (gaugeReported_reportOnly kind (invalidTold t c k s)).reported
  obtain ⟨reported', rising', cand'⟩ := (handBand_reportOnly s.gauge.band (handFault s.gauge.fault s.gauge.reported (some k)
    (s.onGauge fun _ => invalidGauge t c k s.gauge))).reported
  rw [handFault_gauge] at reported' rising' cand'
  obtain ⟨-, -, -, -, none, -⟩ := Gauge.invalidSample_kept k (s.gauge.recordCounts t c)
  refine ⟨?_, now, ?_, reported.trans reported', rising.trans rising', (cand.trans cand').trans none⟩
  · rw [now, show sent.oil = _ from oil]
    exact waits
  · rw [show sent.oil = _ from oil]
    exact days

end handed

/-- A reconciliation leaves the days to dry for the sample report (R149). -/
theorem Oil.reconcile_daysToDry (now : Clock) (v : Nat) (o : Oil) : (o.reconcile now v).1.daysToDry = o.daysToDry := by
  unfold Oil.reconcile Oil.reconcileRecord
  (repeat' split) <;> rfl

/-- Settles O40. -/
theorem invalidSampleIsTaken : Obligations.InvalidSampleIsTaken := by
  intro t c s on conv
  have only := handSample_gauge s.gauge (s.gauge.takeSample t.toNat c.toNat).2
    (s.onGauge fun _ => (s.gauge.takeSample t.toNat c.toNat).1)
  refine ⟨_, exec_sampleTaken on conv, ?_⟩
  cases invalid : invalidKind t.toNat c.toNat with
  | none =>
    obtain ⟨idle, count, lastT, lastS, fault, lastN, supply, opened, shorted⟩ := Gauge.takeSample_valid (g := s.gauge) invalid
    generalize handSample _ _ _ = u at only ⊢
    have good : ¬((c.toNat < 2800 ∨ 3300 < c.toNat) ∨ t.toNat < 205 ∨ 3890 < t.toNat) := by
      rw [← invalidKind_iff, invalid]
      simp
    rw [Gauge.ReportOnly] at only
    rw [only]
    refine ⟨idle, count, lastT, lastS, fun bad => absurd bad good, fun bad => absurd bad good, ⟨fun bad => ?_, fun _ _ bad => ?_,
      fun _ _ bad => ?_⟩, fun _ => ⟨fault, lastN, supply, opened, shorted⟩⟩
    · exact absurd (.inl bad) good
    · exact absurd (.inr (.inl bad)) good
    · exact absurd (.inr (.inr bad)) good
  | some k =>
    have code := invalidKind_code invalid
    have bad : (c.toNat < 2800 ∨ 3300 < c.toNat) ∨ t.toNat < 205 ∨ 3890 < t.toNat := invalidKind_iff.1 ⟨k, invalid⟩
    rw [Gauge.takeSample_invalid invalid] at only ⊢
    obtain ⟨idle, count, lastT, lastS, cand, settle, s10, lastN, lastH, lastV, supply, opened, shorted⟩ :=
      Gauge.invalidSample_kept k (s.gauge.recordCounts t.toNat c.toNat)
    obtain ⟨inFault, early, third⟩ := Gauge.invalidSample_runs k (s.gauge.recordCounts t.toNat c.toNat)
    have bit := handSample_sets_gauge (s := s) (t := t.toNat) (c := c.toNat) (k := k)
    have handed := handSample_invalid s.gauge k (s.onGauge fun _ => invalidGauge t.toNat c.toNat k s.gauge)
    obtain ⟨waits, clock, days, reported, rising, still⟩ :=
      invalidSent (s := s) (t := t.toNat) (c := c.toNat) (k := k) k.code
    have told := invalidTold_eq (s := s) (t := t.toNat) (c := c.toNat) (k := k)
    change _ = reconcileAfterSample (gaugeReported k.code (invalidTold t.toNat c.toNat k s)) at handed
    rw [reconcileAfterSample_eq] at handed
    dsimp only at only ⊢ bit handed
    generalize handSample _ _ _ = u at only bit handed ⊢
    have gauge := only
    rw [Gauge.ReportOnly] at gauge
    refine ⟨?_, ?_, ?_, ?_, fun _ => ?_, fun _ => ?_, ?_, fun good => absurd bad good⟩
    · rw [gauge]
      exact idle
    · rw [gauge]
      exact count
    · rw [gauge]
      exact lastT
    · rw [gauge]
      exact lastS
    · rw [gauge]
      refine ⟨cand, settle, s10, lastN, lastH, lastV, ?_, fun healthy few => ?_, fun healthy many => ?_⟩
      · by_cases fault : s.gauge.fault = true
        · rw [if_pos fault]
          exact (inFault fault).2.1
        · have healthy := Bool.eq_false_iff.2 fault
          rw [if_neg fault]
          by_cases few : s.gauge.invalidRun < 2
          · rw [if_pos few]
            exact (early healthy few).2.2.1
          · rw [if_neg few]
            exact (third healthy (Nat.not_lt.1 few)).2.2.2.2
      · obtain ⟨unset, run, -, band⟩ := early healthy few
        exact ⟨unset, run, band⟩
      · obtain ⟨set, flag, band, level, -⟩ := third healthy many
        exact ⟨set, flag, band, level, bit healthy many⟩
    · rw [← code, ← told]
      generalize gaugeReported k.code (invalidTold t.toNat c.toNat k s) = sent at *
      refine ⟨fun none => ?_, fun waiting' marks => ?_, fun v waiting' volume level => ?_⟩
      · exact handed.trans (if_neg (mt waits.1 none))
      · rw [handed, if_pos (waits.2 waiting')]
        refine reconcileOrMark_marks ?_
        rw [reported, rising]
        exact marks.elim .inl fun rises => .inr (.inl rises)
      · rw [handed, if_pos (waits.2 waiting'), reconcileOrMark_works (reported.trans volume) (rising.trans level) still]
        simp only [oilTakes_oil, clock]
        obtain ⟨-, based, base, used, -, -, time, due, -⟩ := Oil.reconcile_rebased s.clock v sent.oil
        refine ⟨by simp, based, base, used, time, due, ?_⟩
        exact (Oil.reconcile_daysToDry s.clock v sent.oil).trans days
    · have values : u.gauge.supplyFault = ((s.gauge.recordCounts t.toNat c.toNat).countInvalid k).supplyFault ∧
          u.gauge.openInput = ((s.gauge.recordCounts t.toNat c.toNat).countInvalid k).openInput ∧
          u.gauge.shortInput = ((s.gauge.recordCounts t.toNat c.toNat).countInvalid k).shortInput := by
        rw [gauge]
        exact ⟨supply, opened, shorted⟩
      refine ⟨fun out => ?_, fun low high below => ?_, fun low high above => ?_⟩
      · rw [invalidKind, if_pos out] at invalid
        cases invalid
        exact values
      · rw [invalidKind, if_neg (by omega), if_pos below] at invalid
        cases invalid
        exact values
      · rw [invalidKind, if_neg (by omega), if_neg (by omega), if_pos above] at invalid
        cases invalid
        exact values

end Sys2Proof.Machine
end

section
/-! The pool of posts: internal notices, withdrawals and expiries (O46, O47). -/

namespace Sys2Proof.Machine

/-! ### Tags (R153) -/

theorem freeTag_lt (tags : List Nat) (n c : Nat) : freeTag tags n c < 16 := by
  induction n generalizing c with
  | zero => exact Nat.mod_lt _ (by decide)
  | succ n ih =>
    unfold freeTag
    split
    · exact ih _
    · exact Nat.mod_lt _ (by decide)

theorem Postbox.nextTag_lt (d : Byte) (b : Postbox) : b.nextTag d < 16 := freeTag_lt _ _ _

theorem Postbox.nextTag_taken {d : Byte} {b : Postbox} (few : (b.of d).length ≤ 4) :
    TagTaken b.posts d b.tagCounter (b.nextTag d) := by
  have length : ((b.of d).map (·.tag)).length = (b.of d).length := List.length_map _
  obtain ⟨k, near, found, free, passed⟩ := freeTag_spec ((b.of d).map (·.tag)) b.tagCounter (by omega)
  refine ⟨k, by omega, found, fun p mem dest same => free ?_, fun j less => ?_⟩
  · have held : p.tag ∈ (b.of d).map (·.tag) := List.mem_map_of_mem (List.mem_filter.2 ⟨mem, decide_eq_true dest⟩)
    rw [same] at held
    exact found ▸ held
  · obtain ⟨p, mem, same⟩ := List.mem_map.1 (passed j less)
    obtain ⟨mem, dest⟩ := List.mem_filter.1 mem
    exact ⟨p, mem, of_decide_eq_true dest, same⟩

/-! ### Internal notices (R157 to R159) -/

theorem Post.unsentInternal_iff {d : Byte} {codes : List Nat} {p : Post} :
    p.unsentInternal d codes = true ↔ UnsentNotice d codes p := by
  simp [Post.unsentInternal, Post.unsent, UnsentNotice, and_assoc]

theorem Post.displaceable_iff {p : Post} : p.displaceable = true ↔ p.internal = true ∧ p.outstanding = false := by
  simp [Post.displaceable]

theorem any_unsent_iff {d : Byte} {codes : List Nat} {posts : List Post} :
    posts.any (Post.unsentInternal d codes) = true ↔ ∃ p ∈ posts, UnsentNotice d codes p := by
  simp [List.any_eq_true, Post.unsentInternal_iff]

theorem any_unsent_false {d : Byte} {codes : List Nat} {posts : List Post}
    (none : ∀ p ∈ posts, ¬UnsentNotice d codes p) : ¬posts.any (Post.unsentInternal d codes) = true := by
  rw [any_unsent_iff]
  exact fun ⟨p, mem, holds⟩ => none p mem holds

theorem firstOf_intro {q : Post → Bool} {P : Post → Prop} {l before after : List Post} {p : Post}
    (test : ∀ x, q x = true ↔ P x) (split : l = before ++ p :: after) (here : P p) (first : ∀ x ∈ before, ¬P x) :
    FirstOf q l before p after :=
  ⟨split, fun x mem => Bool.eq_false_iff.2 (mt (test x).1 (first x mem)), (test p).2 here⟩

/-- The pool with a new internal notice at the tail, with its tag (R153, R157). -/
def NoticeAdded (n : Internal) (now : Clock) (d : Byte) (b : Postbox) (posts : List Post) (t : Postbox) : Prop :=
  ∃ tag, TagTaken posts d b.tagCounter tag ∧ t = { b with
    posts := posts ++ [
      { dest := d, tag := tag, kind := .notice, value := n.code, internal := true, wait := false
        posted := now, expiry := now + 14400 }]
    tagCounter := (tag + 1) % 16 }

theorem add_noticeAdded {n : Internal} {now : Clock} {d : Byte} {b : Postbox} {posts : List Post}
    (few : (posts.filter fun p => decide (p.dest = d)).length ≤ 4) :
    NoticeAdded n now d b posts (({ b with posts := posts } : Postbox).add (internalPost n d now)) :=
  ⟨_, Postbox.nextTag_taken (b := { b with posts := posts }) few, rfl⟩

section place

variable {b : Postbox} {p : Post}

theorem Postbox.place_free (own : (b.of p.dest).length < 4) (room : b.posts.length < 24) : b.place p = b.add p :=
  (if_pos own).trans (if_pos room)

theorem Postbox.place_pool (own : (b.of p.dest).length < 4) (full : 24 ≤ b.posts.length)
    (some : b.posts.any Post.displaceable = true) :
    b.place p = ({ b with posts := removeFirst Post.displaceable b.posts } : Postbox).add p :=
  (if_pos own).trans ((if_neg (Nat.not_lt.2 full)).trans (if_pos some))

theorem Postbox.place_device (own : (b.of p.dest).length = 4) (some : (b.of p.dest).any Post.displaceable = true) :
    b.place p = ({ b with
      posts := removeFirst (fun x => decide (x.dest = p.dest) && x.displaceable) b.posts } : Postbox).add p :=
  (if_neg (by omega)).trans (if_pos some)

theorem Postbox.place_lost_pool (own : (b.of p.dest).length < 4) (full : 24 ≤ b.posts.length)
    (none : ¬b.posts.any Post.displaceable = true) : b.place p = { b with noticeLost := min 65535 (b.noticeLost + 1) } :=
  (if_pos own).trans ((if_neg (Nat.not_lt.2 full)).trans (if_neg none))

theorem Postbox.place_lost_device (own : (b.of p.dest).length = 4)
    (none : ¬(b.of p.dest).any Post.displaceable = true) :
    b.place p = { b with noticeLost := min 65535 (b.noticeLost + 1) } :=
  (if_neg (by omega)).trans (if_neg none)

end place

theorem filter_without {d : Byte} {posts before after : List Post} {p : Post} (split : posts = before ++ p :: after) :
    ((before ++ after).filter fun p => decide (p.dest = d)).length ≤
      (posts.filter fun p => decide (p.dest = d)).length := by
  rw [split]
  exact (((List.sublist_cons_self p after).append_left before).filter _).length_le

theorem boundAddresses_eq (s : State) : boundAddresses s = (List.finRange 8).flatMap fun i =>
    if (s.zone i).enabled then [(s.zone i).slot1.addr, (s.zone i).slot2.addr].filterMap id else [] := by
  have numbers : eightNumbers = List.finRange 8 := by decide
  rw [boundAddresses, numbers]
  congr 1
  funext i
  rcases (s.zone i).slot1.addr with _ | a <;> rcases (s.zone i).slot2.addr with _ | b <;> rfl

/-- Settles O47. -/
theorem internalNoticesArePosted : Obligations.InternalNoticesArePosted := by
  refine ⟨?_, fun n s => ?_⟩
  · intro n now d b few t cancels own addedTo stored lost
    have same : n.cancels = cancels := by cases n <;> rfl
    have added : ∀ {posts : List Post}, NoticeAdded n now d b posts t → addedTo posts := id
    have placed : stored → t = b.place (internalPost n d now) := by
      rintro ⟨noCancel, noUnsent⟩
      refine (if_neg ?_).trans (if_neg (any_unsent_false noUnsent))
      rw [same]
      exact any_unsent_false noCancel
    refine ⟨fun cancelled => ?_, fun before p after none split unsent first => ?_, fun st room total => ?_,
      fun before p after st room full split inside free first => ?_, fun before p after st full split dest inside free first => ?_,
      fun st full none => ?_, fun st room full none => ?_⟩
    · have removed : t = { b with posts := b.posts.filter fun p => !p.unsentInternal d n.cancels } := by
        refine if_pos ?_
        rw [same]
        exact any_unsent_iff.2 cancelled
      rw [removed, same]
      refine congrArg (fun l => { b with posts := l }) (List.filter_congr fun p _ => ?_)
      rw [Bool.eq_iff_iff, decide_eq_true_iff, ← Post.unsentInternal_iff]
      simp
    · have exchanged : t = ({ b with posts := removeFirst (Post.unsentInternal d [n.code]) b.posts } : Postbox).add
          (internalPost n d now) := by
        refine (if_neg ?_).trans (if_pos (any_unsent_iff.2 ⟨p, by simp [split], unsent⟩))
        rw [same]
        exact any_unsent_false none
      have firstOf := firstOf_intro (q := Post.unsentInternal d [n.code]) (P := UnsentNotice d [n.code])
        (fun x => Post.unsentInternal_iff) split unsent first
      rw [firstOf.removeFirst] at exchanged
      exact added (exchanged ▸ add_noticeAdded (Nat.le_trans (filter_without split) few))
    · have place := (placed st).trans (Postbox.place_free room total)
      exact added (place ▸ add_noticeAdded (posts := b.posts) few)
    · have firstOf := firstOf_intro (q := Post.displaceable) (fun x => Post.displaceable_iff) split ⟨inside, free⟩ first
      have place := (placed st).trans (Postbox.place_pool room full
        (List.any_eq_true.2 ⟨p, by simp [split], Post.displaceable_iff.2 ⟨inside, free⟩⟩))
      rw [firstOf.removeFirst] at place
      exact added (place ▸ add_noticeAdded (Nat.le_trans (filter_without split) few))
    · have test : ∀ x : Post, (decide (x.dest = d) && x.displaceable) = true ↔
          x.dest = d ∧ x.internal = true ∧ x.outstanding = false := by simp [Post.displaceable_iff]
      have firstOf := firstOf_intro test split ⟨dest, inside, free⟩ first
      have place := (placed st).trans (Postbox.place_device full (List.any_eq_true.2
        ⟨p, List.mem_filter.2 ⟨by simp [split], decide_eq_true dest⟩, Post.displaceable_iff.2 ⟨inside, free⟩⟩))
      rw [show (internalPost n d now).dest = d from rfl, firstOf.removeFirst] at place
      exact added (place ▸ add_noticeAdded (Nat.le_trans (filter_without split) few))
    · refine (placed st).trans (Postbox.place_lost_device full fun some => ?_)
      obtain ⟨p, mem, here⟩ := List.any_eq_true.1 some
      obtain ⟨mem, dest⟩ := List.mem_filter.1 mem
      obtain ⟨inside, free⟩ := Post.displaceable_iff.1 here
      exact absurd (none p mem (of_decide_eq_true dest) inside) (Bool.eq_false_iff.1 free)
    · refine (placed st).trans (Postbox.place_lost_pool room full fun some => ?_)
      obtain ⟨p, mem, here⟩ := List.any_eq_true.1 some
      obtain ⟨inside, free⟩ := Post.displaceable_iff.1 here
      exact absurd (none p mem inside) (Bool.eq_false_iff.1 free)
  · intro bound
    have addresses : boundAddresses s = bound := boundAddresses_eq s
    rw [postInternal, addresses]
    rfl

/-! ### Withdrawal and expiry (R156, R164, R165) -/

theorem FirstOf.dropPost {q : Post → Bool} {s : State} {before after : List Post} {p : Post}
    (first : FirstOf q s.postbox.posts before p after) :
    dropPost q s = s.onPostbox fun b => { b with posts := before ++ after } := by
  rw [Machine.dropPost, State.onPostbox, first.removeFirst]
  rfl

theorem Post.houseNamed_iff {d : Byte} {tag : Nat} {p : Post} :
    p.houseNamed d tag = true ↔ p.dest = d ∧ p.tag = tag ∧ p.internal = false := by
  simp [Post.houseNamed, Post.named, and_assoc]

theorem Post.named_iff {d : Byte} {tag : Nat} {p : Post} : p.named d tag = true ↔ p.dest = d ∧ p.tag = tag := by
  simp [Post.named]

theorem withdrawRequest_found {d tag : Byte} {p : Post} {s : State}
    (found : s.postbox.posts.find? (Post.houseNamed d tag.toNat) = some p) : withdrawRequest [d, tag] s =
      (answer .done, resolve p .withdrawn (dropPost (Post.houseNamed d tag.toNat) s)) := by
  simp [withdrawRequest, found]

theorem withdrawRequest_missing {d tag : Byte} {s : State}
    (missing : s.postbox.posts.find? (Post.houseNamed d tag.toNat) = Option.none) :
    withdrawRequest [d, tag] s = (answer .abort, s) := by
  simp [withdrawRequest, missing]

/-- Settles O46. -/
theorem postIsWithdrawnOrExpires : Obligations.PostIsWithdrawnOrExpires := by
  intro before after p s on split ended
  refine ⟨fun r d tag takes own params => ?_, fun first => ?_⟩
  · have withdraws : exec (.withdraw r) s = .next (answered r.tag (withdrawRequest r.params (houseTaken s)).1
        (withdrawRequest r.params (houseTaken s)).2) :=
      houseRequest_answered (o := .withdraw) takes own rfl (by rw [params]; rfl) (.inr rfl) (by simp [runOperation])
    rw [withdraws, params]
    refine ⟨fun dest same inside first => ?_, fun none => ?_⟩
    · have firstOf : FirstOf (Post.houseNamed d tag.toNat) (houseTaken s).postbox.posts before p after :=
        firstOf_intro (fun x => Post.houseNamed_iff) split ⟨dest, same, inside⟩ first
      have found : withdrawRequest [d, tag] (houseTaken s) = ([0], ended 3 (houseTaken s)) := by
        have head := withdrawRequest_found (d := d) (tag := tag) (s := houseTaken s) firstOf.find?
        rw [head, firstOf.dropPost]
        rfl
      rw [found]
    · have missing : (houseTaken s).postbox.posts.find? (Post.houseNamed d tag.toNat) = Option.none :=
        List.find?_eq_none.2 fun q mem here => none q mem (Post.houseNamed_iff.1 here)
      have head := withdrawRequest_missing (d := d) (tag := tag) (s := houseTaken s) missing
      rw [head]
      rfl
  · have firstOf : FirstOf (Post.named p.dest p.tag) s.postbox.posts before p after :=
      firstOf_intro (fun x => Post.named_iff) split ⟨rfl, rfl⟩ first
    have expires : exec (.postExpires p.dest p.tag) s = .next (if p.isOver s.clock then
        resolve p .expired (dropPost (Post.named p.dest p.tag) s) else s) := by
      have works : exec (.postExpires p.dest p.tag) s = .next (postExpires p.dest p.tag s) := whenOn_powered on
      rw [works, postExpires, firstOf.find?]
    rw [expires]
    refine ⟨fun past => ?_, fun low high => ?_⟩
    · rw [if_pos ((Post.isOver_iff _ _).2 past), firstOf.dropPost]
      rfl
    · rw [if_neg]
      rw [Post.isOver_iff]
      exact fun past => past.elim (fun zero => by omega) (fun long => absurd high (Nat.not_le.2 long))

end Sys2Proof.Machine
end

section
/-! The posts of the house (O45). -/

namespace Sys2Proof.Machine

/-! ### The checks of a POST (R154 rows 1 to 6) -/

section checks

variable {kind lo hi minutes wait d : Byte}

/-- The value, the lifetime and the wait byte that a POST may carry (R154 row 2). -/
abbrev PostLawful (kind lo hi minutes wait : Byte) : Prop :=
  ((kind = 1 ∧ lo.toNat + 256 * hi.toNat ≤ 300) ∨ (kind = 2 ∧ lo.toNat + 256 * hi.toNat ≤ 1) ∨
    (kind = 3 ∧ 0x40 ≤ lo.toNat + 256 * hi.toNat ∧ lo.toNat + 256 * hi.toNat ≤ 0x7F)) ∧
  1 ≤ minutes ∧ minutes ≤ 240 ∧ wait ≤ 1

/-- The kind that a POST names (12.4). -/
def postNamed (kind : Byte) : PostKind := if kind = 1 then .setpoint else if kind = 2 then .mode else .notice

theorem postNamed_notice (valid : PostLawful kind lo hi minutes wait) : postNamed kind = .notice ↔ kind = 3 := by
  obtain ⟨⟨rfl, _⟩ | ⟨rfl, _⟩ | ⟨rfl, _⟩, _⟩ := valid <;> decide

theorem PostParams.of_fields : PostParams.of [d, kind, lo, hi, minutes, wait] =
    { dest := d, kind := kind, value := lo.toNat + 256 * hi.toNat, minutes := minutes.toNat, wait := wait } := by
  simp [PostParams.of, ofLE]

theorem PostParams.checked_eq :
    (PostParams.of [d, kind, lo, hi, minutes, wait]).checked =
      if (PostKind.ofCode kind).any (fun k => postValueOk k (lo.toNat + 256 * hi.toNat)) = true ∧
          1 ≤ minutes ∧ minutes ≤ 240 ∧ wait ≤ 1 then
        PostKind.ofCode kind else none := by
  have low : 1 ≤ minutes.toNat ↔ 1 ≤ minutes := by bv_omega
  have high : minutes.toNat ≤ 240 ↔ minutes ≤ 240 := by bv_omega
  rw [PostParams.of_fields, PostParams.checked]
  cases PostKind.ofCode kind with
  | none => simp
  | some k => simp [low, high, and_assoc]

theorem PostParams.checked_lawful (valid : PostLawful kind lo hi minutes wait) :
    (PostParams.of [d, kind, lo, hi, minutes, wait]).checked = some (postNamed kind) := by
  obtain ⟨value, life⟩ := valid
  rw [PostParams.checked_eq]
  obtain ⟨rfl, _⟩ | ⟨rfl, _⟩ | ⟨rfl, _⟩ := value
  all_goals
    rw [if_pos ⟨by simp [PostKind.ofCode, postValueOk, *], life⟩]
    rfl

theorem PostParams.checked_unlawful (invalid : ¬PostLawful kind lo hi minutes wait) :
    (PostParams.of [d, kind, lo, hi, minutes, wait]).checked = none := by
  rw [PostParams.checked_eq]
  refine if_neg fun ⟨value, life⟩ => invalid ⟨?_, life⟩
  by_cases one : kind = 1
  · exact .inl ⟨one, by simpa [one, PostKind.ofCode, postValueOk] using value⟩
  by_cases two : kind = 2
  · exact .inr (.inl ⟨two, by simpa [two, PostKind.ofCode, postValueOk] using value⟩)
  by_cases three : kind = 3
  · exact .inr (.inr ⟨three, by simpa [three, PostKind.ofCode, postValueOk] using value⟩)
  rw [PostKind.ofCode, if_neg one, if_neg two, if_neg three] at value
  simp at value

/-- The row of R154 that refuses a POST, the first that applies. -/
def postRefusal (d kind lo hi minutes wait : Byte) (s : State) : Option Byte :=
  if d = 0 ∨ 62 ≤ d then some 0x01
  else if ¬PostLawful kind lo hi minutes wait then some 0x02
  else match lookup d s with
    | none => some 0x0B
    | some e =>
      if e.cls = .blocked then some 0x0A
      else if e.cls ≠ .room then some 0x08
      else if e.guard = true ∧ s.recov.side = .field then some 0x09
      else none

/-- A POST that no row refuses is one of a lawful value, and is placed in the pool. -/
theorem postRequest_eq (s : State) :
    (∀ reason, postRefusal d kind lo hi minutes wait s = some reason →
      postRequest [d, kind, lo, hi, minutes, wait] s = ([5, reason], s)) ∧
    (postRefusal d kind lo hi minutes wait s = none → PostLawful kind lo hi minutes wait ∧
      postRequest [d, kind, lo, hi, minutes, wait] s =
        placePost (PostParams.of [d, kind, lo, hi, minutes, wait]) (postNamed kind) s) := by
  have device : (d = 0 ∨ 62 ≤ d) ↔ ¬(1 ≤ d ∧ d ≤ 61) := by bv_omega
  have dest : (PostParams.of [d, kind, lo, hi, minutes, wait]).dest = d := rfl
  unfold postRefusal postRequest
  simp only [dest]
  by_cases out : d = 0 ∨ 62 ≤ d
  · have foreign : (!deviceAddr d) = true := by
      rw [Bool.not_eq_true', ← Bool.not_eq_true, deviceAddr_iff]
      exact device.1 out
    rw [if_pos out, if_pos foreign]
    exact ⟨fun reason same => Option.some.inj same ▸ rfl, nofun⟩
  have inside : ¬(!deviceAddr d) = true := by
    rw [Bool.not_eq_true', Bool.not_eq_false, deviceAddr_iff]
    exact Classical.not_not.1 (mt device.2 out)
  rw [if_neg out, if_neg inside]
  by_cases valid : PostLawful kind lo hi minutes wait
  · rw [PostParams.checked_lawful valid, if_neg (Classical.not_not.2 valid)]
    dsimp only
    cases lookup d s with
    | none => exact ⟨fun reason same => Option.some.inj same ▸ rfl, nofun⟩
    | some e =>
      dsimp only
      cases cls : e.cls with
      | blocked => exact ⟨fun reason same => Option.some.inj same ▸ rfl, nofun⟩
      | listener => exact ⟨fun reason same => Option.some.inj same ▸ rfl, nofun⟩
      | service => exact ⟨fun reason same => Option.some.inj same ▸ rfl, nofun⟩
      | room =>
        have guarded : (e.guard && fieldClaims s) = true ↔ e.guard = true ∧ s.recov.side = .field := by
          simp [fieldClaims]
        dsimp only
        rw [if_neg (by decide), if_neg (by decide)]
        by_cases claimed : e.guard = true ∧ s.recov.side = .field
        · rw [if_pos claimed, if_pos (guarded.2 claimed)]
          exact ⟨fun reason same => Option.some.inj same ▸ rfl, nofun⟩
        · rw [if_neg claimed, if_neg (mt guarded.1 claimed)]
          exact ⟨nofun, fun _ => ⟨valid, rfl⟩⟩
  · rw [PostParams.checked_unlawful valid, if_pos valid]
    exact ⟨fun reason same => Option.some.inj same ▸ rfl, nofun⟩

end checks

/-! ### Its place in the pool (R154 rows 7 to 11, R155) -/

theorem Post.supersededBy_iff {d : Byte} {k : PostKind} {q : Post} :
    q.supersededBy d k = true ↔ (q.dest = d ∧ q.kind = k) ∧ k ≠ .notice := by
  simp [Post.supersededBy]

theorem Post.refreshedBy_iff {d : Byte} {v : Nat} {q : Post} :
    q.refreshedBy d .notice v = true ↔ q.dest = d ∧ q.kind = .notice ∧ q.internal = false ∧ q.value = v := by
  simp [Post.refreshedBy, and_assoc]

section placed

variable {p : PostParams} {k : PostKind} {s : State} {before after : List Post} {old : Post}

theorem placePost_superseded (first : FirstOf (Post.supersededBy p.dest k) s.postbox.posts before old after) :
    ∃ tag, tag < 16 ∧ ((s.postbox.of p.dest).length ≤ 4 →
        TagTaken (before ++ after) p.dest s.postbox.tagCounter tag) ∧
      placePost p k s = ([2, BitVec.ofNat 8 tag], (resolve old .superseded s).onPostbox fun b => { b with
        posts := before ++ old.superseded p tag s.clock :: after
        tagCounter := (tag + 1) % 16 }) := by
  have tag : supersedeTag p k s.postbox = ({ s.postbox with posts := before ++ after } : Postbox).nextTag p.dest := by
    rw [supersedeTag, first.removeFirst]
  refine ⟨_, tag ▸ Postbox.nextTag_lt _ _, fun few => tag ▸ Postbox.nextTag_taken (b := { s.postbox with
    posts := before ++ after }) (Nat.le_trans (filter_without first.split) few), ?_⟩
  rw [placePost, first.find?]
  dsimp only
  rw [supersede]
  dsimp only [State.onPostbox]
  rw [show (resolve old .superseded s).postbox = s.postbox by simp, first.mapFirst]
  rfl

theorem placePost_refreshed (none : ∀ q ∈ s.postbox.posts, q.supersededBy p.dest k = false)
    (first : FirstOf (Post.refreshedBy p.dest k p.value) s.postbox.posts before old after) :
    placePost p k s = ([2, BitVec.ofNat 8 old.tag], s.onPostbox fun b => { b with posts := before ++ { old with
      expiry := expiryAt s.clock p.minutes, wait := old.wait || decide (p.wait = 1) } :: after }) := by
  rw [placePost, List.find?_eq_none.2 fun q mem => by simp [none q mem], first.find?]
  dsimp only
  rw [refreshPost, changePost, State.onPostbox, first.mapFirst]
  rfl

theorem placePost_new (none : ∀ q ∈ s.postbox.posts, q.supersededBy p.dest k = false)
    (fresh : ∀ q ∈ s.postbox.posts, q.refreshedBy p.dest k p.value = false) :
    placePost p k s = if 4 ≤ (s.postbox.of p.dest).length then ([5, 7], s)
      else if 24 ≤ s.postbox.posts.length then ([5, 6], s)
      else ([2, BitVec.ofNat 8 (s.postbox.nextTag p.dest)], s.onPostbox (·.add (newPost p k s.clock))) := by
  rw [placePost, List.find?_eq_none.2 fun q mem => by simp [none q mem],
    List.find?_eq_none.2 fun q mem => by simp [fresh q mem]]
  rfl

end placed

/-- Settles O45. -/
theorem housePostIsTaken : Obligations.HousePostIsTaken := by
  intro r d kind lo hi minutes wait s takes own params value expiry held valid named refusal
  have posted : exec (.post r) s = .next (answered r.tag
      (postRequest [d, kind, lo, hi, minutes, wait] (houseTaken s)).1
      (postRequest [d, kind, lo, hi, minutes, wait] (houseTaken s)).2) := by
    rw [← params]
    exact houseRequest_answered (o := .post) takes own rfl (by rw [params]; rfl) (.inr rfl) (by simp [runOperation])
  obtain ⟨refused, placed⟩ := postRequest_eq (d := d) (kind := kind) (lo := lo) (hi := hi) (minutes := minutes)
    (wait := wait) (houseTaken s)
  have same : refusal = postRefusal d kind lo hi minutes wait (houseTaken s) := rfl
  rw [posted]
  refine ⟨fun reason row => ?_, fun none => ?_⟩
  · rw [refused reason (same ▸ row)]
  obtain ⟨lawful, place⟩ := placed (same ▸ none)
  have notice : named = .notice ↔ kind = 3 := postNamed_notice lawful
  rw [place]
  refine ⟨fun before p after split dest kept other earlier => ?_, fun before p after split three dest note inside code earlier => ?_,
    fun free => ⟨fun full => ?_, fun room full => ?_, fun room total => ?_⟩⟩
  · have first : FirstOf (Post.supersededBy d named) (houseTaken s).postbox.posts before p after :=
      firstOf_intro (P := fun q => (q.dest = d ∧ q.kind = named) ∧ named ≠ .notice) (fun q => Post.supersededBy_iff) split
        ⟨⟨dest, kept⟩, mt notice.1 other⟩ fun q mem here => earlier q mem here.1
    obtain ⟨tag, small, taken, eq⟩ := placePost_superseded (p := PostParams.of [d, kind, lo, hi, minutes, wait]) first
    refine ⟨tag, small, taken, ?_⟩
    have outcome : PostOutcome.superseded.code = 4 := rfl
    have left : p.superseded (PostParams.of [d, kind, lo, hi, minutes, wait]) tag (houseTaken s).clock =
        { p with
          value := value, tag := tag, expiry := expiry, wait := decide (wait = 1), internal := false
          attempts := 0, outstanding := false } := by
      rw [PostParams.of_fields]
      rfl
    rw [show postNamed kind = named from rfl, eq, left, resolve, resolvedNotice, dest, outcome]
  · have old : ∀ q ∈ (houseTaken s).postbox.posts, q.supersededBy d (postNamed kind) = false := fun q _ => by
      rw [← Bool.not_eq_true, Post.supersededBy_iff]
      exact fun here => here.2 (notice.2 three)
    have first : FirstOf (Post.refreshedBy d (postNamed kind) value) (houseTaken s).postbox.posts before p after := by
      rw [show postNamed kind = .notice from notice.2 three]
      exact firstOf_intro (P := fun q => q.dest = d ∧ q.kind = .notice ∧ q.internal = false ∧ q.value = value)
        (fun q => Post.refreshedBy_iff) split ⟨dest, note, inside, code⟩ earlier
    rw [placePost_refreshed (p := PostParams.of [d, kind, lo, hi, minutes, wait]) old (by rw [PostParams.of_fields]; exact first),
      PostParams.of_fields]
    rfl
  all_goals
    have old : ∀ q ∈ (houseTaken s).postbox.posts, q.supersededBy d (postNamed kind) = false := fun q mem => by
      rw [← Bool.not_eq_true, Post.supersededBy_iff]
      exact fun ⟨⟨dest, kept⟩, other⟩ => (free q (List.mem_filter.2 ⟨mem, decide_eq_true dest⟩)).1 (mt notice.2 other) kept
    have fresh : ∀ q ∈ (houseTaken s).postbox.posts, q.refreshedBy d (postNamed kind) value = false := fun q mem => by
      by_cases three : kind = 3
      · rw [← Bool.not_eq_true, show postNamed kind = .notice from notice.2 three, Post.refreshedBy_iff]
        exact fun ⟨dest, same⟩ => (free q (List.mem_filter.2 ⟨mem, decide_eq_true dest⟩)).2 three same
      · simp [Post.refreshedBy, show ¬postNamed kind = .notice from mt notice.1 three]
    rw [placePost_new (p := PostParams.of [d, kind, lo, hi, minutes, wait]) old (by rw [PostParams.of_fields]; exact fresh),
      PostParams.of_fields]
    dsimp only
  · rw [if_pos (show 4 ≤ ((houseTaken s).postbox.of d).length from full)]
  · rw [if_neg (show ¬4 ≤ ((houseTaken s).postbox.of d).length from Nat.not_le.2 room),
      if_pos (show 24 ≤ (houseTaken s).postbox.posts.length from full)]
  · rw [if_neg (show ¬4 ≤ ((houseTaken s).postbox.of d).length from Nat.not_le.2 room),
      if_neg (show ¬24 ≤ (houseTaken s).postbox.posts.length from Nat.not_le.2 total)]
    exact ⟨_, Postbox.nextTag_taken (b := s.postbox) (Nat.le_of_lt room), rfl⟩

end Sys2Proof.Machine
end

section
/-! The requests that are turned away, and RESTART and RELOAD as requests (O49, O51). -/

namespace Sys2Proof.Machine

/-! ### The form tests of a request (R168, R169) -/

section turned

variable {f : Frame} {r : HouseReq} {op : Byte} {o : MgmtOp} {s : State}

/-- A MGMT frame that its form tests or its operation answer without a restart. -/
theorem houseRequest_mgmt {a : Answer} (takes : HouseTakes f s) (mgmt : f.kind = kindMgmt)
    (answers : manage f (houseTaken s) = (a, houseTaken s)) :
    houseRequest f s = .next (answered f.tag a (houseTaken s)) := by
  rw [houseRequest_taken takes, handleHouse_mgmt _ mgmt, answers]
  exact congrArg _ (offerAnswer_plain takes.2.2.2.1)

theorem houseRequest_foreign (takes : HouseTakes f s) (mgmt : f.kind = kindMgmt) (foreign : f.dest ≠ 0) :
    houseRequest f s = .next (answered f.tag [5, 1] (houseTaken s)) :=
  houseRequest_mgmt takes mgmt (if_pos foreign)

/-- An operation whose parameters are fewer or more than 12.4 gives it. -/
theorem houseRequest_illFormed (takes : HouseTakes (houseFrame op r) s) (own : r.dest = 0)
    (named : MgmtOp.ofCode op = some o) (ill : r.params.length + 1 < o.lengths.1 ∨ o.lengths.2 < r.params.length + 1) :
    houseRequest (houseFrame op r) s = .next (answered r.tag (o.refuse .length) (houseTaken s)) := by
  refine houseRequest_mgmt takes rfl ((manage_known _ own rfl named).trans (if_pos ?_))
  simp only [MgmtOp.formed, Bool.not_and, Bool.or_eq_true, Bool.not_eq_true', decide_eq_false_iff_not]
  omega

/-- Both ways in which the request of a named operation is turned away (R169). -/
theorem houseRequest_turnedAway (named : MgmtOp.ofCode op = some o) {least most : Nat}
    (lengths : o.lengths = (least + 1, most + 1)) (takes : HouseTakes (houseFrame op r) s) :
    (r.dest ≠ 0 → houseRequest (houseFrame op r) s = .next (answered r.tag [5, 1] (houseTaken s))) ∧
    (r.dest = 0 → (r.params.length < least ∨ most < r.params.length) →
      houseRequest (houseFrame op r) s = .next (answered r.tag (o.refuse .length) (houseTaken s))) :=
  ⟨houseRequest_foreign takes rfl, fun own ill => houseRequest_illFormed takes own named (by rw [lengths]; dsimp only; omega)⟩

end turned

theorem MgmtOp.ofCode_none {op : Byte} (outside : op = 0 ∨ 0x10 < op) : MgmtOp.ofCode op = none := by
  rcases outside with zero | high
  · rw [zero]
    rfl
  · have more : 16 < op.toNat := by bv_omega
    unfold MgmtOp.ofCode
    split
    all_goals try omega
    rfl

theorem serviceOperation_unknown {op : Byte} (ps : List Byte) (s : State)
    (unknown : op ∉ ([0x01, 0x0A, 0x0B, 0x0C, 0x11, 0x12] : List Byte)) : serviceOperation op ps s = ([5, 5], s) := by
  simp only [List.mem_cons, List.not_mem_nil, or_false, not_or] at unknown
  obtain ⟨read, select, test, release, reset, clear⟩ := unknown
  rw [serviceOperation, if_neg (show ¬op = opRead from read), if_neg (show ¬op = opClaimSelect from select),
    if_neg (show ¬op = opClaimTest from test), if_neg (show ¬op = opClaimRelease from release),
    if_neg (show ¬op = opServiceReset from reset), if_neg (show ¬op = opClearHard from clear)]
  rfl

/-- Settles O49. -/
theorem unknownRequestsAreTurnedAway : Obligations.UnknownRequestsAreTurnedAway := by
  intro r v op ps f s
  refine ⟨fun takes own params outside => ?_, fun takes own params => ?_, fun takes foreign => ?_,
    fun takes params unknown => ?_, fun on empty fde => ?_, fun takes pass mgmt => ?_, ?_⟩
  · refine houseRequest_mgmt takes rfl ((if_neg (Classical.not_not.2 own)).trans ?_)
    simp only [houseBare, params, MgmtOp.ofCode_none outside]
    rfl
  · refine houseRequest_mgmt takes rfl ((if_neg (Classical.not_not.2 own)).trans ?_)
    simp only [houseBare, params]
    rfl
  · exact houseRequest_foreign takes rfl foreign
  · refine (serviceRequest_taken takes).trans ?_
    simp only [svcBare, params, List.getD_cons_zero, serviceOperation_unknown _ _ unknown]
    exact congrArg _ (fieldEnded_offerSvcans _ _ _)
  · have deaf : ∀ g : Frame, fieldRequest g v.time s = .next (s.reach v.time) := fun g => fieldRequest_deaf on empty fde
    simp only [List.forall_mem_cons]
    exact ⟨deaf _, deaf _, deaf _, deaf _, deaf _, deaf _, deaf _, nofun⟩
  · have drops : exec (.houseKindDrop f) s = houseRequest f s := if_neg (show ¬(f.kind = kindMgmt ∨ f.kind = kindPass) from not_or.2 ⟨mgmt, pass⟩)
    rw [drops, houseRequest_taken takes]
    exact congrArg _ ((if_neg (show ¬f.kind = kindMgmt from mgmt)).trans (if_neg (show ¬f.kind = kindPass from pass)))
  · simp only [List.forall_mem_cons]
    exact ⟨houseRequest_turnedAway (o := .read) rfl rfl, houseRequest_turnedAway (o := .write) rfl rfl,
      houseRequest_turnedAway (o := .commit) rfl rfl, houseRequest_turnedAway (o := .discard) rfl rfl,
      houseRequest_turnedAway (o := .save) rfl rfl, houseRequest_turnedAway (o := .reload) rfl rfl,
      houseRequest_turnedAway (o := .restart) rfl rfl, houseRequest_turnedAway (o := .post) rfl rfl,
      houseRequest_turnedAway (o := .withdraw) rfl rfl, houseRequest_turnedAway (o := .claimSelect) rfl rfl,
      houseRequest_turnedAway (o := .claimTest) rfl rfl, houseRequest_turnedAway (o := .claimRelease) rfl rfl,
      houseRequest_turnedAway (o := .remoteReset) rfl rfl, houseRequest_turnedAway (o := .attnClear) rfl rfl,
      houseRequest_turnedAway (o := .logRead) rfl rfl, houseRequest_turnedAway (o := .status) rfl rfl, nofun⟩

/-! ### RESTART and RELOAD (R177) -/

/-- Settles O51. -/
theorem restartIsRequested : Obligations.RestartIsRequested := by
  intro r s own t marked busy
  refine ⟨fun takes params => ?_, fun takes params => ?_, fun saving => ⟨fun takes few => ?_, fun takes params => ?_,
    fun takes params => ?_, fun takes params => ?_⟩⟩
  · have formed : MgmtOp.formed (r.params.length + 1) .restart = true := by rw [params]; rfl
    split
    next idle => exact houseRequest_operation (o := .restart) takes own rfl formed (.inl idle)
    next saving => exact houseRequest_barred (o := .restart) takes own rfl formed saving rfl
  · have formed : MgmtOp.formed (r.params.length + 1) .reload = true := by rw [params]; rfl
    by_cases saving : s.store.save ≠ none
    · rw [if_pos saving]
      exact houseRequest_barred (o := .reload) takes own rfl formed saving rfl
    · have idle : s.store.save = none := Classical.not_not.1 saving
      have requested : exec (.reload r) s = .next (offerAnswer r.tag (reloadRequest t)) :=
        houseRequest_operation (o := .reload) takes own rfl formed (.inl idle)
      rw [requested, if_neg saving]
      by_cases present : s.store.present = true
      · rw [if_pos present, reloadRequest, if_pos (show t.store.present = true from present)]
        rfl
      · rw [if_neg present, reloadRequest, if_neg (show ¬t.store.present = true from present)]
        exact congrArg _ (offerAnswer_plain takes.2.2.2.1)
  · have formed : MgmtOp.formed (r.params.length + 1) .write = true := by
      obtain ⟨_, fits, _⟩ := takes
      obtain ⟨_, length⟩ := Bool.and_eq_true_iff.1 fits
      have short : r.params.length + 1 ≤ 16 := of_decide_eq_true length
      simp [MgmtOp.formed, MgmtOp.lengths]
      omega
    exact houseRequest_barred (o := .write) takes own rfl formed saving rfl
  · exact houseRequest_barred (o := .commit) takes own rfl (by rw [params]; rfl) saving rfl
  · exact houseRequest_barred (o := .discard) takes own rfl (by rw [params]; rfl) saving rfl
  · exact houseRequest_barred (o := .save) takes own rfl (by rw [params]; rfl) saving rfl

end Sys2Proof.Machine
end

section
/-! The settings store: the image that a SAVE builds, its phases and its end (O52, O53, O54). -/

namespace Sys2Proof.Machine

/-! ### The image (R181, 12.7) -/

section image

variable {m : Memory} {body bs : List Byte}

theorem readBytes_writeBytes (x : Nat) (canonical : Memory.wf m) : Memory.readBytes (m.writeBytes x bs) x bs.length = bs := by
  refine List.ext_getElem (Memory.readBytes_length _ _ _) fun k less small => ?_
  rw [← getD_of_lt 0 less, ← getD_of_lt 0 small, Memory.getD_readBytes _ _ _ _ small,
    Memory.read_writeBytes _ _ _ canonical, if_pos (by omega), Nat.add_sub_cancel_left]

theorem imageOf_eq : imageOf body =
    [BitVec.ofNat 8 774, BitVec.ofNat 8 (774 / 256), Config.layoutVersion, 0] ++ body ++
      [(pairSum (imageSummed body)).1, (pairSum (imageSummed body)).2] := rfl

theorem imageSummed_length (whole : body.length = 768) : (imageSummed body).length = 772 := by
  simp [imageSummed, imageHeader, leBytes, whole]

theorem imageOf_length (whole : body.length = 768) : (imageOf body).length = 774 := by
  simp [imageOf, imageSummed_length whole]

theorem imageGood_imageOf (whole : body.length = 768) : imageGood (imageOf body) = true := by
  have summed : (imageOf body).take 772 = imageSummed body := by
    rw [imageOf, List.take_append_of_le_length (Nat.le_of_eq (imageSummed_length whole).symm), List.take_of_length_le
      (Nat.le_of_eq (imageSummed_length whole))]
  have sum : ((imageOf body).getD 772 0, (imageOf body).getD 773 0) = pairSum (imageSummed body) := by
    simp [imageOf, List.getD_eq_getElem?_getD, List.getElem?_append_right, imageSummed_length whole]
  have length : ofLE ((imageOf body).take 2) = imageLength := rfl
  have version : (imageOf body).getD 2 0 = Config.layoutVersion := rfl
  rw [imageGood, summed, sum, length, version]
  simp

end image

/-- Settles O54. -/
theorem savedImageIsAccepted : Obligations.SavedImageIsAccepted := by
  intro body t whole kept canonical
  have length : (imageOf body).length = 774 := imageOf_length whole
  refine ⟨?_, ?_⟩
  · have read : Memory.readBytes (t.mem.writeBytes 0 (imageOf body)) 0 imageLength = imageOf body := by
      rw [show imageLength = (imageOf body).length from length.symm]
      exact readBytes_writeBytes 0 canonical
    rw [imageAccepted]
    dsimp only
    rw [read, kept, imageGood_imageOf whole]
    rfl
  · refine List.ext_getElem ((Memory.readBytes_length _ _ _).trans whole.symm) fun k less small => ?_
    rw [← getD_of_lt 0 less, ← getD_of_lt 0 small, imageBody,
      Memory.getD_readBytes _ _ _ _ (by omega), Memory.read_writeBytes _ _ _ canonical, if_pos (by omega), imageOf_eq]
    simp [List.getD_eq_getElem?_getD, List.getElem?_append_left, small, Nat.add_comm 4 k]

/-! ### A SAVE and its phases (R182, R183) -/

section phases

variable {s : State} {v : Save}

theorem saveTransferDone_mark (saving : s.store.save = some v) (phase : v.phase = .mark) :
    saveTransferDone true s = s.onStore (·.toPhase .body) := by
  rw [saveTransferDone, saving]
  dsimp only
  rw [phase]
  rfl

theorem saveTransferDone_body (saving : s.store.save = some v) (phase : v.phase = .body) :
    saveTransferDone true s = s.onStore fun t => (t.put 4 (v.image.drop 4)).toPhase .header := by
  rw [saveTransferDone, saving]
  dsimp only
  rw [phase]
  rfl

theorem saveTransferDone_header (saving : s.store.save = some v) (phase : v.phase = .header) :
    saveTransferDone true s = s.onStore fun t => (t.put 0 (v.image.take 4)).toPhase .readback := by
  rw [saveTransferDone, saving]
  dsimp only
  rw [phase]
  rfl

theorem saveTransferDone_fails (saving : s.store.save = some v) (writes : v.phase ≠ .readback) :
    saveTransferDone false s = transferFail v.phase s := by
  rw [saveTransferDone, saving]
  dsimp only
  cases phase : v.phase with
  | readback => exact absurd phase writes
  | mark => rfl
  | body => rfl
  | header => rfl

theorem Store.toPhase_save {t : Store} (saving : t.save = some v) (p : SavePhase) :
    (t.toPhase p).save = some { v with phase := p } := by
  rw [Store.toPhase, saving]
  rfl

theorem startSave_present (present : s.store.present = true) :
    startSave s = (answer .done, s.onStore fun t =>
      { t.put 0 [0, 0] with save := some ⟨.mark, imageOf (snapshot s)⟩, spoilt := false }) :=
  if_pos present

theorem startSave_absent (absent : s.store.present = false) : startSave s = (refuse .noStore, s) :=
  if_neg (by simp [absent])

/-- What a phase leaves that has written `bs` from `a` on. -/
theorem phase_written (canonical : StoreCanonical s) (saving : s.store.save = some v) (a : Nat) (bs : List Byte)
    (p : SavePhase) : ∃ t, s.onStore (fun t => (t.put a bs).toPhase p) = t ∧
      t.store.save = some { v with phase := p } ∧
      (∀ x, Memory.read t.store.mem x = if a ≤ x ∧ x < a + bs.length then bs.getD (x - a) 0 else
        Memory.read s.store.mem x) ∧
      t = { s with store := { s.store with mem := t.store.mem, save := t.store.save } } :=
  ⟨_, rfl, Store.toPhase_save (t := s.store.put a bs) saving p, fun x => Memory.read_writeBytes a bs x canonical, rfl⟩

end phases

/-- Settles O52. -/
theorem saveRuns : Obligations.SaveRuns := by
  intro r s canonical
  refine ⟨fun takes own params idle => ?_, ?_⟩
  · have saves : exec (.save r) s = .next (answered r.tag (startSave (houseTaken s)).1 (startSave (houseTaken s)).2) :=
      houseRequest_answered (o := .save) takes own rfl (by rw [params]; rfl) (.inl idle) (by simp [runOperation])
    refine ⟨fun absent => ?_, fun present => ?_⟩
    · rw [saves, startSave_absent (s := houseTaken s) absent]
      rfl
    · refine ⟨_, by rw [saves, startSave_present (s := houseTaken s) present]; rfl, rfl, fun x => ?_, rfl⟩
      refine (Memory.read_writeBytes 0 [0, 0] x canonical).trans ?_
      by_cases low : x < 2
      · rw [if_pos ⟨by omega, by simpa using low⟩, if_pos low]
        rcases x with _ | _ | x
        · rfl
        · rfl
        · omega
      · rw [if_neg fun inside => low (by simpa using inside.2), if_neg low]
  · intro v on saving whole goes
    have transfer : ∀ ack, exec (.saveTransferDone ack) s = .next (saveTransferDone ack s) := fun ack => whenOn_powered on
    refine ⟨fun phase => ?_, fun phase => ?_, fun phase => ?_, fun writes => ?_⟩
    · refine ⟨s.onStore (·.toPhase .body), ?_, Store.toPhase_save saving .body, fun x => ?_, rfl⟩
      · rw [transfer, saveTransferDone_mark saving phase]
      · rw [if_neg (by omega)]
        rfl
    · obtain ⟨t, eq, save, read, frame⟩ := phase_written canonical saving 4 (v.image.drop 4) .header
      refine ⟨t, by rw [transfer, saveTransferDone_body saving phase, eq], save, fun x => ?_, frame⟩
      have length : 4 + (v.image.drop 4).length = 774 := by simp [whole]
      rw [read x, length]
      refine ite_congr rfl (fun inside => ?_) fun _ => rfl
      rw [List.getD_eq_getElem?_getD, List.getElem?_drop, Nat.add_sub_cancel' inside.1, ← List.getD_eq_getElem?_getD]
    · obtain ⟨t, eq, save, read, frame⟩ := phase_written canonical saving 0 (v.image.take 4) .readback
      refine ⟨t, by rw [transfer, saveTransferDone_header saving phase, eq], save, fun x => ?_, frame⟩
      have length : 0 + (v.image.take 4).length = 4 := by simp [whole]
      rw [read x, length]
      refine ite_congr rfl (fun inside => ?_) fun _ => rfl
      rw [List.getD_eq_getElem?_getD, Nat.sub_zero, List.getElem?_take_of_lt inside.2, ← List.getD_eq_getElem?_getD]
    · exact ⟨(Config.freeWord s.free).toNat, by rw [transfer, saveTransferDone_fails saving writes]; rfl⟩

/-! ### The readback (R182) -/

section readback

variable {image : List Byte} {ds : List (Fin 774 × Byte)} {m : Memory}

/-- The byte at offset `x` was read back other than built. -/
def ReadBackOther (image : List Byte) (ds : List (Fin 774 × Byte)) (x : Nat) : Prop :=
  ∃ d ∈ ds, d.1.val = x ∧ image.getD x 0 ≠ d.2

theorem mem_realDiffs {x : Nat} : x ∈ (realDiffs image ds).map (·.1.val) ↔ ReadBackOther image ds x := by
  simp only [realDiffs, List.mem_map, List.mem_filter, decide_eq_true_iff, ReadBackOther]
  constructor
  · rintro ⟨d, ⟨mem, other⟩, rfl⟩
    exact ⟨d, mem, rfl, other⟩
  · rintro ⟨d, mem, rfl, other⟩
    exact ⟨d, ⟨mem, other⟩, rfl⟩

theorem firstDiff_none (agree : ∀ x, ¬ReadBackOther image ds x) : firstDiff (realDiffs image ds) = none := by
  have empty : (realDiffs image ds).map (·.1.val) = [] :=
    List.eq_nil_iff_forall_not_mem.2 fun x mem => agree x (mem_realDiffs.1 mem)
  rw [firstDiff, empty]
  rfl

theorem firstDiff_least {x : Nat} (other : ReadBackOther image ds x) (least : ∀ y, ReadBackOther image ds y → x ≤ y) :
    firstDiff (realDiffs image ds) = some x :=
  List.min?_eq_some_iff.2 ⟨mem_realDiffs.2 other, fun y mem => least y (mem_realDiffs.1 mem)⟩

theorem read_putDiffs (canonical : Memory.wf m) {y : Nat} (apart : y ∉ ds.map (·.1.val)) :
    Memory.read (ds.foldl (fun m d => m.write d.1.val d.2) m) y = Memory.read m y := by
  induction ds generalizing m with
  | nil => rfl
  | cons d ds ih =>
    rw [List.map_cons, List.mem_cons, not_or] at apart
    rw [List.foldl_cons, ih (Memory.write_wf _ _ canonical) apart.2, Memory.read_write _ _ _ canonical, if_neg apart.1]

theorem imageAccepted_spoilt {t : Store} (spoilt : t.spoilt = true) (ack : Bool) : imageAccepted ack t = false := by
  simp [imageAccepted, spoilt]

end readback

/-- Settles O53. -/
theorem saveEnds : Obligations.SaveEnds := by
  intro v ds s on canonical saving phase differs
  have ends : ∀ ack, exec (.saveReadbackDone ack ds) s = .next (saveReadbackDone ack ds s) := fun ack => whenOn_powered on
  have judged : saveReadbackDone true ds s = match firstDiff (realDiffs v.image ds) with
      | none => raise saveDoneNotice (s.onStore Store.succeeded)
      | some n => saveFail .readback n (s.onStore (·.putDiffs (realDiffs v.image ds))) := by
    rw [saveReadbackDone, saving]
    exact if_pos phase
  refine ⟨fun agree => ?_, fun x other least => ?_, ?_⟩
  · rw [ends, judged, firstDiff_none agree]
    rfl
  · refine ⟨(s.onStore (·.putDiffs (realDiffs v.image ds))).onStore Store.failed, ?_, rfl, rfl, rfl, fun y same => ?_,
      imageAccepted_spoilt rfl, rfl⟩
    · rw [ends, judged, firstDiff_least other least]
      rfl
    · exact read_putDiffs canonical (mt mem_realDiffs.1 same)
  · refine ⟨(Config.freeWord s.free).toNat, ((s.onStore (·.putDiffs [])).drawn).onStore Store.failed, ?_, rfl, rfl, rfl,
      rfl, imageAccepted_spoilt rfl, rfl⟩
    rw [ends, saveReadbackDone, saving]
    exact congrArg _ (if_pos phase)

end Sys2Proof.Machine
end

section
/-! Table space: where each field of 12.6 stands, and what it shows (R170, R186). -/

namespace Sys2Proof.Machine

/-! ### Bytes at a place of a list -/

section holds

variable {α : Type} {l m bs cs : List α} {a b : Nat}

/-- The list holds these elements from place `a` on. -/
def Holds (l : List α) (a : Nat) (bs : List α) : Prop := (l.drop a).take bs.length = bs

theorem holds_iff : Holds l a bs ↔ ∀ i, (h : i < bs.length) → l[a + i]? = some bs[i] := by
  constructor
  · intro held i less
    have same : bs[i]? = ((l.drop a).take bs.length)[i]? := by rw [show (l.drop a).take bs.length = bs from held]
    rw [List.getElem?_take_of_lt less, List.getElem?_drop] at same
    rw [← same, List.getElem?_eq_getElem less]
  · intro each
    refine List.ext_getElem? fun i => ?_
    by_cases less : i < bs.length
    · rw [List.getElem?_take_of_lt less, List.getElem?_drop, each i less, List.getElem?_eq_getElem less]
    · rw [List.getElem?_eq_none (by rw [List.length_take]; omega), List.getElem?_eq_none (by omega)]

theorem Holds.within (outer : Holds l a m) (inner : Holds m b bs) : Holds l (a + b) bs := by
  rw [holds_iff] at *
  intro i less
  have there := inner i less
  obtain ⟨inside, same⟩ := List.getElem?_eq_some_iff.1 there
  rw [Nat.add_assoc, outer (b + i) inside, same]

theorem Holds.append (first : Holds l a bs) (second : Holds l (a + bs.length) cs) : Holds l a (bs ++ cs) := by
  rw [holds_iff] at *
  intro i less
  rw [List.getElem_append]
  split
  next early => exact first i early
  next late =>
    rw [← second (i - bs.length) (by rw [List.length_append] at less; omega), Nat.add_assoc,
      Nat.add_sub_cancel' (Nat.not_lt.1 late)]

theorem Holds.getD {x d : α} (held : Holds l a [x]) : l.getD a d = x := by
  have there : l[a + 0]? = some x := holds_iff.1 held 0 (by simp)
  rw [List.getD_eq_getElem?_getD, show l[a]? = some x from there]
  rfl

theorem holds_prefix (bs cs : List α) : Holds (bs ++ cs) 0 bs := by
  rw [Holds, List.drop_zero, List.take_left]

theorem holds_all (l : List α) : Holds l 0 l := by rw [Holds, List.drop_zero, List.take_length]

/-- A field stands behind the lengths of the fields before it. -/
theorem holds_flatten {fields : List (List α)} {k : Nat} {field : List α} (at_k : fields[k]? = some field) :
    Holds fields.flatten ((fields.map List.length).take k).sum field := by
  induction fields generalizing k with
  | nil => simp at at_k
  | cons f fields ih =>
    cases k with
    | zero =>
      cases at_k
      exact holds_prefix _ _
    | succ k =>
      have behind : Holds (f ++ fields.flatten) f.length fields.flatten := by
        rw [Holds, List.drop_left, List.take_length]
      exact behind.within (ih at_k)

theorem map_length_uniform {fields : List (List α)} {n : Nat} (uniform : ∀ f ∈ fields, f.length = n) :
    fields.map List.length = List.replicate fields.length n :=
  List.eq_replicate_iff.2 ⟨List.length_map _, fun k mem => by
    obtain ⟨f, there, rfl⟩ := List.mem_map.1 mem
    exact uniform f there⟩

/-- Of fields of one length, the field numbered `k`. -/
theorem holds_uniform {fields : List (List α)} {k n : Nat} {field : List α} (uniform : ∀ f ∈ fields, f.length = n)
    (at_k : fields[k]? = some field) : Holds fields.flatten (n * k) field := by
  have inside : k < fields.length := (List.getElem?_eq_some_iff.1 at_k).1
  have held := holds_flatten at_k
  rwa [map_length_uniform uniform, List.take_replicate, List.sum_replicate_nat, Nat.min_eq_left (Nat.le_of_lt inside),
    Nat.mul_comm] at held

theorem flatten_length_uniform {fields : List (List α)} {n : Nat} (uniform : ∀ f ∈ fields, f.length = n) :
    fields.flatten.length = fields.length * n := by
  rw [List.length_flatten, map_length_uniform uniform, List.sum_replicate_nat]

theorem flatten_flatMap {β : Type} (f : β → List (List α)) (xs : List β) :
    (xs.flatMap f).flatten = (xs.map fun x => (f x).flatten).flatten := by
  rw [List.flatMap_def, List.flatten_flatten, List.map_map]
  rfl

end holds

/-! ### The areas of table space (12.6) -/

section areas

variable {s : State}

/-- The areas of table space in address order. -/
def tableAreas (s : State) : List (List (List Byte)) :=
  [identityFields, partFields s, standingFields s.rot, riseFields s.gauge, s.cls.entries.map mapField,
    s.zones.recs.toList.flatMap zoneFields, rotationSettings s.rot, eightNumbers.flatMap (rotationRecord s.clock s.rot),
    outputFields s.clock s.rot, burnerSettings s.burner s.recov, burnerFields s.clock s.burner s.recov,
    gaugeSettings s.gauge, gaugeFields s.clock s.gauge, s.gauge.live.flatMap strapFields,
    s.gauge.pend.flatMap strapFields, oilSettings s.oil, oilFields s.oil, (counterList s).map b2, firingFields s.burner,
    liveFields s, s.zones.recs.toList.flatMap zoneExtras, gap 12, [b2 s.mgmt.enable.toNat] ++ gap 14]

theorem tableSpace_eq (s : State) : tableSpace s = ((tableAreas s).map List.flatten).flatten := by
  rw [← List.flatten_flatten]
  refine congrArg List.flatten ?_
  simp only [tableFields, settingsFields, faultViewFields, tableAreas, List.flatten_cons, List.flatten_nil,
    List.append_assoc, List.append_nil]

theorem unstated_length (now : Clock) (a n : Nat) : (unstated now a n).length = n := by simp [unstated]

theorem leBytes_length (n v : Nat) : (leBytes n v).length = n := by
  induction n generalizing v with
  | zero => rfl
  | succ n ih => simp [leBytes, ih]

theorem secondsField_length (now : Clock) (a n : Nat) (t : Option Nat) : (secondsField now a n t).length = n := by
  cases t
  · exact unstated_length now a n
  · exact leBytes_length n _

theorem tempField_length (t : Option Int) : (tempField t).length = 2 := by cases t <;> rfl

theorem zoneFields_length (z : Zone) : (zoneFields z).flatten.length = 32 := by
  simp [zoneFields, tempField_length, b1, b2, leInt, leBytes_length, addrField, clockField, b4]

theorem zoneExtras_length (z : Zone) : (zoneExtras z).flatten.length = 10 := by
  simp [zoneExtras, tempField_length, b2, leInt, leBytes_length, clockField, b4]

theorem rotationRecord_length (now : Clock) (r : Rotation) (z : Fin 8) : (rotationRecord now r z).flatten.length = 4 := by
  unfold rotationRecord
  split
  · rfl
  · split <;> simp [unstated_length, b1]

theorem outputFields_length (now : Clock) (r : Rotation) : (outputFields now r).flatten.length = 24 := by
  simp [outputFields, travelField, eightNumbers, Eight.toList, secondsField_length, b1, clockField, b4, leBytes_length]

theorem burnerFields_length (now : Clock) (b : Burner) (r : Recovery) : (burnerFields now b r).flatten.length = 48 := by
  simp [burnerFields, secondsField_length, b1, b2, clockField, b4, leBytes_length, gap, budgetFields]

theorem liveFields_length (s : State) : (liveFields s).flatten.length = 52 := by
  have day : ∀ i : Nat, ((s.oil.ring[i]?).elim (unstated s.clock (0x378 + 4 * i) 4) b4).length = 4 := fun i => by
    cases s.oil.ring[i]?
    · exact unstated_length _ _ _
    · rfl
  simp [liveFields, ringFields, b1, b2, b4, leBytes_length, leInt, wordField, day]

theorem flatMap_length {α : Type} {f : α → List (List Byte)} {n : Nat} (uniform : ∀ x, (f x).flatten.length = n)
    (xs : List α) : (xs.flatMap f).flatten.length = xs.length * n := by
  rw [flatten_flatMap, flatten_length_uniform (n := n), List.length_map]
  intro y mem
  obtain ⟨x, _, rfl⟩ := List.mem_map.1 mem
  exact uniform x

/-- The lengths of the areas. -/
def areaLengths : List Nat :=
  [8, 8, 32, 16, 64, 256, 8, 32, 24, 16, 48, 16, 16, 96, 96, 8, 24, 80, 16, 52, 80, 12, 16]

theorem areas_length (map : s.cls.entries.length = 16) (live : s.gauge.live.length = 24) (pend : s.gauge.pend.length = 24) :
    ((tableAreas s).map List.flatten).map List.length = areaLengths := by
  have entries : (s.cls.entries.map mapField).flatten.length = 64 := by
    rw [flatten_length_uniform (n := 4), List.length_map, map]
    intro y mem
    obtain ⟨x, _, rfl⟩ := List.mem_map.1 mem
    rfl
  have counters : ((counterList s).map b2).flatten.length = 80 := by
    rw [flatten_length_uniform (n := 2), List.length_map]
    · rfl
    · intro y mem
      obtain ⟨x, _, rfl⟩ := List.mem_map.1 mem
      rfl
  have zones : s.zones.recs.toList.length = 8 := rfl
  have numbers : eightNumbers.length = 8 := rfl
  have strap : ∀ e : StrapEntry, (strapFields e).flatten.length = 4 := fun _ => rfl
  simp only [tableAreas, List.map_cons, List.map_nil, entries, counters, flatMap_length strap, live, pend,
    flatMap_length zoneFields_length, flatMap_length zoneExtras_length,
    flatMap_length (rotationRecord_length s.clock s.rot), outputFields_length, burnerFields_length, liveFields_length,
    areaLengths, zones, numbers, Nat.reduceMul]
  rfl

/-- Table space as the map and the tables are whole. -/
structure TableWhole (s : State) : Prop where
  map : s.cls.entries.length = 16
  live : s.gauge.live.length = 24
  pend : s.gauge.pend.length = 24

/-- An area stands behind the lengths of the areas before it. -/
theorem TableWhole.area (whole : TableWhole s) (k : Nat) {fields : List (List Byte)} (at_k : (tableAreas s)[k]? = some fields) :
    Holds (tableSpace s) (areaLengths.take k).sum fields.flatten := by
  rw [tableSpace_eq, ← areas_length whole.map whole.live whole.pend]
  exact holds_flatten (by rw [List.getElem?_map, at_k]; rfl)

end areas

end Sys2Proof.Machine
end

section
/-! What table space shows, area by area (12.6). -/

namespace Sys2Proof.Machine

/-! ### Bytes of flags -/

section flags

theorem flagByte_cons (b : Bool) (bs : List Bool) : flagByte (b :: bs) = b.toNat + 2 * flagByte bs := by
  cases b <;> rfl

theorem flagByte_nil : flagByte [] = 0 := rfl

theorem flagByte_testBit (bs : List Bool) (i : Nat) : (flagByte bs).testBit i = bs.getD i false := by
  induction bs generalizing i with
  | nil => simp [flagByte]
  | cons b bs ih =>
    rw [flagByte_cons]
    cases i with
    | zero => cases b <;> simp [Nat.testBit_zero, Nat.add_mod]
    | succ i =>
      have half : (b.toNat + 2 * flagByte bs) / 2 = flagByte bs := by cases b <;> simp <;> omega
      rw [Nat.testBit_succ, half, ih, List.getD_cons_succ]

/-- A bit of a byte of flags. -/
theorem flagByte_bit (bs : List Bool) {i : Nat} (low : i < 8) : (oneByte (flagByte bs)).getLsbD i = bs.getD i false := by
  rw [oneByte, BitVec.getLsbD_ofNat, flagByte_testBit, decide_eq_true low, Bool.true_and]

theorem mapFlags_eq (e : MapEntry) : mapFlags e = e.valid.toNat + 2 * e.forwardUp.toNat + 4 * e.guard.toNat := by
  simp only [mapFlags, flagByte_cons, flagByte_nil]
  omega

theorem partFlags_eq (s : State) : partFlags s = oneByte (s.cls.forwardUnlisted.toNat + 2 * s.rot.bypass.toNat +
    4 * s.burner.dryStop.toNat + 8 * s.recov.noGauge.toNat) := by
  refine congrArg (BitVec.ofNat 8) ?_
  simp only [flagByte_cons, flagByte_nil]
  omega

theorem zoneFlags_eq (z : Zone) : zoneFlags z = z.slot1.fresh.toNat + 2 * z.slot2.fresh.toNat +
    4 * z.normalCall.toNat + 8 * z.frostFlag.toNat + 16 * (decide (z.mode = .heat)).toNat := by
  simp only [zoneFlags, flagByte_cons, flagByte_nil]
  omega

theorem claimByte_eq (r : Recovery) : claimByte r = r.side.code + 4 * (decide (r.word ≠ 0)).toNat := by
  simp only [claimByte, flagByte_cons, flagByte_nil]
  omega

theorem accountingFlags_eq (o : Oil) : accountingFlags o = o.based.toNat + 2 * o.due.toNat + 4 * o.armed.toNat +
    8 * o.checkpoint.isSome.toNat + 16 * o.observed.isSome.toNat + 32 * o.rebaseTime.isSome.toNat := by
  simp only [accountingFlags, flagByte_cons, flagByte_nil]
  omega

theorem gaugeByte_eq (g : Gauge) : b1 (gaugeByte g) = [gaugeByteShown g] := by
  simp only [gaugeByte, gaugeByteShown, b1, oneByte, flagByte_cons, flagByte_nil, Gauge.state]
  refine congrArg (fun n => [BitVec.ofNat 8 n]) ?_
  split
  next => simp only [GaugeState.code]; omega
  next =>
    cases g.fault <;> simp [GaugeState.code] <;> omega

theorem sentV_eq (g : Gauge) : b2 g.sentV = volumeShown g := by
  simp only [Gauge.sentV, volumeShown, Gauge.state]
  split
  next => rfl
  next => cases g.fault <;> rfl

end flags

/-! ### The settings areas -/

section shown

variable {s : State}

theorem Eight.toList_getElem? {α : Type} (e : Eight α) (i : Fin 8) : e.toList[i.val]? = some (e.get i) := by
  match i with
  | 0 | 1 | 2 | 3 | 4 | 5 | 6 | 7 => rfl

theorem eightNumbers_getElem? (i : Fin 8) : eightNumbers[i.val]? = some i := by
  match i with
  | 0 | 1 | 2 | 3 | 4 | 5 | 6 | 7 => rfl

/-- Of an area that gives every element of a list as many bytes, the bytes of the element numbered `k`. -/
theorem holds_flatMap {α : Type} {f : α → List (List Byte)} {n k : Nat} {xs : List α} {x : α}
    (uniform : ∀ x, (f x).flatten.length = n) (at_k : xs[k]? = some x) :
    Holds (xs.flatMap f).flatten (n * k) (f x).flatten := by
  rw [flatten_flatMap]
  refine holds_uniform (fun y mem => ?_) (by rw [List.getElem?_map, at_k]; rfl)
  obtain ⟨x, _, rfl⟩ := List.mem_map.1 mem
  exact uniform x

theorem holds_map {α : Type} {f : α → List Byte} {n k : Nat} {xs : List α} {x : α}
    (uniform : ∀ x, (f x).length = n) (at_k : xs[k]? = some x) : Holds (xs.map f).flatten (n * k) (f x) := by
  refine holds_uniform (fun y mem => ?_) (by rw [List.getElem?_map, at_k]; rfl)
  obtain ⟨x, _, rfl⟩ := List.mem_map.1 mem
  exact uniform x

theorem tempField_eq (t : Option Int) : tempField t = tempShown t := rfl

theorem zoneFields_eq (z : Zone) : (zoneFields z).flatten = zoneShown z := by
  simp [zoneFields, zoneShown, tempField_eq, b1, b2, addrField, clockField, timeShown, b4, oneByte, zoneFlags_eq,
    absentClock]

/-- What an area shows from its place `b` on. -/
theorem TableWhole.shows (whole : TableWhole s) (k : Nat) {fields : List (List Byte)} {a b : Nat} {bytes : List Byte}
    (at_k : (tableAreas s)[k]? = some fields) (place : a = (areaLengths.take k).sum + b)
    (held : Holds fields.flatten b bytes) : Shows s a bytes := by
  rw [place]
  exact (whole.area k at_k).within held

/-- What an area shows from its beginning on. -/
theorem TableWhole.begins (whole : TableWhole s) (k : Nat) {fields : List (List Byte)} {a : Nat} {bytes : List Byte}
    (at_k : (tableAreas s)[k]? = some fields) (place : a = (areaLengths.take k).sum)
    (held : (fields.flatten).take bytes.length = bytes) : Shows s a bytes :=
  whole.shows (b := 0) k at_k place held

theorem settingsShown (whole : TableWhole s) : SettingsShown s where
  identity := whole.begins 0 rfl rfl rfl
  part := by
    rw [← partFlags_eq]
    exact whole.begins 1 rfl rfl rfl
  map i e here := by
    rw [← mapFlags_eq]
    exact whole.shows 4 rfl rfl (holds_map (fun _ => rfl) here)
  zones z := by
    rw [← zoneFields_eq]
    exact whole.shows 5 rfl rfl (holds_flatMap zoneFields_length (Eight.toList_getElem? _ z))
  rotation := whole.begins 6 rfl rfl rfl
  burner := whole.begins 9 rfl rfl rfl
  gauge := whole.begins 11 rfl rfl rfl
  live i e here := whole.shows 13 rfl rfl (holds_flatMap (fun _ => rfl) here)
  pend i e here := whole.shows 14 rfl rfl (holds_flatMap (fun _ => rfl) here)
  oil := whole.begins 15 rfl rfl rfl
  enable := whole.begins 22 rfl rfl rfl

/-! ### The grants, the outputs, the burner and the recovery -/

section heat

theorem Holds.first {α : Type} {l xs : List α} {a : Nat} {x d : α} (held : Holds l a (x :: xs)) : l.getD a d = x := by
  have there : l[a + 0]? = some x := holds_iff.1 held 0 (by simp)
  rw [List.getD_eq_getElem?_getD, show l[a]? = some x from there]
  rfl

/-- A field of an area, behind the lengths of the fields before it. -/
theorem TableWhole.field (whole : TableWhole s) (k i : Nat) {fields : List (List Byte)} {lengths : List Nat} {a : Nat}
    {bytes : List Byte} (at_k : (tableAreas s)[k]? = some fields) (sizes : fields.map List.length = lengths)
    (place : a = (areaLengths.take k).sum + (lengths.take i).sum) (at_i : fields[i]? = some bytes) : Shows s a bytes :=
  whole.shows k at_k place (sizes ▸ holds_flatten at_i)

theorem Shows.cons {a : Nat} {b : Byte} {bs : List Byte} (first : Shows s a [b]) (rest : Shows s (a + 1) bs) :
    Shows s a (b :: bs) := Holds.append first rest

theorem standing_granted {r : Rotation} {before after : List Grant} {g : Grant} (split : r.grants = before ++ g :: after)
    (first : ∀ x ∈ before, x.zone ≠ g.zone) : r.grants.find? (fun x => decide (x.zone = g.zone)) = some g :=
  FirstOf.find? ⟨split, fun x mem => decide_eq_false (first x mem), decide_eq_true rfl⟩

theorem standing_waiting {r : Rotation} {before after : List Wait} {w : Wait} (split : r.queue = before ++ w :: after)
    (first : ∀ x ∈ before, x.zone ≠ w.zone) : r.queue.find? (fun x => decide (x.zone = w.zone)) = some w :=
  FirstOf.find? ⟨split, fun x mem => decide_eq_false (first x mem), decide_eq_true rfl⟩

/-- Where a zone's standing and its rotation record stand. -/
theorem TableWhole.standing (whole : TableWhole s) (z : Fin 8) :
    Shows s (0x010 + 4 * z.val) (clockField (s.rot.standing z)) :=
  whole.shows 2 rfl rfl (holds_map (fun _ => leBytes_length 4 _) (eightNumbers_getElem? z))

theorem TableWhole.record (whole : TableWhole s) (z : Fin 8) :
    Shows s (0x188 + 4 * z.val) (rotationRecord s.clock s.rot z).flatten :=
  whole.shows 7 rfl rfl (holds_flatMap (rotationRecord_length s.clock s.rot) (eightNumbers_getElem? z))

/-- The sizes of the fields of outputs and pump. -/
theorem outputFields_sizes (now : Clock) (r : Rotation) : (outputFields now r).map List.length =
    [1, 1, 1, 1, 1, 1, 1, 1, 1, 1, 1, 1, 1, 1, 1, 1, 1, 1, 2, 4] := by
  simp [outputFields, travelField, eightNumbers, Eight.toList, secondsField_length, b1, clockField, b4, leBytes_length]

/-- The sizes of the fields of the live part of burner and recovery. -/
theorem burnerFields_sizes (now : Clock) (b : Burner) (r : Recovery) : (burnerFields now b r).map List.length =
    [1, 1, 2, 1, 1, 1, 1, 2, 2, 2, 1, 1, 2, 1, 1, 4, 4, 4, 4, 4, 1, 1, 1, 1, 1, 1, 1, 1] := by
  simp [burnerFields, secondsField_length, b1, b2, clockField, b4, leBytes_length, gap, budgetFields, List.replicate]

theorem TableWhole.burnerField (whole : TableWhole s) (i : Nat) {a : Nat} {bytes : List Byte}
    (place : a = 0x1D0 + (([1, 1, 2, 1, 1, 1, 1, 2, 2, 2, 1, 1, 2, 1, 1, 4, 4, 4, 4, 4, 1, 1, 1, 1, 1, 1, 1, 1] :
      List Nat).take i).sum) (at_i : (burnerFields s.clock s.burner s.recov)[i]? = some bytes) : Shows s a bytes :=
  whole.field 10 i rfl (burnerFields_sizes _ _ _) place at_i

theorem TableWhole.outputField (whole : TableWhole s) (i : Nat) {a : Nat} {bytes : List Byte}
    (place : a = 0x1A8 + (([1, 1, 1, 1, 1, 1, 1, 1, 1, 1, 1, 1, 1, 1, 1, 1, 1, 1, 2, 4] : List Nat).take i).sum)
    (at_i : (outputFields s.clock s.rot)[i]? = some bytes) : Shows s a bytes :=
  whole.field 8 i rfl (outputFields_sizes _ _) place at_i

theorem secondsField_running {now : Clock} {a n : Nat} {t : Option Nat} {v : Nat} (running : t = some v) :
    secondsField now a n t = leBytes n v := by rw [running]; rfl

theorem Output.travelLeft_moving {o : Output} (moving : o.state = .opening ∨ o.state = .closing) :
    o.travelLeft = some o.travel := by
  rcases moving with opening | closing
  · simp [Output.travelLeft, Output.moving, opening]
  · simp [Output.travelLeft, Output.moving, closing]

theorem outputShown (whole : TableWhole s) (i : Fin 8) :
    Shows s (0x1A8 + i.val) (b1 (outputByte (s.rot.outputs.get i))) ∧
      Shows s (0x1B0 + i.val) (travelField s.clock s.rot i) := by
  match i with
  | 0 => exact ⟨whole.outputField 0 rfl rfl, whole.outputField 8 rfl rfl⟩
  | 1 => exact ⟨whole.outputField 1 rfl rfl, whole.outputField 9 rfl rfl⟩
  | 2 => exact ⟨whole.outputField 2 rfl rfl, whole.outputField 10 rfl rfl⟩
  | 3 => exact ⟨whole.outputField 3 rfl rfl, whole.outputField 11 rfl rfl⟩
  | 4 => exact ⟨whole.outputField 4 rfl rfl, whole.outputField 12 rfl rfl⟩
  | 5 => exact ⟨whole.outputField 5 rfl rfl, whole.outputField 13 rfl rfl⟩
  | 6 => exact ⟨whole.outputField 6 rfl rfl, whole.outputField 14 rfl rfl⟩
  | 7 => exact ⟨whole.outputField 7 rfl rfl, whole.outputField 15 rfl rfl⟩

theorem inputsShown (whole : TableWhole s) : let b := (tableSpace s).getD 0x1D0 0
    b.getLsbD 0 = s.burner.run.raw ∧ (∀ l, s.burner.run.acc = some l → b.getLsbD 1 = l) ∧
    b.getLsbD 2 = s.burner.run.acc.isSome ∧ b.getLsbD 3 = s.burner.lock.raw ∧
    (∀ l, s.burner.lock.acc = some l → b.getLsbD 4 = l) ∧ b.getLsbD 5 = s.burner.lock.acc.isSome ∧
    b.getLsbD 6 = false ∧ b.getLsbD 7 = false := by
  have byte : (tableSpace s).getD 0x1D0 0 = oneByte (inputsByte s.clock s.burner) :=
    Holds.first (whole.burnerField 0 rfl rfl)
  intro b
  have bit : ∀ i < 8, b.getLsbD i = _ := fun i low => by
    rw [show b = _ from byte, inputsByte, flagByte_bit _ low]
  refine ⟨bit 0 (by decide), fun l acc => ?_, bit 2 (by decide), bit 3 (by decide), fun l acc => ?_, bit 5 (by decide),
    bit 6 (by decide), bit 7 (by decide)⟩
  · rw [bit 1 (by decide)]
    simp [inputBits, acc]
  · rw [bit 4 (by decide)]
    simp [inputBits, acc]

theorem grantedShown (whole : TableWhole s) {before after : List Grant} {g : Grant}
    (split : s.rot.grants = before ++ g :: after) (first : ∀ x ∈ before, x.zone ≠ g.zone) :
    Shows s (0x010 + 4 * g.zone.val) (leBytes 4 g.time.toNat) ∧
      Shows s (0x188 + 4 * g.zone.val) ([oneByte (1 + 4 * g.rank), oneByte g.order] ++ leBytes 2 g.turn) := by
  have found := standing_granted split first
  have standing : s.rot.standing g.zone = some g.time := by rw [Rotation.standing, found]
  have record : (rotationRecord s.clock s.rot g.zone).flatten =
      [oneByte (1 + 4 * g.rank), oneByte g.order] ++ leBytes 2 g.turn := by rw [rotationRecord, found]; rfl
  have time := whole.standing g.zone
  rw [standing] at time
  exact ⟨time, record ▸ whole.record g.zone⟩

theorem waitingShown (whole : TableWhole s) {before after : List Wait} {w : Wait}
    (split : s.rot.queue = before ++ w :: after) (first : ∀ x ∈ before, x.zone ≠ w.zone)
    (apart : ∀ g ∈ s.rot.grants, g.zone ≠ w.zone) : Shows s (0x010 + 4 * w.zone.val) (leBytes 4 w.time.toNat) ∧
      Shows s (0x188 + 4 * w.zone.val) [oneByte (2 + 4 * w.rank), oneByte w.order] := by
  have found := standing_waiting split first
  have ungranted : s.rot.grants.find? (fun g => decide (g.zone = w.zone)) = none :=
    List.find?_eq_none.2 fun g mem => by simpa using apart g mem
  have standing : s.rot.standing w.zone = some w.time := by rw [Rotation.standing, ungranted, found]; rfl
  have record : (rotationRecord s.clock s.rot w.zone).flatten =
      [oneByte (2 + 4 * w.rank), oneByte w.order] ++ unstated s.clock (0x188 + 4 * w.zone.val + 2) 2 := by
    rw [rotationRecord, ungranted, found]
    rfl
  have time := whole.standing w.zone
  rw [standing] at time
  have held := whole.record w.zone
  rw [record] at held
  have shown : Shows s (0x188 + 4 * w.zone.val + 0) [oneByte (2 + 4 * w.rank), oneByte w.order] :=
    Holds.within held (holds_prefix _ _)
  exact ⟨time, shown⟩

theorem neitherShown (whole : TableWhole s) {z : Fin 8} (grants : ∀ g ∈ s.rot.grants, g.zone ≠ z)
    (queue : ∀ w ∈ s.rot.queue, w.zone ≠ z) : Shows s (0x010 + 4 * z.val) [0xFF, 0xFF, 0xFF, 0xFF] ∧
      (tableSpace s).getD (0x188 + 4 * z.val) 0 &&& 0xE3 = 0 := by
  have ungranted : s.rot.grants.find? (fun g => decide (g.zone = z)) = none :=
    List.find?_eq_none.2 fun g mem => by simpa using grants g mem
  have idle : s.rot.queue.find? (fun w => decide (w.zone = z)) = none :=
    List.find?_eq_none.2 fun w mem => by simpa using queue w mem
  have standing : s.rot.standing z = none := by rw [Rotation.standing, ungranted, idle]; rfl
  have time := whole.standing z
  rw [standing] at time
  have held := whole.record z
  rw [rotationRecord, ungranted, idle] at held
  refine ⟨time, ?_⟩
  rw [Holds.first held, noPosition, BitVec.and_assoc]
  exact BitVec.and_zero

theorem pumpShown (whole : TableWhole s) :
    Shows s 0x1B8 [oneByte (s.rot.pump.toNat + 2 * s.rot.overrun.isSome.toNat + 4 * s.rot.permit.toNat +
      8 * s.rot.lastFiring.isSome.toNat), 0] := by
  have flags : flagByte [s.rot.pump, s.rot.overrun.isSome, s.rot.permit, s.rot.lastFiring.isSome] = s.rot.pump.toNat +
      2 * s.rot.overrun.isSome.toNat + 4 * s.rot.permit.toNat + 8 * s.rot.lastFiring.isSome.toNat := by
    simp only [flagByte_cons, flagByte_nil]
    omega
  rw [← flags]
  exact Shows.cons (whole.outputField 16 rfl rfl) (whole.outputField 17 rfl rfl)

theorem relaysShown (whole : TableWhole s) : Shows s 0x1D4 [oneByte (s.burner.demand.toNat + 2 * s.burner.reset.toNat +
    4 * (decide (s.burner.run.acc = none ∨ s.burner.lock.acc = none)).toNat)] := by
  have unsettled : (!s.burner.settled) = decide (s.burner.run.acc = none ∨ s.burner.lock.acc = none) := by
    rw [Burner.settled]
    cases s.burner.run.acc <;> cases s.burner.lock.acc <;> rfl
  have flags : flagByte [s.burner.demand, s.burner.reset, !s.burner.settled] = s.burner.demand.toNat +
      2 * s.burner.reset.toNat + 4 * (decide (s.burner.run.acc = none ∨ s.burner.lock.acc = none)).toNat := by
    simp only [flagByte_cons, flagByte_nil, unsettled]
    omega
  rw [← flags]
  exact whole.burnerField 3 rfl rfl

theorem budgetShown (whole : TableWhole s) {i : Nat} (low : i < 5) :
    Shows s (0x1E4 + 4 * i) (timeShown s.recov.budget[i]?) := by
  match i, low with
  | 0, _ => exact whole.burnerField 15 rfl rfl
  | 1, _ => exact whole.burnerField 16 rfl rfl
  | 2, _ => exact whole.burnerField 17 rfl rfl
  | 3, _ => exact whole.burnerField 18 rfl rfl
  | 4, _ => exact whole.burnerField 19 rfl rfl
  | i + 5, low => exact absurd low (by omega)

theorem spareShown (whole : TableWhole s) : Shows s 0x1F8 (List.replicate 8 0) :=
  Shows.cons (whole.burnerField 20 rfl rfl) (Shows.cons (whole.burnerField 21 rfl rfl)
    (Shows.cons (whole.burnerField 22 rfl rfl) (Shows.cons (whole.burnerField 23 rfl rfl)
      (Shows.cons (whole.burnerField 24 rfl rfl) (Shows.cons (whole.burnerField 25 rfl rfl)
        (Shows.cons (whole.burnerField 26 rfl rfl) (whole.burnerField 27 rfl rfl)))))))

/-- A running timer of the burner or of the recovery. -/
theorem TableWhole.burnerTimer (whole : TableWhole s) (i : Nat) {a b n v : Nat} {t : Option Nat} (running : t = some v)
    (place : a = 0x1D0 + (([1, 1, 2, 1, 1, 1, 1, 2, 2, 2, 1, 1, 2, 1, 1, 4, 4, 4, 4, 4, 1, 1, 1, 1, 1, 1, 1, 1] :
      List Nat).take i).sum)
    (at_i : (burnerFields s.clock s.burner s.recov)[i]? = some (secondsField s.clock b n t)) : Shows s a (leBytes n v) :=
  whole.burnerField i place (secondsField_running running ▸ at_i)

theorem heatShown (whole : TableWhole s) : HeatShown s where
  granted _ _ _ split first := grantedShown whole split first
  waiting _ _ _ split first apart := waitingShown whole split first apart
  neither _ grants queue := neitherShown whole grants queue
  outputs i := ⟨(outputShown whole i).1, fun moving => by
    have travel : travelField s.clock s.rot i = [oneByte (s.rot.outputs.get i).travel] :=
      secondsField_running (Output.travelLeft_moving moving)
    exact travel ▸ (outputShown whole i).2⟩
  pump := pumpShown whole
  overrun _ running := whole.outputField 18 rfl (congrArg some (secondsField_running running))
  lastFiring := whole.outputField 19 rfl rfl
  inputs := inputsShown whole
  state := whole.burnerField 1 rfl rfl
  timer _ running := whole.burnerTimer 2 running rfl rfl
  relays := relaysShown whole
  resetGap v running := whole.burnerTimer (n := 1) (v := v) 4 running rfl rfl
  recovery := Shows.cons (whole.burnerField 5 rfl rfl) (whole.burnerField 6 rfl rfl)
  recoveryTimer _ running := whole.burnerTimer 7 running rfl rfl
  proving := whole.burnerField 8 rfl rfl
  spacing _ running := whole.burnerTimer 9 running rfl rfl
  claim := by
    rw [← claimByte_eq]
    exact Shows.cons (whole.burnerField 10 rfl rfl) (whole.burnerField 11 rfl rfl)
  hold _ running := whole.burnerTimer 12 running rfl rfl
  budget := ⟨Shows.cons (whole.burnerField 13 rfl rfl) (whole.burnerField 14 rfl rfl), fun _ low => budgetShown whole low,
    spareShown whole⟩

end heat

end shown

end Sys2Proof.Machine
end

section
/-! What table space shows of the gauge, the accounts and the counters, and the requests that read (O48; 12.4, 12.5, 12.6). -/

namespace Sys2Proof.Machine

section accounts

variable {s : State}

/-- The sizes of the fields from 0x360 to the zone extras. -/
theorem liveFields_sizes (s : State) : (liveFields s).map List.length =
    [4, 2, 1, 1, 1, 1, 1, 1, 4, 2, 1, 1, 4, 4, 4, 4, 4, 4, 4, 4] := by
  have day : ∀ i : Nat, ((s.oil.ring[i]?).elim (unstated s.clock (0x378 + 4 * i) 4) b4).length = 4 := fun i => by
    cases s.oil.ring[i]?
    · exact unstated_length _ _ _
    · rfl
  simp [liveFields, ringFields, b1, b2, b4, leBytes_length, leInt, wordField, day]

theorem gaugeShown (whole : TableWhole s) :
    Shows s 0x210 (leBytes 2 s.gauge.sampleCount.toNat ++ leBytes 2 (s.gauge.lastT.getD 0xFFFF) ++
      leBytes 2 (s.gauge.lastS.getD 0xFFFF) ++ leBytes 2 (s.gauge.lastN.getD 0xFFFF) ++
      leBytes 2 (s.gauge.lastH.getD 0xFFFF) ++ volumeShown s.gauge ++ leBytes 2 (s.gauge.reported.getD 0xFFFF) ++
      [gaugeByteShown s.gauge]) := by
  rw [← gaugeByte_eq, ← sentV_eq]
  exact whole.begins 12 rfl rfl rfl

theorem bandByteShown (whole : TableWhole s) : Shows s 0x21F (b1 (bandByte s.clock s.gauge)) :=
  whole.shows 12 (b := 15) rfl rfl rfl

theorem bandAlone (b : Band) (x : Nat) :
    oneByte (b.code + 16 * (x % 4)) &&& 0xCF = oneByte b.code := by
  have low : x % 4 < 4 := Nat.mod_lt _ (by decide)
  generalize x % 4 = y at low
  match y, low with
  | 0, _ | 1, _ | 2, _ | 3, _ => cases b <;> rfl
  | y + 4, low => exact absurd low (by omega)

theorem accountsBytesShown (whole : TableWhole s) :
    Shows s 0x2E8 ([oneByte (s.oil.based.toNat + 2 * s.oil.due.toNat + 4 * s.oil.armed.toNat +
        8 * s.oil.checkpoint.isSome.toNat + 16 * s.oil.observed.isSome.toNat + 32 * s.oil.rebaseTime.isSome.toNat), 0] ++
      leBytes 2 s.oil.base ++ timeShown s.oil.rebaseTime ++ leBytes 5 s.oil.used ++ [0] ++ leBytes 2 s.oil.remainder ++
      leBytes 4 s.oil.firing ++ leBytes 2 (s.oil.checkpoint.getD 0xFFFF) ++
      leBytes 2 (s.oil.observed.getD 0xFFFF)) := by
  rw [← accountingFlags_eq]
  exact whole.begins 16 rfl rfl rfl

theorem clockShown (whole : TableWhole s) :
    Shows s 0x360 (leBytes 4 s.clock.toNat ++ leBytes 2 s.mgmt.attn.toNat ++
      [oneByte (s.store.present.toNat + 2 * s.store.fault.toNat + 4 * s.store.save.isSome.toNat),
        oneByte s.postbox.tagCounter, oneByte s.postbox.posts.length,
        oneByte (s.postbox.posts.filter fun p => !p.internal).length,
        oneByte (s.postbox.posts.filter (·.internal)).length, 0]) := by
  have flags : flagByte [s.store.present, s.store.fault, s.store.save.isSome] =
      s.store.present.toNat + 2 * s.store.fault.toNat + 4 * s.store.save.isSome.toNat := by
    simp only [flagByte_cons, flagByte_nil]
    omega
  rw [← flags, ← List.countP_eq_length_filter, ← List.countP_eq_length_filter]
  exact whole.begins 19 rfl rfl rfl

theorem ringShown (whole : TableWhole s) {i n : Nat} (low : i < 7) (day : s.oil.ring[i]? = some n) :
    Shows s (0x378 + 4 * i) (leBytes 4 n) := by
  have shown : Shows s (0x378 + 4 * i) ((s.oil.ring[i]?).elim (unstated s.clock (0x378 + 4 * i) 4) b4) := by
    match i, low with
    | 0, _ => exact whole.field 19 13 rfl (liveFields_sizes s) rfl rfl
    | 1, _ => exact whole.field 19 14 rfl (liveFields_sizes s) rfl rfl
    | 2, _ => exact whole.field 19 15 rfl (liveFields_sizes s) rfl rfl
    | 3, _ => exact whole.field 19 16 rfl (liveFields_sizes s) rfl rfl
    | 4, _ => exact whole.field 19 17 rfl (liveFields_sizes s) rfl rfl
    | 5, _ => exact whole.field 19 18 rfl (liveFields_sizes s) rfl rfl
    | 6, _ => exact whole.field 19 19 rfl (liveFields_sizes s) rfl rfl
    | i + 7, low => exact absurd low (by omega)
  rw [day] at shown
  exact shown

theorem extrasShown (whole : TableWhole s) (z : Fin 8) :
    Shows s (0x394 + 10 * z.val) (leInt 2 (s.zone z).requested ++ tempShown (s.zone z).measured ++
      leBytes 2 (((s.zone z).ovLeft.getD 0 + 59) / 60) ++ timeShown (s.zone z).cycleStart) := by
  have extras : (zoneExtras (s.zone z)).flatten = leInt 2 (s.zone z).requested ++ tempShown (s.zone z).measured ++
      leBytes 2 (((s.zone z).ovLeft.getD 0 + 59) / 60) ++ timeShown (s.zone z).cycleStart := by
    simp [zoneExtras, tempField_eq, b2, clockField, timeShown, b4, minutesUp, absentClock]
  rw [← extras]
  exact whole.shows 20 rfl rfl (holds_flatMap zoneExtras_length (Eight.toList_getElem? _ z))

theorem accountsShown (whole : TableWhole s) : AccountsShown s where
  rise := whole.begins 3 rfl rfl rfl
  gauge := gaugeShown whole
  band b last := by
    have byte : bandByte s.clock s.gauge = s.gauge.band.code + 16 * b.code + 64 := by
      rw [bandByte, last]
      exact (Nat.add_assoc _ _ _).symm
    rw [← byte]
    exact bandByteShown whole
  bandAlone last := by
    rw [Holds.first (bandByteShown whole), bandByte, last]
    exact bandAlone _ _
  accounts := accountsBytesShown whole
  fieldLine := whole.shows 17 (b := 0x00) rfl rfl rfl
  houseLink := whole.shows 17 (b := 0x10) rfl rfl rfl
  portsAndMap := whole.shows 17 (b := 0x20) rfl rfl rfl
  zonesAndBurner := whole.shows 17 (b := 0x32) rfl rfl rfl
  gaugeCounters := whole.shows 17 (b := 0x3A) rfl rfl rfl
  postsAndStore := whole.shows 17 (b := 0x44) rfl rfl rfl
  firing := whole.begins 18 rfl rfl rfl
  clock := clockShown whole
  book := whole.shows 19 (b := 0x0C) rfl rfl rfl
  ring _ _ low day := ringShown whole low day
  extras z := extrasShown whole z
  noField := whole.begins 21 rfl rfl rfl

theorem tableShown (whole : TableWhole s) : TableShown s where
  settings := settingsShown whole
  heat := heatShown whole
  accounts := accountsShown whole

end accounts

/-! ### READ (R170) -/

theorem readRequest_eq (lo hi count : Byte) (s : State) : readRequest [lo, hi, count] s =
    if count = 0 ∨ 16 < count ∨ 0x3FF < (lo.toNat + 256 * hi.toNat) + count.toNat - 1 then []
    else ((tableSpace s).drop (lo.toNat + 256 * hi.toNat)).take count.toNat := by
  have none : count.toNat = 0 ↔ count = 0 := by bv_omega
  have many : 16 < count.toNat ↔ 16 < count := by bv_omega
  have start : ofLE ([lo, hi, count].take 2) = lo.toNat + 256 * hi.toNat := by simp [ofLE]
  have size : ([lo, hi, count].getD 2 0).toNat = count.toNat := rfl
  rw [readRequest, start, size]
  exact ite_congr (propext (or_congr none (or_congr many Iff.rfl))) (fun _ => rfl) fun _ => rfl

/-! ### STATUS (R175, 12.5) -/

theorem Zone.rank_isSome (z : Zone) :
    z.rank.isSome = decide (z.state = .calling ∨ z.state = .frost ∨ z.state = .fallbackOn) := by
  rw [Zone.rank]
  cases z.state <;> rfl

/-- A bit of a byte of zones. -/
theorem zoneBits_bit (f : Fin 8 → Bool) (i : Fin 8) : (oneByte (zoneBits f)).getLsbD i.val = f i := by
  rw [zoneBits, flagByte_bit _ i.isLt, List.getD_eq_getElem?_getD, List.getElem?_map, eightNumbers_getElem?]
  rfl

theorem statusClaim_eq (s : State) : statusClaim s = s.recov.side.code + 4 * (decide (s.recov.word ≠ 0)).toNat +
    128 * s.store.save.isSome.toNat := by rw [statusClaim, claimByte_eq]

/-! ### LOG_READ (R176, 12.4) -/

section logs

variable {α : Type} {enc : α → List Byte} {log : List α} {index : Nat}

theorem logAnswer_past (past : log.length ≤ index) : logAnswer enc log index = [0, BitVec.ofNat 8 log.length] := by
  rw [logAnswer, List.getElem?_eq_none past]
  rfl

theorem logAnswer_held {x : α} (held : log[index]? = some x) :
    logAnswer enc log index = 0 :: BitVec.ofNat 8 log.length :: enc x := by
  rw [logAnswer, held]
  rfl

end logs

theorem oilEventBytes_eq (x : OilEvent) : ∃ source : Nat, source ≤ 1 ∧ (∀ y, x.source = some y → source = y.code) ∧
    oilEventBytes x = BitVec.ofNat 8 (x.kind.code + 8 * source + 16 * x.source.isSome.toNat +
      32 * x.before.isSome.toNat + 64 * x.after.isSome.toNat) :: leBytes 4 x.time.toNat ++
      leBytes 2 (x.before.getD 0xFFFF) ++ leBytes 2 (x.after.getD 0xFFFF) ++ leBytes 2 x.amount := by
  refine ⟨x.source.elim (Config.sourceBit x.time.toNat).toNat OilSource.code, ?_, fun y named => by rw [named]; rfl, ?_⟩
  · cases x.source with
    | none => exact Bool.toNat_le _
    | some y =>
      cases y
      · exact Nat.zero_le 1
      · exact Nat.le_refl 1
  · have flags : x.kind.code + 8 * x.source.elim (Config.sourceBit x.time.toNat).toNat OilSource.code +
        16 * flagByte [x.source.isSome, x.before.isSome, x.after.isSome] = x.kind.code +
        8 * x.source.elim (Config.sourceBit x.time.toNat).toNat OilSource.code + 16 * x.source.isSome.toNat +
        32 * x.before.isSome.toNat + 64 * x.after.isSome.toNat := by
      simp only [flagByte_cons, flagByte_nil]
      omega
    rw [oilEventBytes, flags]
    rfl

theorem postBytes_eq {x : Post} (tagged : x.tag < 16) : postBytes x =
    x.dest :: BitVec.ofNat 8 (x.tag + 16 * x.kind.code + 64 * x.internal.toNat + 128 * x.wait.toNat) ::
      leBytes 2 x.value ++ BitVec.ofNat 8 (x.attempts + 4 * x.outstanding.toNat) :: leBytes 4 x.posted.toNat ++
        leBytes 4 x.expiry.toNat := by
  have flags : x.tag % 16 + 16 * x.kind.code + 64 * flagByte [x.internal, x.wait] =
      x.tag + 16 * x.kind.code + 64 * x.internal.toNat + 128 * x.wait.toNat := by
    simp only [flagByte_cons, flagByte_nil]
    omega
  rw [postBytes, flags]
  rfl

theorem logReadRequest_unnamed {listing index : Byte} (high : 2 < listing) (s : State) :
    logReadRequest [listing, index] s = [5, 2] := by
  have more : 2 < listing.toNat := by bv_omega
  rw [logReadRequest, List.getD_cons_zero]
  split
  next zero => omega
  next one => omega
  next two => omega
  next => rfl

/-- Settles O48. -/
theorem readingRequestsAnswer : Obligations.ReadingRequestsAnswer := by
  intro r v lo hi count listing index s own start bytes t
  refine ⟨fun takes params => ?_, fun takes params => ?_, fun map live pend => tableShown ⟨map, live, pend⟩,
    fun takes params => ?_, fun takes params => ?_⟩
  · refine (houseRequest_answered (o := .read) takes own rfl (by rw [params]; rfl) (.inr rfl) rfl).trans ?_
    rw [runOperation, params, readRequest_eq]
    rfl
  · refine (serviceRequest_answered takes).trans ?_
    rw [params, show ∀ u, serviceOperation 0x01 [lo, hi, count] u = (readRequest [lo, hi, count] u, u) from fun _ => rfl,
      readRequest_eq]
    rfl
  · refine ⟨0 :: statusBytes s, rfl, ?_, rfl, rfl, rfl, rfl, (List.cons.inj (gaugeByte_eq s.gauge)).1, rfl, rfl,
      fun i => zoneBits_bit _ i, fun i => (zoneBits_bit _ i).trans (Zone.rank_isSome _), ?_, rfl⟩
    · exact houseRequest_answered (o := .status) takes own rfl (by rw [params]; rfl) (.inr rfl) rfl
    · rw [← statusClaim_eq]
      rfl
  · intro shows
    have reads : ∀ a, logReadRequest [listing, index] s = a → exec (.logRead r) s = .next (answered r.tag a t) := by
      rintro a rfl
      rw [← params]
      exact houseRequest_answered (o := .logRead) takes own rfl (by rw [params]; rfl) (.inr rfl) rfl
    refine ⟨?_, ?_, ?_, ?_, ?_, ?_, fun high => reads _ (logReadRequest_unnamed high s)⟩
    · rintro rfl past
      exact reads _ (logAnswer_past (enc := recoveryBytes) past)
    · rintro x rfl held
      exact reads _ (logAnswer_held (enc := recoveryBytes) held)
    · rintro rfl past
      exact reads _ (logAnswer_past (enc := oilEventBytes) past)
    · rintro x rfl held
      obtain ⟨source, small, names, encoded⟩ := oilEventBytes_eq x
      exact ⟨source, small, names, reads _ (encoded ▸ logAnswer_held (enc := oilEventBytes) held)⟩
    · rintro rfl past
      exact reads _ (logAnswer_past (enc := postBytes) past)
    · rintro x rfl held tagged
      exact reads _ (postBytes_eq tagged ▸ logAnswer_held (enc := postBytes) held)

end Sys2Proof.Machine
end

section
/-! The WRITE request: the settings that are no events of their block, the map, the pending table, the counters (O50). -/

namespace Sys2Proof.Machine

/-! ### A WRITE of the house (R171) -/

/-- The settings fields outside the map, the records, the tables and the counters start where their layout says. -/
theorem plainFields_start : ∀ l ∈ plainLayout, FieldStarts l.field l.start l.size := by
  have starts : ∀ l ∈ plainLayout, fieldAt l.start = some l ∧ insideField l.start = false ∧ 0 < l.size ∧
      l.start < 65536 := by decide +kernel
  intro l mem
  obtain ⟨here, first, sized, low⟩ := starts l mem
  exact ⟨here, first, sized, low⟩

section writes

variable {r : HouseReq} {s : State} {start : Nat} {data : List Byte}

theorem write_formed (takes : HouseTakes (houseFrame 0x02 r) s) (long : 3 ≤ r.params.length) :
    MgmtOp.formed (r.params.length + 1) .write = true := by
  obtain ⟨_, fits, _⟩ := takes
  obtain ⟨_, length⟩ := Bool.and_eq_true_iff.1 fits
  have short : r.params.length + 1 ≤ 16 := of_decide_eq_true length
  simp [MgmtOp.formed, MgmtOp.lengths]
  omega

theorem houseRequest_writes (takes : HouseTakes (houseFrame 0x02 r) s) (own : r.dest = 0) (idle : s.store.save = none)
    (params : r.params = leBytes 2 start ++ data) (filled : 1 ≤ data.length) (low : start < 65536) :
    houseRequest (houseFrame 0x02 r) s =
      .next (answered r.tag (writeTable start data (houseTaken s)).1 (writeTable start data (houseTaken s)).2) := by
  have long : r.params.length = data.length + 2 := by rw [params, List.length_append, leBytes_length, Nat.add_comm]
  have place : ofLE (r.params.take 2) = start := by rw [params, List.take_left' (leBytes_length 2 start), ofLE_word low]
  have rest : r.params.drop 2 = data := by rw [params, List.drop_left' (leBytes_length 2 start)]
  rw [houseRequest_answered (o := .write) takes own rfl (write_formed takes (by omega)) (.inl idle)
    (by simp [runOperation]), runOperation, place, rest]

/-- A WRITE of one whole field of table space. -/
theorem houseRequest_writesField {f : Field} {size : Nat} (starts : FieldStarts f start size)
    (takes : HouseTakes (houseFrame 0x02 r) s) (own : r.dest = 0) (idle : s.store.save = none)
    (params : r.params = leBytes 2 start ++ data) (whole : data.length = size) :
    houseRequest (houseFrame 0x02 r) s =
      .next (answered r.tag (fieldAnswer size (applyField f (ofLE data) (houseTaken s)).1)
        (applyField f (ofLE data) (houseTaken s)).2) := by
  rw [houseRequest_writes takes own idle params (whole ▸ starts.sized) starts.low, writeTable_field starts whole]

/-- A WRITE of one numeric setting outside the zone records. -/
theorem houseRequest_writesNum {f : Num} {size n : Nat} (located : (⟨.num f, start, size⟩ : Located) ∈ plainLayout)
    (takes : HouseTakes (houseFrame 0x02 r) s) (own : r.dest = 0) (idle : s.store.save = none)
    (params : r.params = leBytes 2 start ++ data) (whole : data.length = size) (value : ofLE data = n) :
    houseRequest (houseFrame 0x02 r) s =
      .next (answered r.tag (numericAnswer size n (nearest f.range.1 f.range.2 n))
        (f.write (nearest f.range.1 f.range.2 n) (houseTaken s))) := by
  rw [houseRequest_writesField (plainFields_start _ located) takes own idle params whole, applyField, value, f.clamp_eq,
    fieldAnswer_numeric]

end writes

theorem ofLE_pair (a b : Byte) : ofLE [a, b] = a.toNat + 256 * b.toNat := by simp [ofLE]

theorem leBytes_pair (lo hi : Byte) : leBytes 2 (lo.toNat + 256 * hi.toNat) = [lo, hi] := by
  have low : BitVec.ofNat 8 (lo.toNat + 256 * hi.toNat) = lo := by
    refine BitVec.eq_of_toNat_eq ?_
    rw [BitVec.toNat_ofNat]
    omega
  have high : BitVec.ofNat 8 ((lo.toNat + 256 * hi.toNat) / 256) = hi := by
    refine BitVec.eq_of_toNat_eq ?_
    rw [BitVec.toNat_ofNat]
    omega
  rw [leBytes, leBytes, leBytes, low, high]

/-! ### Places that take no write (R172) -/

/-- The places that no writable field covers. -/
def Unwritable (start : Nat) : Prop :=
  start < 0x008 ∨ (0x00A ≤ start ∧ start < 0x040) ∨
    (0x080 ≤ start ∧ start < 0x180 ∧ (start % 32 = 11 ∨ 16 ≤ start % 32)) ∨ start = 0x183 ∨
    (0x186 ≤ start ∧ start < 0x1C0) ∨ (0x1D0 ≤ start ∧ start < 0x200) ∨ (0x20E ≤ start ∧ start < 0x280) ∨
    (0x2E8 ≤ start ∧ start < 0x300) ∨ (0x350 ≤ start ∧ start < 0x3F0) ∨ 0x3F2 ≤ start

theorem zoneFieldAt_none (z : Fin 8) {offset : Nat} (outside : offset = 11 ∨ 16 ≤ offset) : zoneFieldAt z offset = none := by
  rw [zoneFieldAt, List.find?_eq_none.2]
  · rfl
  · simp only [zoneLayout, List.forall_mem_cons, Located.covers, Bool.and_eq_true, decide_eq_true_iff]
    refine ⟨by omega, by omega, by omega, by omega, by omega, by omega, by omega, by omega, by omega, by omega, by omega,
      by omega, nofun⟩

/-- Every plain field lies outside the places that take no write. -/
theorem plainLayout_none {start : Nat} (outside : start < 0x008 ∨ (0x00A ≤ start ∧ start < 0x180) ∨ start = 0x183 ∨
    (0x186 ≤ start ∧ start < 0x1C0) ∨ (0x1D0 ≤ start ∧ start < 0x200) ∨ (0x20E ≤ start ∧ start < 0x2E0) ∨
    (0x2E8 ≤ start ∧ start < 0x3F0) ∨ 0x3F2 ≤ start) : plainLayout.find? (·.covers start) = none := by
  have within : ∀ l ∈ plainLayout, (0x008 ≤ l.start ∧ l.start + l.size ≤ 0x00A) ∨
      (0x180 ≤ l.start ∧ l.start + l.size ≤ 0x183) ∨ (0x184 ≤ l.start ∧ l.start + l.size ≤ 0x186) ∨
      (0x1C0 ≤ l.start ∧ l.start + l.size ≤ 0x1D0) ∨ (0x200 ≤ l.start ∧ l.start + l.size ≤ 0x20E) ∨
      (0x2E0 ≤ l.start ∧ l.start + l.size ≤ 0x2E8) ∨ (0x3F0 ≤ l.start ∧ l.start + l.size ≤ 0x3F2) := by decide
  refine List.find?_eq_none.2 fun l mem covers => ?_
  have place := within l mem
  simp only [Located.covers, Bool.and_eq_true, decide_eq_true_iff] at covers
  omega

theorem fieldAt_unwritable {start : Nat} (outside : Unwritable start) : fieldAt start = none := by
  have map : ¬(0x040 ≤ start ∧ start < 0x080) := by unfold Unwritable at outside; omega
  have table : ¬(0x280 ≤ start ∧ start < 0x2E0) := by unfold Unwritable at outside; omega
  have counters : ¬(0x300 ≤ start ∧ start < 0x350) := by unfold Unwritable at outside; omega
  rw [fieldAt, if_neg map, if_neg table, if_neg counters]
  split
  next zone => exact zoneFieldAt_none _ (by unfold Unwritable at outside; omega)
  next => exact plainLayout_none (by unfold Unwritable at outside; omega)

theorem writeTable_unwritable {start : Nat} {a : Byte} (outside : Unwritable start) (s : State) :
    writeTable start [a] s = refusedAt start 0 .address s := by
  have nowhere : fieldAt (start + 0) = none := fieldAt_unwritable outside
  rw [writeTable, List.length_singleton, writeFields, nowhere]
  rfl

/-- Half of a field of two bytes. -/
theorem writeTable_half {f : Field} {start : Nat} {a : Byte} (starts : FieldStarts f start 2) (s : State) :
    writeTable start [a] s = ([5, 4, 0], s) := by
  have here : fieldAt (start + 0) = some ⟨f, start, 2⟩ := starts.here
  have first : insideField (start + 0) = false := starts.first
  rw [writeTable, List.length_singleton, writeFields, here]
  refine (if_neg Bool.false_ne_true).trans ((if_pos (.inr Nat.one_lt_two)).trans ?_)
  exact (if_neg (by rw [first]; decide)).trans rfl

/-! ### Two fields in one WRITE (R171) -/

/-- A numeric field of a WRITE is stored at its nearest limit and the WRITE goes on behind it. -/
theorem writeFields_byte {fuel start offset : Nat} {a : Byte} {data : List Byte} {c : Option (List Byte)} {f : Num}
    (located : fieldAt (start + offset) = some ⟨.num f, start + offset, 1⟩) (s : State) :
    writeFields (fuel + 1) start offset (a :: data) c s = writeFields fuel start (offset + 1) data
      (if a.toNat = nearest f.range.1 f.range.2 a.toNat then c
        else some (c.getD [BitVec.ofNat 8 offset, BitVec.ofNat 8 (nearest f.range.1 f.range.2 a.toNat)]))
      (f.write (nearest f.range.1 f.range.2 a.toNat) s) := by
  have value : ofLE ((a :: data).take 1) = a.toNat := ofLE_byte a
  rw [writeFields, located]
  refine (if_neg (by simp)).trans ((if_neg (by simp)).trans ?_)
  dsimp only
  rw [value, applyField, f.clamp_eq, FieldResult.numeric]
  by_cases kept : a.toNat = nearest f.range.1 f.range.2 a.toNat
  · rw [if_pos kept, if_pos kept]
    rfl
  · rw [if_neg kept, if_neg kept]
    rfl

theorem writeTable_limits (a b : Byte) (s : State) : writeTable 0x1C0 [a, b] s =
    (if a.toNat ≠ nearest 20 180 a.toNat then [1, 0, BitVec.ofNat 8 (nearest 20 180 a.toNat)]
      else if b.toNat ≠ nearest 10 120 b.toNat then [1, 1, BitVec.ofNat 8 (nearest 10 120 b.toNat)] else [0],
      s.onBurner fun u => { u with startLimit := nearest 20 180 a.toNat, runoutLimit := nearest 10 120 b.toNat }) := by
  rw [writeTable, List.length_cons, List.length_singleton, writeFields_byte (f := .startLimit) (by decide),
    writeFields_byte (f := .runoutLimit) (by decide), writeFields]
  refine Prod.ext ?_ rfl
  by_cases start : a.toNat = nearest 20 180 a.toNat
  · by_cases runout : b.toNat = nearest 10 120 b.toNat
    · rw [if_neg (Classical.not_not.2 start), if_neg (Classical.not_not.2 runout)]
      dsimp only
      rw [if_pos (show a.toNat = nearest (Num.range .startLimit).1 (Num.range .startLimit).2 a.toNat from start),
        if_pos (show b.toNat = nearest (Num.range .runoutLimit).1 (Num.range .runoutLimit).2 b.toNat from runout)]
      rfl
    · rw [if_neg (Classical.not_not.2 start), if_pos runout]
      dsimp only
      rw [if_pos (show a.toNat = nearest (Num.range .startLimit).1 (Num.range .startLimit).2 a.toNat from start),
        if_neg (show ¬b.toNat = nearest (Num.range .runoutLimit).1 (Num.range .runoutLimit).2 b.toNat from runout)]
      rfl
  · rw [if_pos start]
    dsimp only
    rw [if_neg (show ¬a.toNat = nearest (Num.range .startLimit).1 (Num.range .startLimit).2 a.toNat from start)]
    split
    · rfl
    · rfl

/-! ### The pending table and the address map (R18, R132) -/

theorem pendFields_start : ∀ i < 24, FieldStarts (.depth i) (0x280 + 4 * i) 2 ∧ FieldStarts (.volume i) (0x282 + 4 * i) 2 := by
  have starts : ∀ i < 24, (fieldAt (0x280 + 4 * i) = some ⟨.depth i, 0x280 + 4 * i, 2⟩ ∧
      insideField (0x280 + 4 * i) = false) ∧ fieldAt (0x282 + 4 * i) = some ⟨.volume i, 0x282 + 4 * i, 2⟩ ∧
      insideField (0x282 + 4 * i) = false := by decide +kernel
  intro i low
  obtain ⟨⟨depth, first⟩, volume, second⟩ := starts i low
  exact ⟨⟨depth, first, by decide, by omega⟩, ⟨volume, second, by decide, by omega⟩⟩

theorem mapFields_start : ∀ i < 16, FieldStarts (.mapEntry i) (0x040 + 4 * i) 4 := by
  have starts : ∀ i < 16, fieldAt (0x040 + 4 * i) = some ⟨.mapEntry i, 0x040 + 4 * i, 4⟩ ∧
      insideField (0x040 + 4 * i) = false := by decide +kernel
  intro i low
  obtain ⟨here, first⟩ := starts i low
  exact ⟨here, first, by decide, by omega⟩

theorem depthOf_eq (n : Nat) : depthOf n = if n = 0xFFFF then none else some (nearest 0 3000 n) := by
  rw [depthOf, nearest_eq 0 3000 n (by decide), Nat.zero_max]

theorem fieldAnswer_depth (n : Nat) : fieldAnswer 2 (if n = 0xFFFF ∨ n ≤ 3000 then .stored else .clamped 3000) =
    if n = 0xFFFF ∨ n ≤ 3000 then [0] else 1 :: 0 :: leBytes 2 3000 := by
  split <;> rfl

theorem AddrClass.ofCode_eq (named : Byte) : AddrClass.ofCode named = if 3 < named then none
    else some (if named = 0 then .room else if named = 1 then .listener else if named = 2 then .service else .blocked) := by
  have known : named ≤ 3 → named = 0 ∨ named = 1 ∨ named = 2 ∨ named = 3 := by bv_omega
  by_cases high : 3 < named
  · rw [if_pos high, AddrClass.ofCode, if_neg (by bv_omega), if_neg (by bv_omega), if_neg (by bv_omega),
      if_neg (by bv_omega)]
  · rw [if_neg high]
    rcases known (by bv_omega) with rfl | rfl | rfl | rfl <;> rfl

/-- The map entry that four bytes name, their class among the four of 12.6. -/
def namedEntry (flags pattern mask named : Byte) : MapEntry where
  valid := flags.getLsbD 0
  forwardUp := flags.getLsbD 1
  guard := flags.getLsbD 2
  pattern := pattern
  mask := mask
  cls := if named = 0 then .room else if named = 1 then .listener else if named = 2 then .service else .blocked

theorem writeEntry_bytes (i : Nat) (flags pattern mask named : Byte) (s : State) :
    writeEntry i (ofLE [flags, pattern, mask, named]) s =
      if 3 < named ∨ 63 < pattern ∨ 63 < mask then (.refused .value, s)
      else (.stored, s.onCls fun m => { m with entries := m.entries.set i (namedEntry flags pattern mask named) }) := by
  have value : ofLE [flags, pattern, mask, named] =
      flags.toNat + 256 * (pattern.toNat + 256 * (mask.toNat + 256 * named.toNat)) := by simp [ofLE]
  have first : BitVec.ofNat 8 (ofLE [flags, pattern, mask, named]) = flags := by
    refine BitVec.eq_of_toNat_eq ?_
    rw [BitVec.toNat_ofNat, value]
    omega
  have second : BitVec.ofNat 8 (ofLE [flags, pattern, mask, named] / 256) = pattern := by
    refine BitVec.eq_of_toNat_eq ?_
    rw [BitVec.toNat_ofNat, value]
    omega
  have third : BitVec.ofNat 8 (ofLE [flags, pattern, mask, named] / 65536) = mask := by
    refine BitVec.eq_of_toNat_eq ?_
    rw [BitVec.toNat_ofNat, value]
    omega
  have fourth : BitVec.ofNat 8 (ofLE [flags, pattern, mask, named] / 16777216) = named := by
    refine BitVec.eq_of_toNat_eq ?_
    rw [BitVec.toNat_ofNat, value]
    omega
  simp only [writeEntry, first, second, third, fourth, AddrClass.ofCode_eq]
  by_cases unnamed : 3 < named
  · rw [if_pos unnamed, if_pos (.inl unnamed)]
  · rw [if_neg unnamed]
    by_cases wide : 63 < pattern ∨ 63 < mask
    · rw [if_pos (c := 3 < named ∨ 63 < pattern ∨ 63 < mask) (.inr wide)]
      exact if_pos wide
    · rw [if_neg (not_or.2 ⟨unnamed, wide⟩)]
      exact if_neg wide

/-! ### The counters (R178) -/

theorem counterFields_start (i : Fin 40) : FieldStarts (.counter i.val) (0x300 + 2 * i.val) 2 := by
  have starts : ∀ i : Fin 40, fieldAt (0x300 + 2 * i.val) = some ⟨.counter i.val, 0x300 + 2 * i.val, 2⟩ ∧
      insideField (0x300 + 2 * i.val) = false := by decide +kernel
  obtain ⟨here, first⟩ := starts i
  exact ⟨here, first, by decide, by omega⟩

theorem clearCounter_counterList (i : Fin 40) (s : State) :
    counterList (clearCounter i.val s) = (counterList s).set i.val 0 := by
  obtain ⟨k, low⟩ := i
  match k, low with
  | 0, _ | 1, _ | 2, _ | 3, _ | 4, _ | 5, _ | 6, _ | 7, _ | 8, _ | 9, _ | 10, _ | 11, _ | 12, _ | 13, _
  | 14, _ | 15, _ | 16, _ | 17, _ | 18, _ | 19, _ | 20, _ | 21, _ | 22, _ | 23, _ | 24, _ | 25, _ | 26, _
  | 27, _ | 28, _ | 29, _ | 30, _ | 31, _ | 32, _ | 33, _ | 34, _ | 35, _ | 36, _ | 37, _ | 38, _ | 39, _ => rfl
  | k + 40, low => exact absurd low (by omega)

theorem clearCounter_keeps (i : Fin 40) (s : State) : (clearCounter i.val s).recov = s.recov ∧
    (clearCounter i.val s).rot = s.rot ∧ (clearCounter i.val s).oil = s.oil ∧
    (clearCounter i.val s).mgmt.attn = s.mgmt.attn ∧ (clearCounter i.val s).postbox.posts = s.postbox.posts ∧
    (clearCounter i.val s).store.mem = s.store.mem := by
  obtain ⟨k, low⟩ := i
  match k, low with
  | 0, _ | 1, _ | 2, _ | 3, _ | 4, _ | 5, _ | 6, _ | 7, _ | 8, _ | 9, _ | 10, _ | 11, _ | 12, _ | 13, _
  | 14, _ | 15, _ | 16, _ | 17, _ | 18, _ | 19, _ | 20, _ | 21, _ | 22, _ | 23, _ | 24, _ | 25, _ | 26, _
  | 27, _ | 28, _ | 29, _ | 30, _ | 31, _ | 32, _ | 33, _ | 34, _ | 35, _ | 36, _ | 37, _ | 38, _ | 39, _ => exact ⟨rfl, rfl, rfl, rfl, rfl, rfl⟩
  | k + 40, low => exact absurd low (by omega)

/-- A WRITE of two bytes of which the value is read back. -/
theorem ofLE_value (v : BitVec 16) : ofLE (leBytes 2 v.toNat) = v.toNat := ofLE_word v.isLt

/-- Settles O50. -/
theorem tableIsWritten : Obligations.TableIsWritten := by
  intro r tag lo hi a b v s own t start m n
  refine ⟨fun takes idle params => ?_, fun takes idle params outside => ?_, fun takes idle params => ?_, ?_, ?_, ?_, ?_, ?_⟩
  · refine (houseRequest_writes (start := 0x1C0) (data := [a, b]) takes own idle params (by simp) (by decide)).trans ?_
    rw [writeTable_limits]
  · have place : lo.toNat + 256 * hi.toNat < 65536 := by omega
    have bytes : leBytes 2 start = [lo, hi] := leBytes_pair lo hi
    have written := houseRequest_writes (start := start) (data := [a]) takes own idle
      (by rw [params, bytes]; rfl) (by simp) place
    rw [writeTable_unwritable outside] at written
    refine ⟨fun first => written.trans ?_, fun inside => ?_⟩
    · rw [show refusedAt start 0 .address (houseTaken s) = _ from if_neg (by simp [first])]
      rfl
    · refine ⟨Config.freeByte (houseTaken s).free, written.trans ?_⟩
      rw [show refusedAt start 0 .address (houseTaken s) = _ from if_pos inside]
      rfl
  · refine (houseRequest_writes (start := 0x184) (data := [a]) takes own idle params (by simp) (by decide)).trans ?_
    rw [writeTable_half (plainFields_start ⟨.num .overrunTime, 0x184, 2⟩ (by decide))]
  · intro takes idle oneByte word twoBytes
    have one : ∀ {f : Num} {place : Nat}, (⟨.num f, place, 1⟩ : Located) ∈ plainLayout →
        r.params = leBytes 2 place ++ [a] → exec (.write r) s = _ := fun located params =>
      houseRequest_writesNum located takes own idle params rfl (ofLE_byte a)
    have two : ∀ {f : Num} {place : Nat}, (⟨.num f, place, 2⟩ : Located) ∈ plainLayout →
        r.params = leBytes 2 place ++ [a, b] → exec (.write r) s = _ := fun located params =>
      houseRequest_writesNum located takes own idle params rfl (ofLE_pair a b)
    refine ⟨one (f := .travelTime) (by decide), two (f := .overrunTime) (by decide), two (f := .backOff) (by decide),
      one (f := .budgetMax) (by decide), one (f := .pulseLen) (by decide), two (f := .coolOff) (by decide),
      two (f := .spacing) (by decide), one (f := .gapLen) (by decide), one (f := .holdTime) (by decide),
      two (f := .interval) (by decide), two (f := .zero) (by decide), two (f := .scale) (by decide),
      one (f := .shift) (by decide), two (f := .delivery) (by decide), two (f := .nozzle) (by decide),
      one (f := .idleLoss) (by decide), two (f := .runLoss) (by decide), two (f := .deliveryLoss) (by decide),
      fun i low params => ?_, fun i low params => ?_⟩
    · refine (houseRequest_writesField (pendFields_start i low).1 takes own idle params rfl).trans ?_
      rw [ofLE_pair, applyField, fieldAnswer_depth, depthOf_eq]
      rfl
    · refine (houseRequest_writesField (pendFields_start i low).2 takes own idle params rfl).trans ?_
      rw [ofLE_pair, applyField]
      rfl
  · intro takes idle i low named params entry
    refine (houseRequest_writesField (mapFields_start i low) takes own idle params rfl).trans ?_
    rw [applyField, writeEntry_bytes]
    split <;> rfl
  · intro i takes idle
    have writes : exec (.counterClear tag i v) s = .next (answered tag
        (fieldAnswer 2 (applyField (.counter i.val) v.toNat t).1) (applyField (.counter i.val) v.toNat t).2) := by
      refine (houseRequest_field (counterFields_start i) takes idle rfl).trans ?_
      rw [ofLE_value]
    refine ⟨fun other => ?_, fun zero => ⟨clearCounter i.val t, ?_, ?_, fun j apart => ?_, clearCounter_keeps i t⟩⟩
    · have nonzero : ¬v.toNat = 0 := fun same => other (BitVec.eq_of_toNat_eq same)
      rw [writes, applyField, if_neg nonzero]
      rfl
    · rw [writes, applyField, if_pos (by rw [zero]; rfl)]
      rfl
    · rw [clearCounter_counterList, List.getElem?_set_self]
      exact i.isLt
    · rw [clearCounter_counterList, List.getElem?_set_ne (Ne.symm apart)]
      rfl
  · intro takes idle
    refine (houseRequest_field (plainFields_start ⟨.attnEnable, 0x3F0, 2⟩ (by decide)) takes idle rfl).trans ?_
    rw [ofLE_value, applyField, BitVec.ofNat_toNat, BitVec.setWidth_eq]
    rfl
  · intro takes params
    refine (houseRequest_answered (o := .attnClear) takes own rfl (by rw [params]; rfl) (.inr rfl) rfl).trans ?_
    rw [runOperation, params, wordOf_bytes]
    rfl

end Sys2Proof.Machine
end

section
/-! A valid sample through its handoffs (O60). -/

namespace Sys2Proof.Machine

/-! ### The accounts at a sample report (R145, R146, R149) -/

section report

variable {now : Clock} {v dryT : Nat} {o : Oil} {first : Bool}

theorem Oil.idleCheck_unarmed (unarmed : o.armed = false) : o.idleCheck now v = ({ o with checkpoint := none }, []) :=
  if_neg (by simp [unarmed])

theorem Oil.idleCheck_arms (armed : o.armed = true) (none : o.checkpoint = none) :
    o.idleCheck now v = ({ o with checkpoint := some v }, []) := by
  rw [Oil.idleCheck, if_pos armed, none]

theorem Oil.idleCheck_stands {c : Nat} (armed : o.armed = true) (checkpoint : o.checkpoint = some c)
    (near : c < v + o.idleLoss) : o.idleCheck now v = (o, []) := by
  rw [Oil.idleCheck, if_pos armed, checkpoint]
  exact if_neg (Nat.not_le.2 near)

theorem Oil.idleCheck_loses {c : Nat} (armed : o.armed = true) (checkpoint : o.checkpoint = some c)
    (far : v + o.idleLoss ≤ c) : o.idleCheck now v = ({ o with
      events := (if o.events.length < 16 then o.events else o.events.drop 1) ++
        [⟨.lossIdle, now, some c, some v, c - v, none⟩]
      checkpoint := none }, [lossNotice (c - v) .lossIdle]) := by
  rw [Oil.idleCheck, if_pos armed, checkpoint]
  refine (if_pos far).trans ?_
  rw [← joinBounded_eq]
  rfl

/-- Where nothing has been lost, the check leaves the checkpoint of an armed watch standing, and sets it where there is none. -/
theorem Oil.idleCheck_keeps (near : ∀ c, o.armed = true → o.checkpoint = some c → c < v + o.idleLoss) :
    o.idleCheck now v = ({ o with checkpoint := if o.armed = true then some (o.checkpoint.getD v) else none }, []) := by
  by_cases armed : o.armed = true
  · rw [if_pos armed]
    cases checkpoint : o.checkpoint with
    | none => exact Oil.idleCheck_arms armed checkpoint
    | some c =>
      rw [Oil.idleCheck_stands armed checkpoint (near c armed checkpoint), Option.getD_some, ← checkpoint]
  · rw [if_neg armed]
    exact Oil.idleCheck_unarmed (Bool.eq_false_iff.2 armed)

/-- What the check leaves of the accounts. -/
theorem Oil.idleCheck_frame (now : Clock) (v : Nat) (o : Oil) : (o.idleCheck now v).1 =
    { o with events := (o.idleCheck now v).1.events, checkpoint := (o.idleCheck now v).1.checkpoint } := by
  unfold Oil.idleCheck
  (repeat' split) <;> rfl

/-- The accounts as the first reportable sample opens them (R145). -/
def Oil.opened (now : Clock) (v : Nat) (first : Bool) (o : Oil) : Oil × List Notice :=
  if first then (if o.based then o.reconcile now v else (o.rebase now v, [])) else (o, [])

/-- The days to dry of R149, from the ring and the nozzle. -/
def daysShown (v dryT nozzle : Nat) (ring : List Nat) : Option Nat :=
  if ring.length = 0 then none else if v ≤ dryT then some 0 else if ring.sum = 0 then some 999
  else some (min 999 ((v - dryT) * 1000 * ring.length * 3600 / (ring.sum * nozzle)))

theorem Oil.opened_ring (now : Clock) (v : Nat) (first : Bool) (o : Oil) :
    (o.opened now v first).1.ring = o.ring ∧ (o.opened now v first).1.nozzle = o.nozzle := by
  unfold Oil.opened Oil.reconcile Oil.reconcileRecord
  (repeat' split) <;> exact ⟨rfl, rfl⟩

/-- A sample report with a volume: the accounts opened, the idle check, the days to dry. -/
theorem Oil.sampleReport_volume : o.sampleReport now true (some v) first dryT =
    ({ ((o.opened now v first).1.idleCheck now v).1 with daysToDry := daysShown v dryT o.nozzle o.ring },
      (o.opened now v first).2 ++ ((o.opened now v first).1.idleCheck now v).2) := by
  obtain ⟨ring, nozzle⟩ := o.opened_ring now v first
  have days : ((o.opened now v first).1.idleCheck now v).1.days (some v) dryT = daysShown v dryT o.nozzle o.ring := by
    rw [Oil.idleCheck_frame, Oil.days, daysShown, ← ring, ← nozzle]
  rw [← days]
  rfl

theorem Oil.rise_eq (b a : Nat) : o.rise now b a = ({ o with
    events := (if o.events.length < 16 then o.events else o.events.drop 1) ++
      [⟨.delivery, now, some b, some a, a - b, some .rise⟩]
    checkpoint := o.checkpoint.map fun _ => a
    based := true, base := a, used := 0, remainder := 0, firing := 0, rebaseTime := some now, due := false
    timerRuns := true }, [deliveryNotice (a - b) .rise]) := by
  rw [← joinBounded_eq]
  rfl

/-- Accounts that have just been rebased wait for no reconciliation. -/
theorem not_waits_rebased (hours : 1 ≤ o.reconcileHours) (time : o.rebaseTime = some now) (due : o.due = false) :
    ¬ReconcileWaits now o := by
  rintro ⟨-, marked | ⟨-, reached⟩⟩
  · exact absurd marked (by simp [due])
  · rw [time, Option.getD_some, age_self] at reached
    omega

end report

/-! ### What a valid sample leaves of the gauge and hands on (R121 to R129, R135) -/

section sample

variable {t c : Nat} {g : Gauge}

theorem Gauge.judgeBand_known (v : Nat) (g : Gauge) : g.judgeBand v ≠ .unknown := by
  rw [Gauge.judgeBand_eq]
  (repeat' split) <;> nofun

/-- A rise that ends carries the volume at which it ended. -/
theorem Gauge.follow_rise {v b a : Nat} (rise : (g.follow v).2 = some (b, a)) : a = v := by
  unfold Gauge.follow at rise
  dsimp only at rise
  split at rise
  · cases rise
  split at rise
  · cases rise
    rfl
  · cases rise

/-- What a valid sample of a gauge that reports a volume leaves and hands on. -/
structure Gauge.Reports (g u : Gauge) (handed : Handoff) (t c : Nat) : Prop where
  fault : u.fault = false
  volume : u.reported = some (u.s10 / 10)
  band : u.band ≠ .unknown
  invalid : handed.invalid = none
  opens : handed.first = true → handed.rise = none
  rises : ∀ b a, handed.rise = some (b, a) → a = u.s10 / 10
  lastT : u.lastT = some t
  lastS : u.lastS = some c
  state : u.state = .valid
  flag : u.sFlag = true
  lastH : ∃ h, u.lastH = some h
  lastV : ∃ w, u.lastV = some w

theorem Gauge.takeSample_handed (valid : invalidKind t c = none) (clears : g.fault = false ∨ 2 ≤ g.validRun)
    (tables : 2 ≤ (strapPoints g.live).length) : g.Reports (g.takeSample t c).1 (g.takeSample t c).2 t c := by
  obtain ⟨w, handed, taken, kept, flag, invalid⟩ := Gauge.takeSample_judges valid clears tables
  have after : (g.takeSample t c).1 = w.setBand := congrArg Prod.fst taken
  have hands : (g.takeSample t c).2 = handed := congrArg Prod.snd taken
  have fault : (g.takeSample t c).1.fault = false := (congrArg Gauge.fault after).trans kept.fault
  have live : (g.takeSample t c).1.live = g.live := (congrArg Gauge.live after).trans kept.live
  have set : (g.takeSample t c).1.sFlag = true := (congrArg Gauge.sFlag after).trans flag
  have state : (g.takeSample t c).1.state = .valid := by
    simp [Gauge.state, live, fault, Nat.not_lt.2 tables]
  have handoff : (handed.first = true → handed.rise = none) ∧
      ∀ b a, handed.rise = some (b, a) → a = (g.takeSample t c).1.s10 / 10 := by
    rw [← hands]
    by_cases unset : g.sFlag = false
    · rw [Gauge.takeSample_first valid clears tables unset]
      exact ⟨fun _ => rfl, nofun⟩
    · have flagged : g.sFlag = true := by simpa using unset
      by_cases level : g.rising = false
      · rw [Gauge.takeSample_watched valid clears tables flagged level]
        exact ⟨nofun, nofun⟩
      · rw [Gauge.takeSample_followed valid clears tables flagged (by simpa using level)]
        refine ⟨nofun, fun b a rise => (Gauge.follow_rise rise).trans ?_⟩
        rw [show ((g.sampled t c).follow (volumeAt (g.head (normalised t c)) (strapPoints g.live))).1.setBand.s10 = _ from
          (Gauge.follow_kept _ _).2.2.1]
        omega
  exact {
    fault := fault
    volume := by
      rw [Gauge.reported, if_pos (Gauge.reportable_iff.2 ⟨state, set⟩)]
      rfl
    band := by
      rw [after]
      exact Gauge.judgeBand_known _ _
    invalid := hands ▸ invalid
    opens := hands ▸ handoff.1
    rises := hands ▸ handoff.2
    lastT := (congrArg Gauge.lastT after).trans kept.lastT
    lastS := (congrArg Gauge.lastS after).trans kept.lastS
    state := state
    flag := set
    lastH := ⟨_, (congrArg Gauge.lastH after).trans kept.lastH⟩
    lastV := ⟨_, (congrArg Gauge.lastV after).trans kept.lastV⟩ }

end sample

end Sys2Proof.Machine
end

section
/-! The accounts through the handoffs of a valid sample, and the statement about them (O60). -/

namespace Sys2Proof.Machine

/-! ### The fault and the band handed on (R121, R130, R135 steps 1 and 2) -/

theorem handFault_restores {s : State} (healthy : s.gauge.fault = false) (before : Option Nat) (k : Option InvalidKind) :
    handFault true before k s = raise { bit := .gauge, code := 0x0A, value1 := 4 } (s.onOil fun o => { o with
      events := (if o.events.length < 16 then o.events else o.events.drop 1) ++
        [⟨.gaugeRestored, s.clock, none, none, 0, none⟩] }) := by
  have recorded : (s.onOil fun o => o.addEvent ⟨.gaugeRestored, s.clock, none, none, 0, none⟩) = s.onOil fun o => { o with
      events := (if o.events.length < 16 then o.events else o.events.drop 1) ++
        [⟨.gaugeRestored, s.clock, none, none, 0, none⟩] } := by
    simp only [Oil.addEvent, joinBounded_eq]
  rw [← recorded, handFault, if_neg (by simp [healthy]), if_neg (by simp [healthy])]
  rfl

theorem handFault_clears {s : State} (old : Bool) (healthy : s.gauge.fault = false) (before : Option Nat)
    (k : Option InvalidKind) : handFault old before k s = if old = true then
      raise { bit := .gauge, code := 0x0A, value1 := 4 } (s.onOil fun o => { o with
        events := (if o.events.length < 16 then o.events else o.events.drop 1) ++
          [⟨.gaugeRestored, s.clock, none, none, 0, none⟩] })
      else s := by
  cases old with
  | true => exact handFault_restores healthy before k
  | false => exact handFault_same healthy before k

theorem handBand_known {old : Band} {s : State} (known : s.gauge.band ≠ .unknown) : handBand old s =
    if s.gauge.band = old then s
    else (bandNotices (dueTrigger (judgeDemand (evaluateAll s)))).onGauge fun x =>
      { x with lastBand := some s.gauge.band } := by
  have knows : ∀ g : Gauge, g.band ≠ .unknown → g.knowBand = { g with lastBand := some g.band } := by
    intro g known
    rw [Gauge.knowBand]
    cases band : g.band with
    | unknown => exact absurd band known
    | normal => rfl
    | low => rfl
    | dry => rfl
  have gauge := bandTold_gauge s
  rw [handBand]
  by_cases same : s.gauge.band = old
  · rw [if_pos same.symm, if_pos same]
  · rw [if_neg (Ne.symm same), if_neg same, State.onGauge, State.onGauge, knows _ (by rw [gauge]; exact known), gauge]

/-! ### The report offered (R135 step 5) -/

theorem gaugeReported_quiet {s : State} (kind : Nat) (quiet : s.gauge.reportDue = false) : gaugeReported kind s = s :=
  if_neg (by simp [quiet])

theorem gaugeReported_only (kind : Nat) (s : State) : gaugeReported kind s = { s with
    gauge := { s.gauge with
      reportDue := false, reportTimer := (gaugeReported kind s).gauge.reportTimer
      reportDropped := (gaugeReported kind s).gauge.reportDropped }
    ports := { s.ports with houseTx := (gaugeReported kind s).ports.houseTx } } := by
  by_cases due : s.gauge.reportDue = true
  · simp [gaugeReported, due]
  · have quiet := Bool.eq_false_iff.2 due
    rw [gaugeReported_quiet kind quiet, ← quiet]

/-! ### The accounts after the handoffs (R143, R145, R147) -/

theorem oilTakes_sets_bit {f : Oil → Oil × List Notice} {s : State} {n : Notice} (raised : n ∈ (f s.oil).2) :
    (oilTakes f s).mgmt.attn &&& n.bit.word = n.bit.word :=
  raiseAll_sets_bit raised _

theorem oilTakes_keeps_bit {f : Oil → Oil × List Notice} {s : State} {w : BitVec 16} (stands : s.mgmt.attn &&& w = w) :
    (oilTakes f s).mgmt.attn &&& w = w :=
  raiseAll_keeps_bit (s := s.onOil fun o => (f o).1) stands

theorem reconcileOrMark_accountsOnly (s : State) : AccountsOnly s (reconcileOrMark s) := by
  unfold reconcileOrMark
  split
  · split
    · rfl
    · exact oilTakes_accountsOnly _ s
  · rfl

theorem reconcileAfterSample_accountsOnly (s : State) : AccountsOnly s (reconcileAfterSample s) := by
  unfold reconcileAfterSample
  split
  · exact reconcileOrMark_accountsOnly s
  · rfl

section accounted

variable {told : State} {h : Handoff} {v : Nat}

/-- Oil Accounting with the sample report and the Rise event taken (R135 steps 3 and 4). -/
def accounted (h : Handoff) (told : State) : State := handRise h (handReport h told)

/-- The end of the handoffs: the accounts, the report, the reconciliation that waits (R135, R143). -/
def settled (h : Handoff) (told : State) : State := reconcileAfterSample (gaugeReported 0 (accounted h told))

theorem handReport_eq (reported : told.gauge.reported = some v) (valid : h.invalid = none) :
    handReport h told = oilTakes (·.sampleReport told.clock true (some v) h.first told.gauge.dryT) told := by
  rw [handReport, reported, valid]
  rfl

theorem accounted_accountsOnly (h : Handoff) (told : State) : AccountsOnly told (accounted h told) := by
  have report : AccountsOnly told (handReport h told) := oilTakes_accountsOnly _ told
  refine report.trans ?_
  unfold accounted handRise
  split
  · rfl
  · exact oilTakes_accountsOnly _ _

/-- What the sample report leaves of the accounts where no rise ends. -/
theorem accounted_level (reported : told.gauge.reported = some v) (valid : h.invalid = none) (level : h.rise = none) :
    accounted h told = oilTakes (·.sampleReport told.clock true (some v) h.first told.gauge.dryT) told := by
  rw [accounted, handReport_eq reported valid, handRise, level]

theorem accounted_rise {b a : Nat} (reported : told.gauge.reported = some v) (valid : h.invalid = none)
    (rise : h.rise = some (b, a)) : accounted h told =
      oilTakes (·.rise told.clock b a)
        (oilTakes (·.sampleReport told.clock true (some v) h.first told.gauge.dryT) told) := by
  have clock : (oilTakes (·.sampleReport told.clock true (some v) h.first told.gauge.dryT) told).clock = told.clock := by
    simp
  rw [accounted, handReport_eq reported valid, handRise, rise]
  dsimp only
  rw [clock]

theorem accounted_days (reported : told.gauge.reported = some v) (valid : h.invalid = none) :
    (accounted h told).oil.daysToDry = daysShown v told.gauge.dryT told.oil.nozzle told.oil.ring := by
  cases rise : h.rise with
  | none => rw [accounted_level reported valid rise, oilTakes_oil, Oil.sampleReport_volume]
  | some p => rw [accounted_rise reported valid rise, oilTakes_oil, oilTakes_oil, Oil.rise_eq, Oil.sampleReport_volume]

/-- The sent report leaves what the reconciliation looks at. -/
theorem sent_kept (told : State) (h : Handoff) :
    let sent := gaugeReported 0 (accounted h told)
    sent.oil = (accounted h told).oil ∧ sent.mgmt = (accounted h told).mgmt ∧ sent.clock = told.clock ∧
    sent.gauge.reported = told.gauge.reported ∧ sent.gauge.rising = told.gauge.rising ∧
    sent.gauge.candRun = told.gauge.candRun := by
  obtain ⟨oil, mgmt, clock⟩ := gaugeReported_frame 0 (accounted h told)
  have only := accounted_accountsOnly h told
  have gauge : (accounted h told).gauge = told.gauge := by rw [only]
  obtain ⟨reported, rising, cand⟩ := (gaugeReported_reportOnly 0 (accounted h told)).reported
  rw [gauge] at reported rising cand
  exact ⟨oil, mgmt, clock.trans (by rw [only]), reported, rising, cand⟩

/-- Where no reconciliation waits, the report is the last handoff. -/
theorem settled_still (still : ¬ReconcileWaits told.clock (accounted h told).oil) :
    settled h told = gaugeReported 0 (accounted h told) := by
  obtain ⟨oil, -, clock, -⟩ := sent_kept told h
  rw [settled, reconcileAfterSample_eq, if_neg]
  rw [clock, oil]
  exact still

theorem settled_still_oil (still : ¬ReconcileWaits told.clock (accounted h told).oil) :
    (settled h told).oil = (accounted h told).oil := by
  rw [settled_still still]
  exact (gaugeReported_frame _ _).1

/-- A reconciliation that waits is taken at the reported volume while no rise is watched. -/
theorem settled_reconciles (reported : told.gauge.reported = some v) (level : told.gauge.rising = false)
    (quiet : told.gauge.candRun = 0) (waits : ReconcileWaits told.clock (accounted h told).oil) :
    (settled h told).oil = ((accounted h told).oil.reconcile told.clock v).1 := by
  obtain ⟨oil, -, clock, volume, rising, cand⟩ := sent_kept told h
  rw [settled, reconcileAfterSample_eq, if_pos (by rw [clock, oil]; exact waits),
    reconcileOrMark_works (volume.trans reported) (rising.trans level) (cand.trans quiet), oilTakes_oil, oil, clock]

theorem settled_days (reported : told.gauge.reported = some v) (valid : h.invalid = none) :
    (settled h told).oil.daysToDry = daysShown v told.gauge.dryT told.oil.nozzle told.oil.ring := by
  have kept : ∀ s : State, (reconcileAfterSample s).oil.daysToDry = s.oil.daysToDry := by
    intro s
    unfold reconcileAfterSample reconcileOrMark
    (repeat' split)
    · rfl
    · rw [oilTakes_oil]
      exact Oil.reconcile_daysToDry _ _ _
    · rfl
    · rfl
  rw [settled, kept, (gaugeReported_frame _ _).1, accounted_days reported valid]

theorem settled_bit {b : AttnBit} (stands : (accounted h told).mgmt.attn &&& b.word = b.word) :
    (settled h told).mgmt.attn &&& b.word ≠ 0 := by
  obtain ⟨-, mgmt, -⟩ := sent_kept told h
  rw [settled, reconcileAfterSample_keeps_bit (by rw [mgmt]; exact stands)]
  exact b.word_ne_zero

theorem settled_frame (h : Handoff) (told : State) : settled h told = { told with
    gauge := { told.gauge with
      reportDue := false, reportTimer := (settled h told).gauge.reportTimer
      reportDropped := (settled h told).gauge.reportDropped }
    oil := (settled h told).oil, ports := { told.ports with houseTx := (settled h told).ports.houseTx }
    mgmt := { told.mgmt with
      attn := (settled h told).mgmt.attn, houseNoticeLost := (settled h told).mgmt.houseNoticeLost } } := by
  have first := accounted_accountsOnly h told
  have second := gaugeReported_only 0 (accounted h told)
  have third := reconcileAfterSample_accountsOnly (gaugeReported 0 (accounted h told))
  change AccountsOnly _ (settled h told) at third
  rw [AccountsOnly] at third first
  generalize settled h told = u at third ⊢
  generalize gaugeReported 0 (accounted h told) = sent at second third
  generalize accounted h told = acc at first second
  rw [third, second, first]

theorem settled_gauge (quiet : told.gauge.reportDue = false) : (settled h told).gauge = told.gauge := by
  have first := accounted_accountsOnly h told
  have third := reconcileAfterSample_accountsOnly (gaugeReported 0 (accounted h told))
  have gauge : (accounted h told).gauge = told.gauge := by rw [first]
  rw [settled, third, gaugeReported_quiet 0 (by rw [gauge]; exact quiet), gauge]

end accounted

end Sys2Proof.Machine
end

section
/-! What each handoff of a valid sample leaves in the accounts, and the statement (O60). -/

namespace Sys2Proof.Machine

/-! ### The first reportable sample (R144, R145) -/

section opened

variable {now : Clock} {v : Nat} {o : Oil}

/-- The reconciliation at a first reportable sample finds a loss (R144 step 2). -/
abbrev Oil.RunLost (v : Nat) (o : Oil) : Prop := o.based = true ∧ (v : Int) - o.book ≤ -(o.runLoss : Int)

/-- The reconciliation at a first reportable sample finds a delivery (R144 step 3). -/
abbrev Oil.Delivered (v : Nat) (o : Oil) : Prop :=
  o.based = true ∧ ¬o.RunLost v ∧ (o.deliveryLoss : Int) ≤ (v : Int) - o.book

/-- The three outcomes: the record, the checkpoint and the notice. -/
theorem Oil.opened_first_cases (now : Clock) (v : Nat) (o : Oil) :
    let op := o.opened now v true
    let kept := if o.events.length < 16 then o.events else o.events.drop 1
    (o.RunLost v ∧ op.1.events = kept ++ [⟨.lossRun, now, some o.book.toNat, some v, (o.book - v).toNat, none⟩] ∧
      op.1.checkpoint = o.checkpoint ∧ lossNotice (o.book - v).toNat .lossRun ∈ op.2) ∨
    (¬o.RunLost v ∧ o.Delivered v ∧
      op.1.events = kept ++ [⟨.delivery, now, some o.book.toNat, some v, v - o.book.toNat, some .reconcile⟩] ∧
      op.1.checkpoint = o.checkpoint.map (fun _ => v) ∧ deliveryNotice (v - o.book.toNat) .reconcile ∈ op.2) ∨
    (¬o.RunLost v ∧ ¬o.Delivered v ∧ op.1.events = o.events ∧ op.1.checkpoint = o.checkpoint) := by
  intro op kept
  by_cases based : o.based = true
  · have judged : op = o.reconcile now v := if_pos based
    rw [judged]
    by_cases loss : (v : Int) - o.book ≤ -(o.runLoss : Int)
    · obtain ⟨events, checkpoint, notices⟩ := Oil.reconcile_loss (now := now) loss
      exact .inl ⟨⟨based, loss⟩, events, checkpoint, notices ▸ List.mem_singleton_self _⟩
    · have even := Int.not_le.1 loss
      have kept : ¬o.RunLost v := fun lost => loss lost.2
      by_cases delivery : (o.deliveryLoss : Int) ≤ (v : Int) - o.book
      · obtain ⟨events, checkpoint, notices⟩ := Oil.reconcile_delivery (now := now) even delivery
        exact .inr (.inl ⟨kept, ⟨based, kept, delivery⟩, events, checkpoint, notices ▸ List.mem_singleton_self _⟩)
      · obtain ⟨events, checkpoint, -⟩ := Oil.reconcile_even (now := now) even (Int.not_le.1 delivery)
        exact .inr (.inr ⟨kept, fun delivered => delivery delivered.2.2, events, checkpoint⟩)
  · have rebased : op = (o.rebase now v, []) := if_neg based
    rw [rebased]
    exact .inr (.inr ⟨fun lost => based lost.1, fun delivered => based delivered.1, rfl, rfl⟩)

/-- What every opening leaves: the rebased accounts and the judged rate (R141, R144). -/
theorem Oil.opened_first (now : Clock) (v : Nat) (o : Oil) :
    let t := (o.opened now v true).1
    t.based = true ∧ t.base = v ∧ t.used = 0 ∧ t.remainder = 0 ∧ t.firing = 0 ∧ t.rebaseTime = some now ∧
    t.due = false ∧ t.timerRuns = true ∧
    t.observed = (if o.based = true ∧ 3600 ≤ o.firing ∧ v < o.base then
      some (min 65535 ((o.base - v) * 1000 * 3600 / o.firing)) else o.observed) ∧
    t.armed = o.armed ∧ t.idleLoss = o.idleLoss ∧ t.reconcileHours = o.reconcileHours := by
  intro t
  by_cases based : o.based = true
  · have judged : t = (o.reconcile now v).1 := congrArg Prod.fst (if_pos based)
    have record : (o.reconcileRecord now v).1 = { o with
        events := (o.reconcileRecord now v).1.events, checkpoint := (o.reconcileRecord now v).1.checkpoint } := by
      unfold Oil.reconcileRecord
      (repeat' split) <;> rfl
    simp only [based, true_and]
    rw [judged, Oil.reconcile, record]
    exact ⟨rfl, rfl, rfl, rfl, rfl, rfl, rfl, rfl, rfl, rfl, rfl, rfl⟩
  · have rebased : t = o.rebase now v := congrArg Prod.fst (if_neg based)
    rw [rebased, if_neg fun rate => based rate.1]
    exact ⟨rfl, rfl, rfl, rfl, rfl, rfl, rfl, rfl, rfl, rfl, rfl, rfl⟩

end opened

section clauses

variable {told : State} {h : Handoff} {v : Nat}

/-- What the sample report leaves of the accounts. -/
abbrev reportedOil (first : Bool) (v : Nat) (told : State) : Oil :=
  (told.oil.sampleReport told.clock true (some v) first told.gauge.dryT).1

theorem reportedOil_waits : ReconcileWaits told.clock (reportedOil false v told) ↔ ReconcileWaits told.clock told.oil := by
  have opened : told.oil.opened told.clock v false = (told.oil, []) := rfl
  rw [reportedOil, Oil.sampleReport_volume, opened, Oil.idleCheck_frame]

/-- Of an opened account nothing waits. -/
theorem reportedOil_rebased (hours : 1 ≤ told.oil.reconcileHours) :
    ¬ReconcileWaits told.clock (reportedOil true v told) := by
  obtain ⟨-, -, -, -, -, time, due, -, -, -, -, interval⟩ := told.oil.opened_first told.clock v
  rw [reportedOil, Oil.sampleReport_volume, Oil.idleCheck_frame]
  exact not_waits_rebased (by simpa only [interval] using hours) time due

variable (reported : told.gauge.reported = some v) (valid : h.invalid = none)

include reported valid

theorem settled_first (first : h.first = true) (level : h.rise = none) (hours : 1 ≤ told.oil.reconcileHours) :
    (settled h told).oil = reportedOil true v told ∧
    ∀ n ∈ (told.oil.opened told.clock v true).2 ++ ((told.oil.opened told.clock v true).1.idleCheck told.clock v).2,
      (settled h told).mgmt.attn &&& n.bit.word ≠ 0 := by
  have acc := accounted_level reported valid level
  rw [first] at acc
  have oil : (accounted h told).oil = reportedOil true v told := by rw [acc, oilTakes_oil]
  refine ⟨?_, fun n raised => settled_bit ?_⟩
  · rw [settled_still_oil (by rw [oil]; exact reportedOil_rebased hours), oil]
  · rw [acc]
    refine oilTakes_sets_bit ?_
    rw [Oil.sampleReport_volume]
    exact raised

theorem settled_rise {b a : Nat} (unopened : h.first = false) (rise : h.rise = some (b, a))
    (hours : 1 ≤ told.oil.reconcileHours) :
    (settled h told).oil = ((reportedOil false v told).rise told.clock b a).1 ∧
    (settled h told).mgmt.attn &&& AttnBit.delivery.word ≠ 0 ∧
    ∀ n ∈ (told.oil.idleCheck told.clock v).2, (settled h told).mgmt.attn &&& n.bit.word ≠ 0 := by
  have acc := accounted_rise reported valid rise
  rw [unopened] at acc
  have oil : (accounted h told).oil = ((reportedOil false v told).rise told.clock b a).1 := by
    rw [acc, oilTakes_oil, oilTakes_oil]
  refine ⟨?_, settled_bit ?_, fun n raised => settled_bit ?_⟩
  · rw [settled_still_oil, oil]
    rw [oil, Oil.rise_eq, reportedOil, Oil.sampleReport_volume, Oil.idleCheck_frame]
    exact not_waits_rebased hours rfl rfl
  · rw [acc]
    exact oilTakes_sets_bit (n := deliveryNotice (a - b) .rise) (List.mem_singleton_self _)
  · rw [acc]
    refine oilTakes_keeps_bit (oilTakes_sets_bit ?_)
    rw [Oil.sampleReport_volume]
    exact raised

theorem settled_level (unopened : h.first = false) (level : h.rise = none) (still : ¬ReconcileWaits told.clock told.oil) :
    settled h told = gaugeReported 0 (oilTakes (·.sampleReport told.clock true (some v) false told.gauge.dryT) told) ∧
    (settled h told).oil = reportedOil false v told ∧
    ∀ n ∈ (told.oil.idleCheck told.clock v).2, (settled h told).mgmt.attn &&& n.bit.word ≠ 0 := by
  have acc := accounted_level reported valid level
  rw [unopened] at acc
  have oil : (accounted h told).oil = reportedOil false v told := by rw [acc, oilTakes_oil]
  have quiet : ¬ReconcileWaits told.clock (accounted h told).oil := by
    rw [oil]
    exact mt reportedOil_waits.1 still
  refine ⟨?_, ?_, fun n raised => settled_bit ?_⟩
  · rw [settled_still quiet, acc]
  · rw [settled_still_oil quiet, oil]
  · rw [acc]
    refine oilTakes_sets_bit ?_
    rw [Oil.sampleReport_volume]
    exact raised

/-- A marked reconciliation is taken at the end, unless the rise that ends has just rebased the accounts. -/
theorem settled_marked (unopened : h.first = false) (based : told.oil.based = true) (due : told.oil.due = true)
    (level : told.gauge.rising = false) (quiet : told.gauge.candRun = 0) (hours : 1 ≤ told.oil.reconcileHours)
    (rises : ∀ b a, h.rise = some (b, a) → a = v) :
    let t := (settled h told).oil
    t.based = true ∧ t.base = v ∧ t.used = 0 ∧ t.remainder = 0 ∧ t.firing = 0 ∧ t.rebaseTime = some told.clock ∧
      t.due = false ∧ t.timerRuns = true := by
  intro t
  cases rise : h.rise with
  | none =>
    have acc := accounted_level reported valid rise
    rw [unopened] at acc
    have oil : (accounted h told).oil = reportedOil false v told := by rw [acc, oilTakes_oil]
    have waits : ReconcileWaits told.clock (accounted h told).oil := by
      rw [oil]
      exact reportedOil_waits.2 ⟨based, .inl due⟩
    obtain ⟨-, rebased⟩ := Oil.reconcile_rebased told.clock v (accounted h told).oil
    rw [show t = _ from settled_reconciles reported level quiet waits]
    exact rebased
  | some p =>
    obtain ⟨b, a⟩ := p
    obtain ⟨oil, -⟩ := settled_rise reported valid unopened rise hours
    rw [show t = _ from oil, Oil.rise_eq, rises b a rise]
    exact ⟨rfl, rfl, rfl, rfl, rfl, rfl, rfl, rfl⟩

end clauses

end Sys2Proof.Machine
end

section
/-! A valid sample as it is handed on (O60). -/

namespace Sys2Proof.Machine

theorem handSample_settled (old : Gauge) {h : Handoff} (valid : h.invalid = none) (s : State) :
    handSample old h s = settled h (handBand old.band (handFault old.fault old.reported none s)) := by
  rw [handSample, handGaugeReport_eq, valid]
  rfl

/-! ### A sample of a gauge that reports a volume -/

section told

variable {g : Gauge} {s : State} (healthy : g.fault = false) (known : g.band ≠ .unknown)

/-- The part once the restore and the band of a sample have been told (R130, R135 steps 1 and 2). -/
abbrev sampleTold (s : State) (g : Gauge) : State :=
  handBand s.gauge.band (handFault s.gauge.fault s.gauge.reported none (s.onGauge fun _ => g))

include healthy

theorem sampleTold_fault : handFault s.gauge.fault s.gauge.reported none (s.onGauge fun _ => g) =
    if s.gauge.fault = true then
      raise { bit := .gauge, code := 0x0A, value1 := 4 } ((s.onGauge fun _ => g).onOil fun o => { o with
        events := (if o.events.length < 16 then o.events else o.events.drop 1) ++
          [⟨.gaugeRestored, s.clock, none, none, 0, none⟩] })
      else s.onGauge fun _ => g :=
  handFault_clears _ healthy _ _

theorem sampleTold_accounts : (sampleTold s g).clock = s.clock ∧
    (sampleTold s g).oil.reconcileHours = s.oil.reconcileHours := by
  have told := handBand_told s.gauge.band (handFault s.gauge.fault s.gauge.reported none (s.onGauge fun _ => g))
  have oil := handFault_oil s.gauge.fault s.gauge.reported none (s.onGauge fun _ => g)
  refine ⟨?_, ?_⟩
  · rw [sampleTold, (handBand_frame _ _).2.2.2.2.1, sampleTold_fault healthy]
    split <;> simp
  · rw [told.watch, oil]
    rfl

include known

theorem sampleTold_band : sampleTold s g =
    let sampled := handFault s.gauge.fault s.gauge.reported none (s.onGauge fun _ => g)
    if g.band = s.gauge.band then sampled
    else (bandNotices (dueTrigger (judgeDemand (evaluateAll sampled)))).onGauge fun x =>
      { x with lastBand := some g.band } := by
  have gauge : (handFault s.gauge.fault s.gauge.reported none (s.onGauge fun _ => g)).gauge = g := by
    rw [handFault_gauge]
    rfl
  rw [sampleTold, handBand_known (by rw [gauge]; exact known), gauge]

theorem sampleTold_gauge : (sampleTold s g).gauge = { g with lastBand := (sampleTold s g).gauge.lastBand } := by
  have gauge : (handFault s.gauge.fault s.gauge.reported none (s.onGauge fun _ => g)).gauge = g := by
    rw [handFault_gauge]
    rfl
  rw [sampleTold_band healthy known]
  dsimp only
  split
  · rw [gauge]
  · rw [State.onGauge_gauge, bandTold_gauge, gauge]

end told

/-! ### The GAUGE report of a sample that reports a volume (R135 step 5, 12.3) -/

section sent

variable {g u : Gauge} {handed : Handoff} {t c : Nat}

theorem Gauge.Reports.payload (reports : g.Reports u handed t c) : ∃ h w, u.lastH = some h ∧ u.lastV = some w ∧
    leBytes 2 (u.lastT.getD 0xFFFF) ++ leBytes 2 (u.lastS.getD 0xFFFF) ++ leBytes 2 (u.lastH.getD 0xFFFF) ++
      volumeShown u ++ leBytes 2 (u.reported.getD 0xFFFF) ++ [oneByte u.band.code, gaugeByteShown u, oneByte 0] =
    leBytes 2 t ++ leBytes 2 c ++ leBytes 2 h ++ leBytes 2 w ++ leBytes 2 (u.s10 / 10) ++
      [BitVec.ofNat 8 u.band.code, (if u.rising = true then 14 else 10), 0] := by
  obtain ⟨h, lastH⟩ := reports.lastH
  obtain ⟨w, lastV⟩ := reports.lastV
  have table : ¬(strapPoints u.live).length < 2 := by
    have state := reports.state
    rw [Gauge.state] at state
    intro short
    rw [if_pos short] at state
    cases state
  have byte : gaugeByteShown u = if u.rising = true then 14 else 10 := by
    rw [gaugeByteShown, if_neg table, reports.fault, reports.flag]
    cases u.rising <;> rfl
  refine ⟨h, w, lastH, lastV, ?_⟩
  rw [reports.lastT, reports.lastS, lastH, volumeShown, if_neg table, lastV, reports.volume, byte]
  rfl

end sent

/-- What the offer of a due report leaves. -/
theorem gaugeReported_due {s : State} (due : s.gauge.reportDue = true) :
    (gaugeReported 0 s).gauge.reportTimer = (if s.gauge.reportMin = 0 then none else some (s.gauge.reportMin * 60)) ∧
    (s.ports.houseTx.length < 15 → (gaugeReported 0 s).gauge.reportDropped = s.gauge.reportDropped ∧
      (gaugeReported 0 s).ports.houseTx = s.ports.houseTx ++ [{ frame :=
        { dest := 62, source := 0, kind := 0x35, tag := 0
          payload := leBytes 2 (s.gauge.lastT.getD 0xFFFF) ++ leBytes 2 (s.gauge.lastS.getD 0xFFFF) ++
            leBytes 2 (s.gauge.lastH.getD 0xFFFF) ++ volumeShown s.gauge ++ leBytes 2 (s.gauge.reported.getD 0xFFFF) ++
            [oneByte s.gauge.band.code, gaugeByteShown s.gauge, oneByte 0] } }]) ∧
    (15 ≤ s.ports.houseTx.length → (gaugeReported 0 s).gauge.reportDropped = min 65535 (s.gauge.reportDropped + 1) ∧
      (gaugeReported 0 s).ports = s.ports) := by
  refine ⟨by simp [gaugeReported, due], fun room => by simp [gaugeReported, due, room], fun full => ?_⟩
  have none : ¬s.ports.houseTx.length < 15 := Nat.not_lt.2 full
  simp [gaugeReported, due, none]

/-- Values that another last known band leaves as they were. -/
theorem Gauge.lastBand_only {g t : Gauge} (same : t = { g with lastBand := t.lastBand }) :
    t.reported = g.reported ∧ t.rising = g.rising ∧ t.candRun = g.candRun ∧ t.dryT = g.dryT ∧
    t.reportDue = g.reportDue ∧ t.reportMin = g.reportMin ∧ t.reportDropped = g.reportDropped ∧ t.lastT = g.lastT ∧
    t.lastS = g.lastS ∧ t.lastH = g.lastH ∧ volumeShown t = volumeShown g ∧ gaugeByteShown t = gaugeByteShown g ∧
    t.band = g.band := by
  rw [same]
  exact ⟨rfl, rfl, rfl, rfl, rfl, rfl, rfl, rfl, rfl, rfl, rfl, rfl, rfl⟩

/-! ### The clauses of the statement -/

section clauses

variable {told : State} {h : Handoff} {v : Nat} (reported : told.gauge.reported = some v) (valid : h.invalid = none)

include reported valid

/-- The first reportable sample: the opening with its record and its notices, then the idle check (R144, R145, R146). -/
theorem settled_opens (first : h.first = true) (level : h.rise = none) (hours : 1 ≤ told.oil.reconcileHours) :
    let o := told.oil
    let u := settled h told
    let add (l : List OilEvent) (e : OilEvent) := (if l.length < 16 then l else l.drop 1) ++ [e]
    let recorded :=
      if o.RunLost v then
        add o.events ⟨.lossRun, told.clock, some o.book.toNat, some v, (o.book - v).toNat, none⟩
      else if o.Delivered v then
        add o.events ⟨.delivery, told.clock, some o.book.toNat, some v, v - o.book.toNat, some .reconcile⟩
      else o.events
    let moved := if o.Delivered v then o.checkpoint.map fun _ => v else o.checkpoint
    u.oil.based = true ∧ u.oil.base = v ∧ u.oil.used = 0 ∧ u.oil.remainder = 0 ∧ u.oil.firing = 0 ∧
    u.oil.rebaseTime = some told.clock ∧ u.oil.due = false ∧ u.oil.timerRuns = true ∧
    u.oil.observed = (if o.based = true ∧ 3600 ≤ o.firing ∧ v < o.base then
      some (min 65535 ((o.base - v) * 1000 * 3600 / o.firing)) else o.observed) ∧
    (o.RunLost v → u.mgmt.attn &&& AttnBit.loss.word ≠ 0) ∧ (o.Delivered v → u.mgmt.attn &&& AttnBit.delivery.word ≠ 0) ∧
    (o.armed = true → moved = none → u.oil.checkpoint = some v ∧ u.oil.events = recorded) ∧
    (∀ c, o.armed = true → moved = some c → c < v + o.idleLoss → u.oil.checkpoint = some c ∧ u.oil.events = recorded) ∧
    (∀ c, o.armed = true → moved = some c → v + o.idleLoss ≤ c → u.oil.checkpoint = none ∧
      u.oil.events = add recorded ⟨.lossIdle, told.clock, some c, some v, c - v, none⟩ ∧
      u.mgmt.attn &&& AttnBit.loss.word ≠ 0) ∧
    (o.armed = false → u.oil.checkpoint = none ∧ u.oil.events = recorded) := by
  intro o u add recorded moved
  obtain ⟨oil, bits⟩ := settled_first reported valid first level hours
  obtain ⟨based, base, used, remainder, firing, time, due, runs, observed, armed, idleLoss, -⟩ :=
    o.opened_first told.clock v
  have outcome : (o.opened told.clock v true).1.events = recorded ∧ (o.opened told.clock v true).1.checkpoint = moved ∧
      (o.RunLost v → u.mgmt.attn &&& AttnBit.loss.word ≠ 0) ∧
      (o.Delivered v → u.mgmt.attn &&& AttnBit.delivery.word ≠ 0) := by
    have raises : ∀ n ∈ (o.opened told.clock v true).2, u.mgmt.attn &&& n.bit.word ≠ 0 := fun n raised =>
      bits n (List.mem_append_left _ raised)
    rcases o.opened_first_cases told.clock v with ⟨lost, events, checkpoint, notice⟩ |
      ⟨kept, delivered, events, checkpoint, notice⟩ | ⟨kept, still, events, checkpoint⟩
    · have still : ¬o.Delivered v := fun delivered => delivered.2.1 lost
      exact ⟨events.trans (if_pos lost).symm, checkpoint.trans (if_neg still).symm, fun _ => raises _ notice,
        fun delivered => absurd delivered still⟩
    · exact ⟨events.trans ((if_neg kept).trans (if_pos delivered)).symm, checkpoint.trans (if_pos delivered).symm,
        fun lost => absurd lost kept, fun _ => raises _ notice⟩
    · exact ⟨events.trans ((if_neg kept).trans (if_neg still)).symm, checkpoint.trans (if_neg still).symm,
        fun lost => absurd lost kept, fun delivered => absurd delivered still⟩
  obtain ⟨events, checkpoint, losses, deliveries⟩ := outcome
  have shape : u.oil = { (o.opened told.clock v true).1 with
      events := ((o.opened told.clock v true).1.idleCheck told.clock v).1.events
      checkpoint := ((o.opened told.clock v true).1.idleCheck told.clock v).1.checkpoint
      daysToDry := daysShown v told.gauge.dryT o.nozzle o.ring } := by
    rw [show u.oil = _ from oil, reportedOil, Oil.sampleReport_volume, Oil.idleCheck_frame]
  have judged : ∀ x, (o.opened told.clock v true).1.idleCheck told.clock v = x →
      u.oil.checkpoint = x.1.checkpoint ∧ u.oil.events = x.1.events := by
    rintro x rfl
    exact ⟨by rw [shape], by rw [shape]⟩
  refine ⟨(congrArg Oil.based shape).trans based, (congrArg Oil.base shape).trans base,
    (congrArg Oil.used shape).trans used, (congrArg Oil.remainder shape).trans remainder,
    (congrArg Oil.firing shape).trans firing, (congrArg Oil.rebaseTime shape).trans time,
    (congrArg Oil.due shape).trans due, (congrArg Oil.timerRuns shape).trans runs,
    (congrArg Oil.observed shape).trans observed, losses, deliveries, fun on none => ?_, fun c on stands near => ?_,
    fun c on stands far => ?_, fun off => ?_⟩
  · obtain ⟨marked, kept⟩ := judged _ (Oil.idleCheck_arms (armed.trans on) (checkpoint.trans none))
    exact ⟨marked, kept.trans events⟩
  · obtain ⟨marked, kept⟩ := judged _ (Oil.idleCheck_stands (armed.trans on) (checkpoint.trans stands)
      (by rw [idleLoss]; exact near))
    exact ⟨marked.trans (checkpoint.trans stands), kept.trans events⟩
  · have lost := Oil.idleCheck_loses (now := told.clock) (armed.trans on) (checkpoint.trans stands)
      (by rw [idleLoss]; exact far)
    obtain ⟨marked, kept⟩ := judged _ lost
    rw [events] at kept
    refine ⟨marked, kept, bits (lossNotice (c - v) .lossIdle) (List.mem_append_right _ ?_)⟩
    rw [show told.oil.opened told.clock v true = o.opened told.clock v true from rfl, lost]
    exact List.mem_singleton_self _
  · obtain ⟨marked, kept⟩ := judged _ (Oil.idleCheck_unarmed (armed.trans off))
    exact ⟨marked, kept.trans events⟩

/-- A rise that ends beside a loss: the loss record, then the delivery with its rebase (R146, R147). -/
theorem settled_risesAfterLoss {b a c : Nat} (unopened : h.first = false) (rise : h.rise = some (b, a))
    (hours : 1 ≤ told.oil.reconcileHours) (armed : told.oil.armed = true) (checkpoint : told.oil.checkpoint = some c)
    (far : v + told.oil.idleLoss ≤ c) :
    let o := told.oil
    let u := settled h told
    let looked := (if o.events.length < 16 then o.events else o.events.drop 1) ++
      [⟨.lossIdle, told.clock, some c, some v, c - v, none⟩]
    u.oil.events = (if looked.length < 16 then looked else looked.drop 1) ++
      [⟨.delivery, told.clock, some b, some a, a - b, some .rise⟩] ∧ u.oil.based = true ∧ u.oil.base = a ∧
    u.oil.used = 0 ∧ u.oil.remainder = 0 ∧ u.oil.firing = 0 ∧ u.oil.rebaseTime = some told.clock ∧ u.oil.due = false ∧
    u.oil.timerRuns = true ∧ u.oil.checkpoint = none ∧ u.mgmt.attn &&& AttnBit.loss.word ≠ 0 ∧
    u.mgmt.attn &&& AttnBit.delivery.word ≠ 0 := by
  intro o u looked
  obtain ⟨oil, delivery, bits⟩ := settled_rise reported valid unopened rise hours
  have unchanged : told.oil.opened told.clock v false = (told.oil, []) := rfl
  have lost := Oil.idleCheck_loses (now := told.clock) armed checkpoint far
  rw [reportedOil, Oil.sampleReport_volume, unchanged, lost, Oil.rise_eq] at oil
  rw [lost] at bits
  rw [show u.oil = _ from oil]
  exact ⟨rfl, rfl, rfl, rfl, rfl, rfl, rfl, rfl, rfl, rfl, bits (lossNotice (c - v) .lossIdle) (List.mem_singleton_self _),
    delivery⟩

/-- A rise that ends where nothing was lost (R147). -/
theorem settled_rises {b a : Nat} (unopened : h.first = false) (rise : h.rise = some (b, a))
    (hours : 1 ≤ told.oil.reconcileHours)
    (near : ∀ c, told.oil.armed = true → told.oil.checkpoint = some c → c < v + told.oil.idleLoss) :
    let o := told.oil
    let u := settled h told
    u.oil.events = (if o.events.length < 16 then o.events else o.events.drop 1) ++
      [⟨.delivery, told.clock, some b, some a, a - b, some .rise⟩] ∧ u.oil.based = true ∧ u.oil.base = a ∧
    u.oil.used = 0 ∧ u.oil.remainder = 0 ∧ u.oil.firing = 0 ∧ u.oil.rebaseTime = some told.clock ∧ u.oil.due = false ∧
    u.oil.timerRuns = true ∧ u.oil.checkpoint = (if o.armed = true then some a else none) ∧
    u.mgmt.attn &&& AttnBit.delivery.word ≠ 0 := by
  intro o u
  obtain ⟨oil, delivery, -⟩ := settled_rise reported valid unopened rise hours
  have unchanged : told.oil.opened told.clock v false = (told.oil, []) := rfl
  rw [reportedOil, Oil.sampleReport_volume, unchanged, Oil.idleCheck_keeps near, Oil.rise_eq] at oil
  rw [show u.oil = _ from oil]
  refine ⟨rfl, rfl, rfl, rfl, rfl, rfl, rfl, rfl, rfl, ?_, delivery⟩
  dsimp only
  split <;> rfl

/-- A sample that opens nothing, ends no rise and finds no reconciliation waiting, beside a loss (R146). -/
theorem settled_loses {c : Nat} (unopened : h.first = false) (level : h.rise = none)
    (still : ¬ReconcileWaits told.clock told.oil) (armed : told.oil.armed = true)
    (checkpoint : told.oil.checkpoint = some c) (far : v + told.oil.idleLoss ≤ c) :
    let o := told.oil
    let u := settled h told
    u.oil = { o with
      events := (if o.events.length < 16 then o.events else o.events.drop 1) ++
        [⟨.lossIdle, told.clock, some c, some v, c - v, none⟩]
      checkpoint := none, daysToDry := u.oil.daysToDry } ∧ u.mgmt.attn &&& AttnBit.loss.word ≠ 0 := by
  intro o u
  obtain ⟨-, oil, bits⟩ := settled_level reported valid unopened level still
  have unchanged : told.oil.opened told.clock v false = (told.oil, []) := rfl
  have lost := Oil.idleCheck_loses (now := told.clock) armed checkpoint far
  rw [reportedOil, Oil.sampleReport_volume, unchanged, lost] at oil
  rw [lost] at bits
  rw [show u.oil = _ from oil]
  exact ⟨rfl, bits (lossNotice (c - v) .lossIdle) (List.mem_singleton_self _)⟩

/-- The same where nothing was lost: the report is the only other handoff (R135 step 5, R146). -/
theorem settled_quiet (unopened : h.first = false) (level : h.rise = none)
    (still : ¬ReconcileWaits told.clock told.oil)
    (near : ∀ c, told.oil.armed = true → told.oil.checkpoint = some c → c < v + told.oil.idleLoss) :
    settled h told = gaugeReported 0 (told.onOil fun o => { o with
      checkpoint := if o.armed = true then some (o.checkpoint.getD v) else none
      daysToDry := daysShown v told.gauge.dryT o.nozzle o.ring }) := by
  obtain ⟨sent, -⟩ := settled_level reported valid unopened level still
  have unchanged : told.oil.opened told.clock v false = (told.oil, []) := rfl
  rw [sent, oilTakes, Oil.sampleReport_volume, unchanged, Oil.idleCheck_keeps near]
  refine congrArg (gaugeReported 0) ?_
  rw [State.onOil, State.onOil, Oil.sampleReport_volume, unchanged, Oil.idleCheck_keeps near]
  rfl

end clauses

end Sys2Proof.Machine
end

section
/-! The statement about a valid sample's handoffs (O60). -/

namespace Sys2Proof.Machine

/-! ### A sample of a gauge that reports no volume -/

/-- The report and an update of the accounts do not meet. -/
theorem gaugeReported_onOil (kind : Nat) (f : Oil → Oil) (s : State) :
    gaugeReported kind (s.onOil f) = (gaugeReported kind s).onOil f := by
  by_cases due : s.gauge.reportDue = true
  · simp only [gaugeReported, State.onOil, due, if_true]
    rfl
  · have quiet := Bool.eq_false_iff.2 due
    rw [gaugeReported_quiet kind quiet, gaugeReported_quiet kind (s := s.onOil f) quiet]

theorem accounted_unreported {told : State} (unreported : told.gauge.reported = none) :
    accounted {} told = told.onOil fun o => { o with daysToDry := none } := by
  rw [accounted, handReport, unreported]
  rfl

/-- A sample without a volume: no days to dry, the report, and a reconciliation that waits stays marked. -/
theorem settled_unreported {told : State} (unreported : told.gauge.reported = none) :
    settled {} told = (gaugeReported 0 told).onOil fun o => { o with
      daysToDry := none
      due := if ReconcileWaits told.clock told.oil then true else o.due
      timerRuns := if ReconcileWaits told.clock told.oil then false else o.timerRuns } := by
  obtain ⟨oil, -, clock, volume, -, -⟩ := sent_kept told {}
  have waits : ReconcileWaits told.clock (accounted {} told).oil ↔ ReconcileWaits told.clock told.oil := by
    rw [accounted_unreported unreported]
    rfl
  rw [settled, reconcileAfterSample_eq, clock, oil]
  by_cases waiting : ReconcileWaits told.clock told.oil
  · rw [if_pos (waits.2 waiting), reconcileOrMark_marks (.inl (volume.trans unreported)),
      accounted_unreported unreported, gaugeReported_onOil]
    simp only [if_pos waiting]
    rfl
  · rw [if_neg (mt waits.1 waiting), accounted_unreported unreported, gaugeReported_onOil]
    simp only [if_neg waiting]

/-! ### The two remaining parts of the statement -/

/-- The report that a sample with a volume offers while one is due. -/
theorem Gauge.Reports.sends {g u : Gauge} {handed : Handoff} {t c : Nat} (reports : g.Reports u handed t c) {x : State}
    (gauge : x.gauge = { u with lastBand := x.gauge.lastBand }) (due : u.reportDue = true) :
    let restarted : Option Nat := if u.reportMin = 0 then none else some (u.reportMin * 60)
    (x.ports.houseTx.length < 15 → (gaugeReported 0 x).gauge.reportTimer = restarted ∧
      (gaugeReported 0 x).gauge.reportDropped = u.reportDropped ∧
      ∃ h w, u.lastH = some h ∧ u.lastV = some w ∧
        (gaugeReported 0 x).ports.houseTx = x.ports.houseTx ++ [{ frame :=
          { dest := 62, source := 0, kind := 0x35, tag := 0
            payload := leBytes 2 t ++ leBytes 2 c ++ leBytes 2 h ++ leBytes 2 w ++ leBytes 2 (u.s10 / 10) ++
              [BitVec.ofNat 8 u.band.code, (if u.rising = true then 14 else 10), 0] } }]) ∧
    (15 ≤ x.ports.houseTx.length → (gaugeReported 0 x).gauge.reportTimer = restarted ∧
      (gaugeReported 0 x).gauge.reportDropped = min 65535 (u.reportDropped + 1) ∧
      (gaugeReported 0 x).ports = x.ports) := by
  intro restarted
  obtain ⟨volume, -, -, -, marked, minutes, dropped, lastT, lastS, lastH, sentV, byte, band⟩ := Gauge.lastBand_only gauge
  obtain ⟨timer, accepted, refused⟩ := gaugeReported_due (marked.trans due)
  obtain ⟨h, w, head, level, payload⟩ := reports.payload
  rw [minutes] at timer
  rw [lastT, lastS, lastH, sentV, volume, byte, band, payload, dropped] at accepted
  rw [dropped] at refused
  exact ⟨fun room => ⟨timer, (accepted room).1, h, w, head, level, (accepted room).2⟩,
    fun full => ⟨timer, (refused full).1, (refused full).2⟩⟩

/-- The notices of a band change, by the band and the band last known (R130). -/
theorem bandNotices_rows (u : State) :
    (u.gauge.band = .low → u.gauge.lastBand ≠ some .low → bandNotices u =
      postInternal .oilLow (raise (oilLowNotice u.gauge.litres) u)) ∧
    (u.gauge.band = .dry → u.gauge.lastBand ≠ some .dry → bandNotices u =
      postInternal .oilDry (raise (oilDryNotice u.gauge.litres) u)) ∧
    (u.gauge.band = .normal → (u.gauge.lastBand = some .low ∨ u.gauge.lastBand = some .dry) →
      bandNotices u = postInternal .oilOk u) ∧
    ((some u.gauge.band = u.gauge.lastBand ∨ (u.gauge.band = .normal ∧ u.gauge.lastBand = none) ∨
      u.gauge.band = .unknown) → bandNotices u = u) := by
  refine ⟨fun low other => ?_, fun dry other => ?_, fun normal bad => ?_, fun same => ?_⟩
  · rw [bandNotices, low]
    rcases last : u.gauge.lastBand with _ | (_ | _ | _ | _)
    · rfl
    · rfl
    · rfl
    · exact absurd last other
    · rfl
  · rw [bandNotices, dry]
    rcases last : u.gauge.lastBand with _ | (_ | _ | _ | _)
    · rfl
    · rfl
    · rfl
    · rfl
    · exact absurd last other
  · rw [bandNotices, normal]
    rcases bad with last | last
    · rw [last]
    · rw [last]
  · rcases same with last | ⟨normal, last⟩ | unknown
    · rw [bandNotices, ← last]
      cases u.gauge.band <;> rfl
    · rw [bandNotices, normal, last]
    · rw [bandNotices, unknown]

/-- What a sample without a volume tells in front of the report: the restore alone, where the fault has ended. -/
theorem unreportedTold {s : State} {g : Gauge} {stays : Prop} [Decidable stays] (band : g.band = s.gauge.band)
    (fault : g.fault = decide stays) (standing : stays → s.gauge.fault = true) :
    sampleTold s g = if s.gauge.fault = true ∧ ¬stays then
        raise { bit := .gauge, code := 0x0A, value1 := 4 } ((s.onGauge fun _ => g).onOil fun u => { u with
          events := (if u.events.length < 16 then u.events else u.events.drop 1) ++
            [⟨.gaugeRestored, s.clock, none, none, 0, none⟩] })
      else s.onGauge fun _ => g := by
  have same : sampleTold s g = handFault s.gauge.fault s.gauge.reported none (s.onGauge fun _ => g) :=
    handBand_same (by rw [handFault_gauge]; exact band)
  rw [same]
  by_cases restores : s.gauge.fault = true ∧ ¬stays
  · rw [if_pos restores, restores.1]
    exact handFault_restores (fault.trans (decide_eq_false restores.2)) _ _
  · rw [if_neg restores]
    refine handFault_same (fault.trans ?_) _ _
    by_cases still : stays
    · rw [decide_eq_true still, standing still]
    · rw [decide_eq_false still]
      exact (Bool.eq_false_iff.2 fun set => restores ⟨set, still⟩).symm

/-- Settles O60. -/
theorem sampleIsHandedOn : Obligations.SampleIsHandedOn := by
  refine ⟨?_, ?_, ?_⟩
  · intro tank supply s on conv low high opened shorted clears tables hours g handed v taken sampled told o keep lost waiting
      restarted
    have reports := Gauge.takeSample_handed (g := s.gauge) (invalidKind_valid low high opened shorted) clears tables
    have healthy : g.fault = false := reports.fault
    have known : g.band ≠ .unknown := reports.band
    have valid : handed.invalid = none := reports.invalid
    have tells : sampleTold s g = told := by
      rw [sampleTold_band healthy known, sampleTold_fault healthy]
    have gauge : told.gauge = { g with lastBand := told.gauge.lastBand } := tells ▸ sampleTold_gauge healthy known
    obtain ⟨clock, interval⟩ := sampleTold_accounts (s := s) healthy
    rw [tells] at clock interval
    have works : exec (.sampleTaken tank) s = .next (settled handed told) := by
      rw [exec_sampleTaken on conv, handSample_settled _ valid, ← tells]
    have hours' : 1 ≤ told.oil.reconcileHours := interval ▸ hours
    obtain ⟨volume, rising, cand, dryT, due, minutes, dropped, lastT, lastS, lastH, sentV, byte, band⟩ :=
      Gauge.lastBand_only gauge
    have reported : told.gauge.reported = some v := volume.trans reports.volume
    have near : ¬lost → ∀ c, told.oil.armed = true → told.oil.checkpoint = some c → c < v + told.oil.idleLoss :=
      fun kept c armed stands => Nat.not_le.1 fun far => kept ⟨armed, c, stands, far⟩
    have waits : ReconcileWaits told.clock told.oil ↔ waiting := by rw [clock]
    refine ⟨settled handed told, works, settled_frame handed told, fun quiet => settled_gauge (due.trans quiet), ?_,
      fun first unbased => ?_, fun first => ?_, fun b a c rise armed stands far => ?_, fun b a rise kept => ?_,
      fun unopened level still c armed stands far => ?_, fun unopened level still kept => ?_,
      fun based marked level quiet unopened => ?_⟩
    · rw [settled_days reported valid, dryT]
      rfl
    · obtain ⟨based, base, used, remainder, firing, time, due, runs, -⟩ :=
        settled_opens reported valid first (reports.opens first) hours'
      exact ⟨based, base, used, remainder, firing, clock ▸ time, due, runs⟩
    · have opens := settled_opens reported valid first (reports.opens first) hours'
      rw [clock] at opens
      exact opens
    · have unopened : handed.first = false := by
        refine Classical.byContradiction fun first => ?_
        rw [reports.opens (by simpa using first)] at rise
        cases rise
      have rises := settled_risesAfterLoss reported valid unopened rise hours' armed stands far
      rw [clock] at rises
      exact rises
    · have unopened : handed.first = false := by
        refine Classical.byContradiction fun first => ?_
        rw [reports.opens (by simpa using first)] at rise
        cases rise
      have rises := settled_rises reported valid unopened rise hours' (near kept)
      rw [clock] at rises
      exact rises
    · have loses := settled_loses reported valid unopened level (mt waits.1 still) armed stands far
      rw [clock] at loses
      exact loses
    · have sent := settled_quiet reported valid unopened level (mt waits.1 still) (near kept)
      rw [gaugeReported_onOil] at sent
      obtain ⟨oil, mgmt, -⟩ := gaugeReported_frame 0 told
      rw [sent, State.onOil, oil, mgmt]
      refine ⟨rfl, rfl, fun quiet => ?_, fun offered => (reports.sends gauge offered).1,
        fun offered => (reports.sends gauge offered).2⟩
      rw [gaugeReported_quiet 0 (due.trans quiet)]
    · have settles := settled_marked reported valid unopened based marked (rising.trans level) (cand.trans quiet) hours'
        reports.rises
      rw [clock] at settles
      exact settles
  · intro tank supply s on conv low high opened shorted tables stays silent taken told waiting
    have sampled := Gauge.takeSample_silent (g := s.gauge) (invalidKind_valid low high opened shorted) silent
    have state : (s.gauge.takeSample tank.toNat supply.toNat).1.state ≠ .valid := by
      rw [sampled]
      by_cases few : (strapPoints s.gauge.live).length < 2
      · rw [Gauge.state, if_pos few]
        nofun
      · have still : stays := silent.resolve_left (Classical.not_not.2 (Nat.not_lt.1 few))
        rw [Gauge.state, if_neg few]
        dsimp only
        rw [if_pos (decide_eq_true still)]
        nofun
    have tells : sampleTold s (s.gauge.takeSample tank.toNat supply.toNat).1 = told :=
      unreportedTold (stays := stays) (by rw [sampled]) (by rw [sampled]) fun still => still.1
    have handed : (s.gauge.takeSample tank.toNat supply.toNat).2 = {} := by rw [sampled]
    have works : exec (.sampleTaken tank) s = .next (settled {} told) := by
      rw [exec_sampleTaken on conv, handed, handSample_settled _ rfl, ← tells]
    have gauge : told.gauge = (s.gauge.takeSample tank.toNat supply.toNat).1 := by
      simp only [told]
      split <;> simp [taken]
    have unreported : told.gauge.reported = none := by
      rw [gauge]
      exact if_neg fun reports => state (Gauge.reportable_iff.1 reports).1
    have clock : told.clock = s.clock := by
      simp only [told]
      split <;> simp [taken]
    have oil : told.oil = { s.oil with events := told.oil.events } := by
      simp only [told]
      split <;> simp [taken]
    have waits : ReconcileWaits told.clock told.oil ↔ waiting := by rw [clock, oil]
    rw [works, settled_unreported unreported]
    by_cases waiting' : waiting
    · simp only [if_pos waiting', if_pos (waits.2 waiting')]
    · simp only [if_neg waiting', if_neg (mt waits.1 waiting')]
  · exact bandNotices_rows

end Sys2Proof.Machine
end

section
/-! What an accepted image loads, field by field (R18, R37, R132, R181). -/

namespace Sys2Proof.Machine

variable {body : List Byte}

/-! ### The values of a body -/

theorem bodyValue_byte (body : List Byte) (a : Nat) : bodyValue body a 1 = byteAt body a := by
  have head : (body.drop a).take 1 = body[a]?.toList := by rw [List.take_one, List.head?_drop]
  rw [bodyValue, byteAt, head, List.getD_eq_getElem?_getD]
  cases body[a]? <;> simp [ofLE]

theorem bodyValue_word (body : List Byte) (a : Nat) : bodyValue body a 2 = wordAt body a := by
  have pair : (body.drop a).take 2 = body[a]?.toList ++ (body.drop (a + 1)).take 1 := by
    cases rest : body.drop a with
    | nil =>
      have beyond : body.length ≤ a := List.drop_eq_nil_iff.1 rest
      rw [List.getElem?_eq_none beyond, List.drop_eq_nil_of_le (by omega)]
      rfl
    | cons b rest' =>
      have first : body[a]? = some b := by rw [← List.head?_drop, rest, List.head?_cons]
      have tail : body.drop (a + 1) = rest' := by rw [← List.tail_drop, rest, List.tail_cons]
      rw [first, tail]
      rfl
  have second := bodyValue_byte body (a + 1)
  rw [bodyValue] at second
  rw [bodyValue, wordAt, pair]
  cases here : body[a]? with
  | none =>
    have beyond : body.length ≤ a := List.getElem?_eq_none_iff.1 here
    have later : body[a + 1]? = none := List.getElem?_eq_none_iff.2 (by omega)
    rw [List.drop_eq_nil_of_le (by omega : body.length ≤ a + 1)]
    simp [byteAt, here, later, ofLE]
  | some b =>
    have value : byteAt body a = b.toNat := by simp [byteAt, here]
    rw [value, ← second]
    rfl

theorem bodyValue_signed (body : List Byte) (a : Nat) : signed16 (bodyValue body a 2) = signedAt body a := by
  rw [bodyValue_word]
  rfl

/-! ### The address map (R18) -/

theorem loadEntry_eq (body : List Byte) (i : Nat) : loadEntry body i = entryLoaded body i := by
  have limited : ∀ b : Byte, (if 63 < b then 63 else b) = BitVec.ofNat 8 (nearest 0 63 b.toNat) := by decide
  have cls : ∀ b : Byte, (AddrClass.ofCode b).getD .blocked = (match b.toNat with
      | 0 => .room
      | 1 => .listener
      | 2 => .service
      | _ => .blocked) := by decide
  have place : ∀ k, byteAt body (0x040 + k + 4 * i) = (body.getD (0x040 + 4 * i + k) 0).toNat := by
    intro k
    rw [byteAt, Nat.add_right_comm]
  have pattern := place 1
  have mask := place 2
  have kind := place 3
  rw [entryLoaded, pattern, mask, kind, ← limited, ← limited]
  exact congrArg (entryOf (body.getD (0x040 + 4 * i) 0) _ _) (cls (body.getD (0x040 + 4 * i + 3) 0))

/-! ### The strapping table (R132, R133) -/

theorem bodyTable_eq (body : List Byte) : bodyTable body = (List.range 24).map (strapLoaded body) := by
  refine List.map_congr_left fun i _ => ?_
  rw [bodyValue_word, bodyValue_word, depthOf_eq]
  rfl

theorem strapDisorder_eq_none_iff (ps : List (Nat × Nat)) (i : Nat) :
    strapDisorder i ps = none ↔ ps.Pairwise fun a b => a.1 < b.1 ∧ a.2 < b.2 := by
  refine ⟨fun ordered => ?_, strapDisorder_none⟩
  induction ps generalizing i with
  | nil => exact .nil
  | cons p ps ih =>
    cases ps with
    | nil => exact List.pairwise_singleton _ _
    | cons q rest =>
      rw [strapDisorder] at ordered
      split at ordered
      · cases ordered
      · rename_i rises
        have later := ih _ ordered
        have next : p.1 < q.1 ∧ p.2 < q.2 := ⟨by omega, by omega⟩
        refine List.pairwise_cons.2 ⟨fun x mem => ?_, later⟩
        obtain rfl | mem := List.mem_cons.1 mem
        · exact next
        · have further := (List.pairwise_cons.1 later).1 x mem
          exact ⟨Nat.lt_trans next.1 further.1, Nat.lt_trans next.2 further.2⟩

theorem checkStrap_good_iff (ps : List (Nat × Nat)) : checkStrap ps = .good ↔ StrapGood ps := by
  by_cases long : 2 ≤ ps.length
  · by_cases level : ps.head?.map (·.1) = some 0
    · rw [checkStrap_level long level, StrapGood, ← strapDisorder_eq_none_iff ps 1]
      cases strapDisorder 1 ps <;> simp [long, level]
    · refine iff_of_false ?_ fun good => level good.2.1
      match ps with
      | [] => simp at long
      | p :: rest =>
        rw [checkStrap_raised (by simpa using long) (by simpa using level)]
        simp
  · rw [checkStrap_short (by omega)]
    exact iff_of_false (by simp) fun good => long good.1

theorem loadTable_eq (body : List Byte) : loadTable body =
    if StrapGood (strapPoints ((List.range 24).map (strapLoaded body))) then (List.range 24).map (strapLoaded body)
    else List.replicate 24 {} := by
  rw [← bodyTable_eq, loadTable]
  by_cases good : checkStrap (strapPoints (bodyTable body)) = .good
  · rw [if_pos ((checkStrap_good_iff _).1 good), good]
  · rw [if_neg (mt (checkStrap_good_iff _).2 good)]
    split
    · exact absurd ‹_› good
    · rfl

/-! ### The zone records (R35, R37) -/

theorem loadSlotByte_eq (body : List Byte) (a : Nat) : loadSlotByte body a =
    if 1 ≤ body.getD a 0 ∧ body.getD a 0 ≤ 61 then some (body.getD a 0) else none := by
  have kept : ∀ b : Byte, (slotValue b.toNat).getD none = if 1 ≤ b ∧ b ≤ 61 then some b else none := by decide
  rw [loadSlotByte, bodyValue_byte, byteAt, kept]

theorem slotBytes_getElem? (body : List Byte) {k : Nat} (within : k < 16) :
    (slotBytes body)[k]? = some (loadSlotByte body (0x081 + 32 * (k / 2) + k % 2)) := by
  match k, within with
  | 0, _ | 1, _ | 2, _ | 3, _ | 4, _ | 5, _ | 6, _ | 7, _ => rfl
  | 8, _ | 9, _ | 10, _ | 11, _ | 12, _ | 13, _ | 14, _ | 15, _ => rfl
  | k + 16, within => exact absurd within (by omega)

theorem keptSlot_loaded (body : List Byte) {k : Nat} (within : k < 16) : keptSlot body k = slotKept body k := by
  have earlier : ∀ a : Byte, 1 ≤ a ∧ a ≤ 61 →
      (some a ∈ (slotBytes body).take k ↔ ∃ j < k, slotByte body j = a) := by
    intro a device
    have member : some a ∈ (slotBytes body).take k ↔ ∃ j < k, (slotBytes body)[j]? = some (some a) := by
      rw [List.mem_iff_getElem?]
      refine exists_congr fun j => ?_
      rw [List.getElem?_take]
      by_cases less : j < k <;> simp [less]
    rw [member]
    refine exists_congr fun j => and_congr_right fun less => ?_
    rw [slotBytes_getElem? body (Nat.lt_trans less within), loadSlotByte_eq, slotByte, Option.some_inj]
    by_cases here : 1 ≤ body.getD (0x081 + 32 * (j / 2) + j % 2) 0 ∧ body.getD (0x081 + 32 * (j / 2) + j % 2) 0 ≤ 61
    · rw [if_pos here, Option.some_inj]
    · rw [if_neg here]
      exact iff_of_false (by simp) fun same => here (same ▸ device)
  rw [keptSlot_eq, List.getD_eq_getElem?_getD, slotBytes_getElem? body within, Option.getD_some, loadSlotByte_eq, slotKept]
  rw [show body.getD (0x081 + 32 * (k / 2) + k % 2) 0 = slotByte body k from rfl]
  by_cases device : 1 ≤ slotByte body k ∧ slotByte body k ≤ 61
  · have once := earlier _ device
    rw [if_pos device]
    by_cases met : ∃ j < k, slotByte body j = slotByte body k
    · rw [if_neg fun kept => by obtain ⟨j, less, same⟩ := met; exact kept.2.2 j less same]
      simp [Option.filter, once.2 met]
    · rw [if_pos ⟨device.1, device.2, fun j less same => met ⟨j, less, same⟩⟩]
      simp [Option.filter, mt once.1 met]
  · rw [if_neg device, if_neg fun kept => device ⟨kept.1, kept.2.1⟩]
    rfl

theorem loadZones_loaded (body : List Byte) (z : Fin 8) : ZoneLoaded body z ((loadZones body).get z) := by
  have natural : ∀ (f : ZoneNum) (lo hi v : Nat), f.range = ((lo : Int), (hi : Int)) → f.value v = (v : Int) →
      (f.clamp v).toNat = nearest lo hi v := by
    intro f lo hi v range value
    rw [ZoneNum.clamp, range, value]
    exact congrArg Int.toNat (clampInt_natural lo hi v)
  have byte : ∀ k, bodyValue body (zoneBase z + k) 1 = byteAt body (0x080 + k + 32 * z.val) := by
    intro k
    rw [bodyValue_byte, zoneBase_add]
  have signed : ∀ k, signed16 (bodyValue body (zoneBase z + k) 2) = signedAt body (0x080 + k + 32 * z.val) := by
    intro k
    rw [bodyValue_signed, zoneBase_add]
  have byteNum : ∀ (f : ZoneNum) (lo hi k : Nat), f.range = ((lo : Int), (hi : Int)) →
      (∀ v, f.value v = (v : Int)) →
      (f.clamp (bodyValue body (zoneBase z + k) 1)).toNat = nearest lo hi (byteAt body (0x080 + k + 32 * z.val)) := by
    intro f lo hi k range value
    rw [natural f lo hi _ range (value _), byte]
  obtain ⟨one, two⟩ := loadZone_slots body z
  rw [keptSlot_loaded body (by omega), keptSlot_loaded body (by omega)] at one two
  have whole : (loadZones body).get z = loadZone body (dropRepeats [] (slotBytes body)) z := by
    rw [loadZones, Eight.get_ofFn]
  have enabled : ∀ (v : Nat) (d : Bool), (boolOf v).getD d = if v ≤ 1 then decide (v = 1) else d := by
    intro v d
    match v with
    | 0 | 1 | n + 2 => simp [boolOf]
  have route : ∀ v : Nat, ((routeOf v).getD none).map (·.val) = if v < 8 then some v else none := by
    intro v
    by_cases low : v < 8
    · simp [routeOf, low, show v ≠ 255 by omega]
    · by_cases absent : v = 255 <;> simp [routeOf, low, absent]
  refine ⟨?enabled, ?slots, ?route, ?priority, ?hyst, ?frost, ?stale, ?onTime, ?economy, ?ovSet, ?ovDur⟩
  case slots =>
    rw [one, two]
    cases first : slotKept body (2 * z.val) with
    | none =>
      rw [if_pos rfl]
      exact ⟨rfl, rfl⟩
    | some a =>
      rw [if_neg (Option.some_ne_none a)]
      exact ⟨rfl, rfl⟩
  all_goals rw [whole]
  case enabled =>
    refine (enabled (bodyValue body (zoneBase z + 0) 1) (decide (z = 0))).trans ?_
    rw [byte]
  case route =>
    refine (route (bodyValue body (zoneBase z + 3) 1)).trans ?_
    rw [byte]
  case priority => exact byteNum .priority 0 3 4 rfl fun _ => rfl
  case hyst => exact byteNum .hyst 1 20 5 rfl fun _ => rfl
  case frost => exact congrArg (nearestInt 30 120) (signed 6)
  case stale => exact byteNum .stale 5 120 8 rfl fun _ => rfl
  case onTime => exact byteNum .onTime 0 30 9 rfl fun _ => rfl
  case economy => exact byteNum .economy 0 50 10 rfl fun _ => rfl
  case ovSet => exact congrArg (nearestInt 50 300) (signed 12)
  case ovDur => rfl

/-! ### The whole image (R181) -/

theorem loadThresholds_eq (body : List Byte) (s : State) : loadThresholds body s = s.onGauge fun g => { g with
    dryT := if bodyValue body 0x20A 2 < bodyValue body 0x20C 2 then bodyValue body 0x20A 2 else 150
    lowT := if bodyValue body 0x20A 2 < bodyValue body 0x20C 2 then bodyValue body 0x20C 2 else 500 } := by
  by_cases ordered : bodyValue body 0x20A 2 < bodyValue body 0x20C 2 <;> simp [loadThresholds, State.onGauge, ordered]

theorem loadedPart_settings (body : List Byte) : SettingsLoaded body (loadedPart body) := by
  have byte : ∀ (f : Num) (a : Nat), f.clamp (bodyValue body a 1) = nearest f.range.1 f.range.2 (byteAt body a) := by
    intro f a
    rw [Num.clamp_eq, bodyValue_byte]
  have word : ∀ (f : Num) (a : Nat), f.clamp (bodyValue body a 2) = nearest f.range.1 f.range.2 (wordAt body a) := by
    intro f a
    rw [Num.clamp_eq, bodyValue_word]
  have flag : ∀ k, (bodyValue body 0x008 1).testBit k = (body.getD 0x008 0).getLsbD k := by
    intro k
    rw [bodyValue_byte]
    rfl
  have auto : ∀ v : Nat, (boolOf v).getD false = decide (v = 1) := by
    intro v
    match v with
    | 0 | 1 | n + 2 => simp [boolOf]
  rw [loadedPart, loadThresholds_eq]
  refine ⟨⟨flag 0, flag 1, flag 2, flag 3⟩, List.map_congr_left fun i _ => loadEntry_eq body i, loadZones_loaded body,
    ⟨byte .limit _, byte .turnLen _, byte .travelTime _, word .overrunTime _⟩,
    ⟨byte .startLimit _, byte .runoutLimit _, word .backOff _⟩,
    ⟨?auto, byte .budgetMax _, byte .window _, byte .pulseLen _, word .coolOff _, word .spacing _, byte .gapLen _,
      byte .holdTime _, word .provingTime _⟩,
    ⟨word .interval _, word .zero _, word .scale _, byte .shift _, byte .bandHyst _, word .delivery _,
      byte .reportInterval _⟩, ?thresholds, ⟨loadTable_eq body, rfl⟩,
    ⟨word .nozzle _, byte .reconcileHours _, byte .idleLoss _, word .runLoss _, word .deliveryLoss _⟩⟩
  case auto =>
    refine (auto (bodyValue body 0x1C4 1)).trans ?_
    rw [bodyValue_byte]
  case thresholds =>
    rw [← bodyValue_word, ← bodyValue_word]
    exact ⟨rfl, rfl⟩

theorem ZoneLoaded.settingsFrom {z : Fin 8} {src : Zone} (loaded : ZoneLoaded body z src) (t : Zone) :
    ZoneLoaded body z (src.settingsFrom t) :=
  ⟨loaded.enabled, loaded.slots, loaded.route, loaded.priority, loaded.hyst, loaded.frostSet, loaded.stale,
    loaded.onTime, loaded.economy, loaded.ovSet, rfl⟩

/-- Settings taken from a part that has loaded a body are those of the body. -/
theorem SettingsLoaded.copySettings {src : State} (loaded : SettingsLoaded body src) (s : State) :
    SettingsLoaded body (copySettings src s) where
  flags := loaded.flags
  map := loaded.map
  zones z := by
    rw [State.zone, Machine.copySettings]
    dsimp only
    rw [Eight.get_ofFn]
    exact (loaded.zones z).settingsFrom _
  rotation := loaded.rotation
  burner := loaded.burner
  recovery := loaded.recovery
  gauge := loaded.gauge
  thresholds := loaded.thresholds
  table := loaded.table
  oil := loaded.oil

/-- A part whose settings are those of the source of a load has the settings that follow a load. -/
theorem settingsAfterLoad_of_source {ack : Bool} {t : Store} {u : State} (same : u = copySettings (loadSource ack t) u) :
    SettingsAfterLoad ack t u := by
  rw [SettingsAfterLoad]
  by_cases accepted : imageAccepted ack t = true
  · rw [loadSource, if_pos accepted] at same
    rw [if_pos accepted, same]
    exact (loadedPart_settings _).copySettings u
  · rw [loadSource, if_neg accepted] at same
    rwa [if_neg accepted]

/-- Every slot of the source of a load is without a live part. -/
theorem loadSource_slots (ack : Bool) (t : Store) (z : Fin 8) :
    ((loadSource ack t).zone z).slot1 = { addr := ((loadSource ack t).zone z).slot1.addr } ∧
    ((loadSource ack t).zone z).slot2 = { addr := ((loadSource ack t).zone z).slot2.addr } := by
  rw [loadSource]
  split
  · obtain ⟨one, two⟩ := loadZone_slots (imageBody t) z
    have bare : ∀ a b : Option Byte, (slotPair a b).1 = { addr := (slotPair a b).1.addr } ∧
        (slotPair a b).2 = { addr := (slotPair a b).2.addr } := by
      intro a b
      cases a <;> exact ⟨rfl, rfl⟩
    have zones : (loadedPart (imageBody t)).zone z = (loadZones (imageBody t)).get z := by
      rw [loadedPart, loadThresholds_eq]
      rfl
    rw [zones, one, two]
    exact bare _ _
  · revert z
    decide

end Sys2Proof.Machine
end

section
/-! The zones at their reset values and their first handoffs (R55, R56, R61, R77). -/

namespace Sys2Proof.Machine

/-! ### What the demand conditions change outside FIRING -/

/-- `c` differs from `b` at most in DEMAND, the burner state and its timer, and the state is not FIRING. -/
structure Burner.Judged (b c : Burner) : Prop where
  frame : c = { b with demand := c.demand, state := c.state, timer := c.timer }
  outside : c.state ≠ .firing

theorem Burner.Judged.trans {b c d : Burner} (first : b.Judged c) (second : c.Judged d) : b.Judged d where
  frame := by rw [second.frame, first.frame]
  outside := second.outside

section judged

variable {s : State}

theorem judgeDemand_cases (outside : s.burner.state ≠ .firing) : judgeDemand s = s ∨
    judgeDemand s = s.onBurner Burner.start ∨ judgeDemand s = s.onBurner Burner.toRunout := by
  by_cases settled : s.burner.settled = true
  · by_cases idle : s.burner.state = .idle
    · rw [judgeDemand_idle settled idle]
      split
      · exact .inr (.inl rfl)
      · exact .inl rfl
    · by_cases starting : s.burner.state = .starting
      · rw [judgeDemand_starting settled starting]
        split
        · exact .inl rfl
        · exact .inr (.inr rfl)
      · exact .inl (judgeDemand_quiet idle starting outside)
  · exact .inl (judgeDemand_settling (Bool.eq_false_iff.2 settled))

theorem judgeDemand_judged (outside : s.burner.state ≠ .firing) :
    s.burner.Judged (judgeDemand s).burner ∧ (judgeDemand s).oil = s.oil := by
  obtain same | same | same := judgeDemand_cases outside <;> rw [same]
  · exact ⟨⟨rfl, outside⟩, rfl⟩
  · exact ⟨⟨rfl, BurnerState.noConfusion⟩, rfl⟩
  · exact ⟨⟨rfl, BurnerState.noConfusion⟩, rfl⟩

/-- The Supervisor judges nothing: it settles, or its state is none of those that the demand conditions move (R80, R82). -/
def Burner.Quiet (b : Burner) : Prop :=
  b.settled = false ∨ (b.state ≠ .idle ∧ b.state ≠ .starting ∧ b.state ≠ .firing)

theorem judgeDemand_of_quiet (quiet : s.burner.Quiet) : judgeDemand s = s := by
  obtain settling | ⟨idle, starting, firing⟩ := quiet
  · exact judgeDemand_settling settling
  · exact judgeDemand_quiet idle starting firing

theorem rotationEvent_judged (f : Rotation → Rotation) (outside : s.burner.state ≠ .firing) :
    s.burner.Judged (rotationEvent f s).burner ∧ (rotationEvent f s).oil = s.oil := by
  rw [rotationEvent_eq]
  split
  · exact ⟨⟨rfl, outside⟩, rfl⟩
  · exact judgeDemand_judged (s := { s with rot := (rotationEvent f s).rot }) outside

theorem rotationEvent_of_quiet (f : Rotation → Rotation) (quiet : s.burner.Quiet) :
    (rotationEvent f s).burner = s.burner := by
  rw [rotationEvent_eq]
  split
  · rfl
  · rw [judgeDemand_of_quiet (s := { s with rot := (rotationEvent f s).rot }) quiet]

end judged

/-! ### The settings of the Rotation Unit -/

/-- The settings and the time of the last firing second stand. -/
abbrev Rotation.SameSettings (r q : Rotation) : Prop :=
  q.limit = r.limit ∧ q.turnLen = r.turnLen ∧ q.travelTime = r.travelTime ∧ q.overrunTime = r.overrunTime ∧
    q.bypass = r.bypass ∧ q.lastFiring = r.lastFiring

section settings

variable {now : Clock}

theorem Rotation.SameSettings.trans {r q p : Rotation} (first : r.SameSettings q) (second : q.SameSettings p) :
    r.SameSettings p := by
  obtain ⟨a, b, c, d, e, f⟩ := first
  obtain ⟨a', b', c', d', e', f'⟩ := second
  exact ⟨a'.trans a, b'.trans b, c'.trans c, d'.trans d, e'.trans e, f'.trans f⟩

theorem fillFrom_settings (ws : List Wait) (r : Rotation) : r.SameSettings (fillFrom now ws r) := by
  induction ws generalizing r with
  | nil => exact ⟨rfl, rfl, rfl, rfl, rfl, rfl⟩
  | cons w ws ih =>
    unfold fillFrom
    split
    · exact ih (r.grant now w)
    · exact ⟨rfl, rfl, rfl, rfl, rfl, rfl⟩

theorem swapLoop_settings (n : Nat) (r : Rotation) : r.SameSettings (swapLoop now n r) := by
  induction n generalizing r with
  | zero => exact ⟨rfl, rfl, rfl, rfl, rfl, rfl⟩
  | succ n ih =>
    unfold swapLoop
    split
    · split
      · exact ih _
      · exact ⟨rfl, rfl, rfl, rfl, rfl, rfl⟩
    · exact ⟨rfl, rfl, rfl, rfl, rfl, rfl⟩

theorem Rotation.startOfCall_settings (z : Fin 8) (rank : Nat) (r : Rotation) :
    r.SameSettings (r.startOfCall now z rank) :=
  (fillFrom_settings _ (r.join now z rank)).trans (swapLoop_settings _ _)

theorem Rotation.settle_settings (routes : Routes) (r : Rotation) : r.SameSettings (r.settle routes) :=
  ⟨rfl, rfl, rfl, rfl, rfl, rfl⟩

/-- One start of call at rank 4, the Rotation Unit settled after it (R60, R61). -/
def Rotation.startedAt (now : Clock) (routes : Routes) (r : Rotation) (z : Fin 8) : Rotation :=
  (r.startOfCall now z 4).settle routes

theorem foldl_startedAt_settings (routes : Routes) (l : List (Fin 8)) (r : Rotation) :
    r.SameSettings (l.foldl (Rotation.startedAt now routes) r) := by
  induction l generalizing r with
  | nil => exact ⟨rfl, rfl, rfl, rfl, rfl, rfl⟩
  | cons z l ih => exact ((r.startOfCall_settings z 4).trans (Rotation.settle_settings routes _)).trans (ih _)

end settings

/-! ### One first handoff -/

section handStart

variable {s : State}

/-- The record with its rank handed over (R50). -/
def Zone.handOn (z : Zone) : Zone := { z with handed := z.rank }

theorem handStart_eq (i : Fin 8) (s : State) : handStart i s = match (s.zone i).rank with
    | some k => rotationEvent (·.startOfCall s.clock i k) (s.onZone i Zone.handOn)
    | none => s.onZone i Zone.handOn := by
  rw [handStart]
  cases (s.zone i).rank <;> rfl

theorem handStart_zone (i j : Fin 8) (s : State) :
    (handStart i s).zone j = if j = i then (s.zone j).handOn else s.zone j := by
  have kept : (handStart i s).zone j = (s.onZone i Zone.handOn).zone j := by
    rw [handStart_eq]
    cases (s.zone i).rank <;> simp [State.zone]
  rw [kept]
  refine (Eight.get_set _ i j _).trans ?_
  by_cases same : j = i
  · rw [if_pos same, if_pos same, same]
    rfl
  · rw [if_neg same, if_neg same]
    rfl

theorem Eight.ext_get {α : Type} {e f : Eight α} (same : ∀ i, e.get i = f.get i) : e = f := by
  obtain ⟨a0, a1, a2, a3, a4, a5, a6, a7⟩ := e
  exact Eight.mk.injEq .. ▸ ⟨same 0, same 1, same 2, same 3, same 4, same 5, same 6, same 7⟩

theorem routesOf_congr {s t : State} (same : ∀ i, (t.zone i).route = (s.zone i).route) : routesOf t = routesOf s :=
  Eight.ext_get fun i => by rw [routesOf_get, routesOf_get, same]

theorem onZone_handOn_routes (i : Fin 8) (s : State) : routesOf (s.onZone i Zone.handOn) = routesOf s := by
  refine routesOf_congr fun j => ?_
  have stored : (s.onZone i Zone.handOn).zone j = if j = i then (s.zone i).handOn else s.zone j := Eight.get_set _ i j _
  rw [stored]
  by_cases same : j = i
  · rw [if_pos same, same]
    rfl
  · rw [if_neg same]

theorem handStart_rot (i : Fin 8) (rank : (s.zone i).rank = if (s.zone i).state = .fallbackOn then some 4 else none) :
    (handStart i s).rot = if (s.zone i).state = .fallbackOn then s.rot.startedAt s.clock (routesOf s) i else s.rot := by
  rw [handStart_eq, rank]
  by_cases on : (s.zone i).state = .fallbackOn
  · rw [if_pos on, if_pos on]
    refine (rotationEvent_rot _ _).trans ?_
    rw [onZone_handOn_routes]
    rfl
  · rw [if_neg on, if_neg on]
    rfl

theorem handStart_judged (i : Fin 8) (outside : s.burner.state ≠ .firing) :
    s.burner.Judged (handStart i s).burner ∧ (handStart i s).oil = s.oil := by
  rw [handStart_eq]
  cases (s.zone i).rank with
  | none => exact ⟨⟨rfl, outside⟩, rfl⟩
  | some k => exact rotationEvent_judged (s := s.onZone i Zone.handOn) _ outside

theorem handStart_of_quiet (i : Fin 8) (quiet : s.burner.Quiet) : (handStart i s).burner = s.burner := by
  rw [handStart_eq]
  cases (s.zone i).rank with
  | none => rfl
  | some k => exact rotationEvent_of_quiet (s := s.onZone i Zone.handOn) _ quiet

/-- What a first handoff leaves of the zones' records. -/
theorem handStart_kept (i j : Fin 8) (s : State) : ((handStart i s).zone j).state = (s.zone j).state ∧
    ((handStart i s).zone j).rank = (s.zone j).rank ∧ ((handStart i s).zone j).route = (s.zone j).route := by
  rw [handStart_zone]
  split <;> exact ⟨rfl, rfl, rfl⟩

end handStart

/-! ### All first handoffs -/

section handStarts

variable {s : State}

/-- The first handoffs of these zones, in order. -/
def handStarts (l : List (Fin 8)) (s : State) : State := l.foldl (fun t i => handStart i t) s

theorem handStarts_zone (l : List (Fin 8)) (j : Fin 8) (s : State) :
    (handStarts l s).zone j = if j ∈ l then (s.zone j).handOn else s.zone j := by
  induction l generalizing s with
  | nil => rfl
  | cons i l ih =>
    have again : (s.zone j).handOn.handOn = (s.zone j).handOn := rfl
    refine (ih (handStart i s)).trans ?_
    rw [handStart_zone]
    by_cases same : j = i
    · rw [if_pos same, if_pos (List.mem_cons.2 (.inl same)), again, ite_self]
    · rw [if_neg same]
      exact ite_congr (by simp [same]) (fun _ => rfl) fun _ => rfl

theorem handStarts_rot (l : List (Fin 8))
    (ranks : ∀ z, (s.zone z).rank = if (s.zone z).state = .fallbackOn then some 4 else none) :
    (handStarts l s).rot = (l.filter fun z => decide ((s.zone z).state = .fallbackOn)).foldl
      (Rotation.startedAt s.clock (routesOf s)) s.rot := by
  induction l generalizing s with
  | nil => rfl
  | cons i l ih =>
    have kept := fun z => handStart_kept i z s
    have later := ih (s := handStart i s) fun z => by
      obtain ⟨state, rank, -⟩ := kept z
      rw [state, rank, ranks z]
    have routes : routesOf (handStart i s) = routesOf s := routesOf_congr fun z => (kept z).2.2
    have clock : (handStart i s).clock = s.clock := by simp
    have states : (fun z => decide (((handStart i s).zone z).state = .fallbackOn)) =
        fun z => decide ((s.zone z).state = .fallbackOn) := funext fun z => by rw [(kept z).1]
    refine later.trans ?_
    rw [routes, clock, states, handStart_rot i (ranks i)]
    by_cases on : (s.zone i).state = .fallbackOn <;> simp [on]

theorem handStarts_judged (l : List (Fin 8)) (outside : s.burner.state ≠ .firing) :
    s.burner.Judged (handStarts l s).burner ∧ (handStarts l s).oil = s.oil := by
  induction l generalizing s with
  | nil => exact ⟨⟨rfl, outside⟩, rfl⟩
  | cons i l ih =>
    obtain ⟨judged, oil⟩ := handStart_judged i outside
    obtain ⟨later, kept⟩ := ih judged.outside
    exact ⟨judged.trans later, kept.trans oil⟩

theorem handStarts_of_quiet (l : List (Fin 8)) (quiet : s.burner.Quiet) : (handStarts l s).burner = s.burner := by
  induction l generalizing s with
  | nil => rfl
  | cons i l ih =>
    have first := handStart_of_quiet i quiet
    exact (ih (s := handStart i s) (first.symm ▸ quiet)).trans first

end handStarts

/-! ### The zones restarted (R55, R56) -/

section restartZones

variable {s : State}

/-- The part with every zone at its reset values, before the first handoffs. -/
def zonesReset (s : State) : State := s.onZones fun u => { u with recs := u.recs.map (Zone.restarted s.gauge.band s.clock) }

theorem restartZones_eq (s : State) : restartZones s = handStarts eightNumbers (zonesReset s) := rfl

theorem zonesReset_zone (s : State) (i : Fin 8) :
    (zonesReset s).zone i = (s.zone i).restarted s.gauge.band s.clock := Eight.get_map _ _ i

theorem restartZones_zone (s : State) (i : Fin 8) :
    (restartZones s).zone i = ((s.zone i).restarted s.gauge.band s.clock).handOn := by
  have member : ∀ i, i ∈ eightNumbers := by decide
  rw [restartZones_eq, handStarts_zone, if_pos (member i), zonesReset_zone]

theorem Zone.restarted_state (band : Band) (now : Clock) (z : Zone) : (z.restarted band now).state =
    if z.enabled = false then .off else if 0 < z.onTime then .fallbackOn else .fallbackRest := by
  rw [Zone.restarted]
  cases z.enabled <;> rfl

theorem Zone.restarted_rank (band : Band) (now : Clock) (z : Zone) : (z.restarted band now).rank =
    if (z.restarted band now).state = .fallbackOn then some 4 else none := by
  rw [Zone.rank_eq, Zone.restarted_state]
  by_cases enabled : z.enabled = false <;> by_cases phase : 0 < z.onTime <;> simp [enabled, phase]

theorem restartZones_routes (s : State) : routesOf (restartZones s) = routesOf s := by
  refine routesOf_congr fun i => ?_
  rw [restartZones_zone, Zone.restarted]
  split <;> rfl

theorem zonesReset_routes (s : State) : routesOf (zonesReset s) = routesOf s := by
  refine routesOf_congr fun i => ?_
  rw [zonesReset_zone, Zone.restarted]
  split <;> rfl

theorem restartZones_rot (s : State) : (restartZones s).rot =
    (eightNumbers.filter fun z => decide (((restartZones s).zone z).state = .fallbackOn)).foldl
      (Rotation.startedAt s.clock (routesOf (restartZones s))) s.rot := by
  have states : (fun z => decide (((restartZones s).zone z).state = .fallbackOn)) =
      fun z => decide (((zonesReset s).zone z).state = .fallbackOn) := by
    funext z
    rw [restartZones_zone, zonesReset_zone]
    rfl
  have ranks : ∀ z, ((zonesReset s).zone z).rank =
      if ((zonesReset s).zone z).state = .fallbackOn then some 4 else none := by
    intro z
    rw [zonesReset_zone]
    exact Zone.restarted_rank _ _ _
  rw [states, restartZones_routes, ← zonesReset_routes, restartZones_eq]
  exact handStarts_rot eightNumbers ranks

theorem restartZones_judged (outside : s.burner.state ≠ .firing) :
    s.burner.Judged (restartZones s).burner ∧ (restartZones s).oil = s.oil :=
  handStarts_judged (s := zonesReset s) eightNumbers outside

theorem restartZones_of_quiet (quiet : s.burner.Quiet) : (restartZones s).burner = s.burner :=
  handStarts_of_quiet (s := zonesReset s) eightNumbers quiet

end restartZones

end Sys2Proof.Machine
end

section
/-! POWER_ON (O3). -/

namespace Sys2Proof.Machine

/-! ### What the first handoffs leave -/

section restartZones

variable {s : State}

theorem handStarts_zones (l : List (Fin 8)) (s : State) :
    (handStarts l s).zones = { s.zones with recs := (handStarts l s).zones.recs } := by
  induction l generalizing s with
  | nil => rfl
  | cons i l ih =>
    have first : (handStart i s).zones = (s.onZone i Zone.handOn).zones := by
      rw [handStart_eq]
      cases (s.zone i).rank <;> simp
    refine (ih (handStart i s)).trans ?_
    rw [first]
    rfl

/-- The first handoffs change the zones' records, the Rotation Unit, and what the demand conditions move of the burner. -/
theorem restartZones_whole (outside : s.burner.state ≠ .firing) : restartZones s = { s with
    zones := { s.zones with recs := (restartZones s).zones.recs }
    rot := (restartZones s).rot, burner := (restartZones s).burner } := by
  obtain ⟨powered, free, tick, secTick, clock, ports, cls, recov, gauge, postbox, mgmt, store, pending⟩ := restartZones_frame s
  have zones := handStarts_zones eightNumbers (zonesReset s)
  have oil := (restartZones_judged outside).2
  rw [← restartZones_eq] at zones
  have kept : (zonesReset s).zones = { s.zones with recs := (zonesReset s).zones.recs } := rfl
  rw [kept] at zones
  generalize restartZones s = t at *
  cases t
  exact State.mk.injEq .. ▸ ⟨powered, free, tick, secTick, clock, ports, cls, zones, rfl, rfl, recov, gauge, oil, postbox,
    mgmt, store, pending⟩

theorem restartZones_recs (s : State) : (restartZones s).zones.recs =
    Eight.ofFn fun i => ((s.zone i).restarted s.gauge.band s.clock).handOn :=
  Eight.ext_get fun i => by
    rw [Eight.get_ofFn]
    exact restartZones_zone s i

end restartZones

/-! ### POWER_ON -/

theorem loadSource_unread (t : Store) : loadSource false t = State.blank := by
  have refused : imageAccepted false t = false := rfl
  rw [loadSource, refused]
  rfl

/-- Zone 0 alone is enabled by default, so it alone starts a call (R55). -/
theorem blank_started : ((eightNumbers.filter fun z => decide ((((State.blank.zone z).restarted .unknown 0).handOn).state =
    .fallbackOn)).foldl (Rotation.startedAt 0 (routesOf State.blank)) {} : Rotation) = State.reset.rot := by decide

theorem blank_restarted : (Eight.ofFn fun i => ((State.blank.zone i).restarted .unknown 0).handOn) =
    State.reset.zones.recs := by decide

theorem powerOn_unstrapped (ack rdy run lock : Bool) (s : State) : powerOn false ack rdy run lock s =
    { State.reset with
      free := s.free, pending := s.pending
      ports := { State.reset.ports with rdy := rdy }
      burner := { State.reset.burner with run := { raw := run }, lock := { raw := lock } }
      store := { mem := s.store.mem, spoilt := s.store.spoilt } } := by
  have src : loadSource (false && ack) s.store = State.blank := loadSource_unread s.store
  have values : powerOnValues false ack rdy run lock s =
      { State.blank with
        free := s.free, pending := s.pending
        ports := { rdy := rdy }
        burner := { run := { raw := run }, lock := { raw := lock } }
        store := { mem := s.store.mem, spoilt := s.store.spoilt } } := by
    rw [powerOnValues, src]
    rfl
  rw [powerOn, values]
  generalize start : ({ State.blank with
        free := s.free, pending := s.pending
        ports := { rdy := rdy }
        burner := { run := { raw := run }, lock := { raw := lock } }
        store := { mem := s.store.mem, spoilt := s.store.spoilt } } : State) = u
  have zone : ∀ i, u.zone i = State.blank.zone i := fun i => start ▸ rfl
  have reset : u.gauge.band = .unknown ∧ u.clock = 0 ∧ u.rot = {} ∧ u.burner.state = .idle := start ▸ ⟨rfl, rfl, rfl, rfl⟩
  obtain ⟨band, clock, rot, idle⟩ := reset
  have recs : (restartZones u).zones.recs = State.reset.zones.recs := by
    rw [restartZones_recs, ← blank_restarted]
    simp only [zone, band, clock]
  have turned : (restartZones u).rot = State.reset.rot := by
    rw [restartZones_rot, ← blank_started, restartZones_routes, routesOf_congr fun i => congrArg Zone.route (zone i), clock, rot]
    simp only [restartZones_zone, zone, band, clock]
  have burner : (restartZones u).burner = u.burner := restartZones_of_quiet (start ▸ .inl rfl)
  rw [restartZones_whole (by simp [idle]), recs, turned, burner, ← start]
  rfl

/-! ### The settings in force (R181) -/

/-- `t` has the settings of `s` outside the zones' records. -/
abbrev SettingsKept (s t : State) : Prop := t = { copySettings s t with zones := t.zones }

theorem settings_of_kept {src s t : State} (same : s = copySettings src s) (kept : SettingsKept s t)
    (zones : t.zones = { t.zones with recs := Eight.ofFn fun i => (src.zone i).settingsFrom (t.zone i) }) :
    t = copySettings src t := by
  calc t = { copySettings s t with zones := t.zones } := kept
    _ = { copySettings src t with zones := t.zones } := by rw [same]; rfl
    _ = copySettings src t := by rw [zones]; rfl

/-- A slot without a live part. -/
abbrev Slot.Bare (t : Slot) : Prop := t = { addr := t.addr }

/-- A zone record at its reset values keeps its settings; its slots have lost their live part (R55). -/
theorem Zone.restarted_settings {src z : Zone} (same : z = src.settingsFrom z) (one : src.slot1.Bare) (two : src.slot2.Bare)
    (band : Band) (now : Clock) : (z.restarted band now).handOn = src.settingsFrom (z.restarted band now).handOn := by
  have slots : ({ addr := z.slot1.addr } : Slot) = src.slot1 ∧ ({ addr := z.slot2.addr } : Slot) = src.slot2 := by
    rw [same]
    exact ⟨one.symm, two.symm⟩
  have clear : z.clearLive = src.settingsFrom z.clearLive := by
    rw [Zone.clearLive, slots.1, slots.2, same]
    rfl
  rw [Zone.restarted, clear]
  split <;> rfl

theorem restartZones_kept {s : State} (outside : s.burner.state ≠ .firing) : SettingsKept s (restartZones s) := by
  have whole := restartZones_whole outside
  have frame := (restartZones_judged outside).1.frame
  have burner : (restartZones s).burner = { (restartZones s).burner with
      startLimit := s.burner.startLimit, runoutLimit := s.burner.runoutLimit, backOff := s.burner.backOff
      dryStop := s.burner.dryStop } := by rw [frame]
  have rot : (restartZones s).rot = { (restartZones s).rot with
      limit := s.rot.limit, turnLen := s.rot.turnLen, travelTime := s.rot.travelTime, overrunTime := s.rot.overrunTime
      bypass := s.rot.bypass } := by
    have settings : s.rot.SameSettings (restartZones s).rot := by
      rw [restartZones_rot]
      exact foldl_startedAt_settings _ _ _
    obtain ⟨limit, turn, travel, overrun, bypass, -⟩ := settings
    rw [← limit, ← turn, ← travel, ← overrun, ← bypass]
  generalize restartZones s = t at *
  rw [SettingsKept, whole]
  exact State.mk.injEq .. ▸ ⟨rfl, rfl, rfl, rfl, rfl, rfl, rfl, rfl, rot, burner, rfl, rfl, rfl, rfl, rfl, rfl, rfl⟩

/-- The first handoffs leave the settings in force that stand before them. -/
theorem restartZones_settings {src s : State} (same : s = copySettings src s) (outside : s.burner.state ≠ .firing)
    (bare : ∀ z, (src.zone z).slot1.Bare ∧ (src.zone z).slot2.Bare) :
    restartZones s = copySettings src (restartZones s) := by
  refine settings_of_kept same (restartZones_kept outside) ?_
  have records : ∀ z, s.zone z = (src.zone z).settingsFrom (s.zone z) := by
    intro z
    have copied : (copySettings src s).zone z = (src.zone z).settingsFrom (s.zone z) := Eight.get_ofFn _ z
    rwa [← same] at copied
  have recs : (restartZones s).zones.recs =
      Eight.ofFn fun i => (src.zone i).settingsFrom ((restartZones s).zone i) := by
    refine Eight.ext_get fun z => ?_
    rw [Eight.get_ofFn, restartZones_zone]
    exact (restartZones_zone s z).trans (Zone.restarted_settings (records z) (bare z).1 (bare z).2 _ _)
  rw [← recs]

/-! ### The source of a load -/

theorem loadedPart_frame (body : List Byte) :
    loadedPart body = { copySettings (loadedPart body) State.blank with zones := (loadedPart body).zones } := by
  rw [loadedPart, loadThresholds_eq]
  rfl

/-- But for its settings and the zones' records, the source of a load stands at the power-on values. -/
theorem loadSource_frame (ack : Bool) (t : Store) :
    loadSource ack t = { copySettings (loadSource ack t) State.blank with zones := (loadSource ack t).zones } := by
  rw [loadSource]
  split
  · exact loadedPart_frame _
  · rfl

theorem loadSource_ovDur (ack : Bool) (t : Store) (z : Fin 8) : ((loadSource ack t).zone z).ovDur = 0 := by
  rw [loadSource]
  split
  · exact ((loadedPart_settings (imageBody t)).zones z).ovDur
  · revert z
    decide

section powerOn

variable (strap ack rdy run lock : Bool) (s : State)

theorem powerOnValues_settings : powerOnValues strap ack rdy run lock s =
    copySettings (loadSource (strap && ack) s.store) (powerOnValues strap ack rdy run lock s) := by
  have recs : (loadSource (strap && ack) s.store).zones.recs = Eight.ofFn fun i =>
      ((loadSource (strap && ack) s.store).zone i).settingsFrom ((loadSource (strap && ack) s.store).zone i) := by
    refine Eight.ext_get fun z => ?_
    rw [Eight.get_ofFn, Zone.settingsFrom, ← loadSource_ovDur (strap && ack) s.store z]
    rfl
  refine settings_of_kept (s := loadSource (strap && ack) s.store) ?_ rfl ?_
  · have zones : (loadSource (strap && ack) s.store).zones =
        (copySettings (loadSource (strap && ack) s.store) (loadSource (strap && ack) s.store)).zones :=
      congrArg (fun r => { (loadSource (strap && ack) s.store).zones with recs := r }) recs
    exact congrArg (fun u => { loadSource (strap && ack) s.store with zones := u }) zones
  · exact congrArg (fun r => { (loadSource (strap && ack) s.store).zones with recs := r }) recs

theorem powerOn_settings : SettingsAfterLoad (strap && ack) s.store (powerOn strap ack rdy run lock s) := by
  have idle : (powerOnValues strap ack rdy run lock s).burner.state = .idle :=
    congrArg (fun u => u.burner.state) (loadSource_frame (strap && ack) s.store)
  exact settingsAfterLoad_of_source (restartZones_settings (powerOnValues_settings strap ack rdy run lock s)
    (idle ▸ BurnerState.noConfusion) (loadSource_slots _ _))

theorem exec_powerOn : exec (.powerOn strap ack rdy run lock) s = .next (powerOn strap ack rdy run lock s) := rfl

end powerOn

end Sys2Proof.Machine

namespace Sys2Proof

open Machine

/-- Settles O3: with the strap low by the whole next state; otherwise by the frame of the first handoffs and that of the
source of the load, the Supervisor settling. -/
theorem powerOn : Obligations.PowerOn := by
  refine ⟨fun ack rdy run lock s => ?_, fun strap ack rdy run lock s => ?_⟩
  · rw [exec_powerOn, powerOn_unstrapped]
  have src := loadSource_frame (strap && ack) s.store
  have start : ∀ {α : Type} (f : State → α), f (loadSource (strap && ack) s.store) =
      f { copySettings (loadSource (strap && ack) s.store) State.blank with
        zones := (loadSource (strap && ack) s.store).zones } := fun f => congrArg f src
  have idle := start fun u => u.burner.state
  have quiet : (powerOnValues strap ack rdy run lock s).burner.Quiet := .inl rfl
  have outside : (powerOnValues strap ack rdy run lock s).burner.state ≠ .firing := idle ▸ BurnerState.noConfusion
  have burner := restartZones_of_quiet quiet
  have oil := (restartZones_judged outside).2
  refine ⟨Machine.powerOn strap ack rdy run lock s, exec_powerOn .., ?_⟩
  have settings := powerOn_settings strap ack rdy run lock s
  have frame := restartZones_frame (powerOnValues strap ack rdy run lock s)
  obtain ⟨powered, -, -, -, clock, ports, cls, recov, gauge, postbox, mgmt, store, -⟩ := frame
  rw [Machine.powerOn] at settings ⊢
  rw [powered, clock, ports, cls, recov, gauge, postbox, mgmt, store, burner, oil]
  exact ⟨start (·.powered), start (·.clock), rfl, rfl, rfl, rfl, rfl, rfl, rfl, rfl, rfl, start (·.cls.inHand),
    start (·.postbox), start (·.burner.demand), start (·.burner.reset), idle, rfl, rfl, start (·.recov.state),
    start (·.recov.word), start (·.recov.side), start (·.recov.log), start (·.recov.budget), start (·.gauge.band),
    start (·.gauge.sFlag), start (·.oil.based), start (·.oil.events), rfl, rfl, settings⟩

end Sys2Proof
end

section
/-! The first handoffs after a restart: what they leave of the burner while the Supervisor is IDLE (R61, R73, R82, R95). -/

namespace Sys2Proof.Machine

/-! ### The Rotation Unit after a restart (R61, R77) -/

/-- A Rotation Unit in which no granted zone has fired yet and no valve is open, with the zone-side permit at most for a
granted zone without a route. -/
structure Rotation.Fresh (routes : Routes) (r : Rotation) : Prop where
  timed : 1 ≤ r.turnLen
  unfired : ∀ g ∈ r.grants, g.turn = 0
  unopened : ∀ i, (r.outputs.get i).state ≠ .opened
  permitted : r.permit = true → ∃ g ∈ r.grants, routes.get g.zone = none

section fresh

variable {now : Clock} {routes : Routes} {r : Rotation}

/-- The fill keeps every grant, adds grants whose turn timers stand at 0, and moves no output. -/
theorem fillFrom_grows (ws : List Wait) (unfired : ∀ g ∈ r.grants, g.turn = 0) :
    (∀ g ∈ (fillFrom now ws r).grants, g.turn = 0) ∧ r.grants ⊆ (fillFrom now ws r).grants ∧
    ∀ i, ((fillFrom now ws r).outputs.get i).state = (r.outputs.get i).state := by
  induction ws generalizing r with
  | nil => exact ⟨unfired, fun _ mem => mem, fun _ => rfl⟩
  | cons w ws ih =>
    unfold fillFrom
    split
    · have first : ∀ g ∈ (r.grant now w).grants, g.turn = 0 := by
        intro g mem
        obtain old | new := List.mem_append.1 mem
        · exact unfired g old
        · rw [List.mem_singleton.1 new]
      obtain ⟨turns, grants, outputs⟩ := ih first
      refine ⟨turns, fun g mem => grants (List.mem_append_left _ mem), fun i => ?_⟩
      rw [outputs i, Rotation.grant, Rotation.clearOverrun, Eight.get_map]
    · exact ⟨unfired, fun _ mem => mem, fun _ => rfl⟩

/-- With no turn timer running no grant is expired, so a start of call swaps nothing. -/
theorem Rotation.startOfCall_grows (z : Fin 8) (rank : Nat) (timed : 1 ≤ r.turnLen) (unfired : ∀ g ∈ r.grants, g.turn = 0) :
    (∀ g ∈ (r.startOfCall now z rank).grants, g.turn = 0) ∧ r.grants ⊆ (r.startOfCall now z rank).grants ∧
    ∀ i, ((r.startOfCall now z rank).outputs.get i).state = (r.outputs.get i).state := by
  have grown := fillFrom_grows (now := now) (r := r.join now z rank) (r.join now z rank).queue unfired
  have turnLen : ((r.join now z rank).fill now).turnLen = r.turnLen := (fillFrom_settings _ (r.join now z rank)).2.1
  have fresh : ∀ g ∈ ((r.join now z rank).fill now).grants, ((r.join now z rank).fill now).expired g = false := by
    intro g mem
    rw [Rotation.expired, turnLen, grown.1 g mem]
    exact decide_eq_false (by omega)
  have stuck : ((r.join now z rank).fill now).Stuck now := by
    intro c h q taken
    rw [Rotation.candidate_eq_none fresh] at taken
    cases taken
  rw [Rotation.startOfCall, Rotation.swapCheck_stuck stuck]
  exact grown

theorem Output.judged_unopened {o : Output} (unopened : o.state ≠ .opened) (travel : Nat) (wanted opening : Bool) :
    ((o.judge travel wanted).judgeOpen travel wanted opening).state ≠ .opened := by
  have first : (o.judge travel wanted).state ≠ .opened := by
    cases state : o.state <;> cases wanted <;> simp_all [Output.judge, Output.toOpening, Output.toClosing]
  rw [Output.judgeOpen_of_not_open _ _ first]
  exact first

/-- A start of call on a fresh Rotation Unit leaves it fresh, and takes no permit away. -/
theorem Rotation.Fresh.started {z : Fin 8} {rank : Nat} (fresh : r.Fresh routes) :
    ((r.startOfCall now z rank).settle routes).Fresh routes ∧
    (r.permit = true → ((r.startOfCall now z rank).settle routes).permit = true) := by
  obtain ⟨unfired, grants, outputs⟩ := r.startOfCall_grows (now := now) z rank fresh.timed fresh.unfired
  have unopened : ∀ i, (((r.startOfCall now z rank).settle routes).outputs.get i).state ≠ .opened := by
    intro i
    rw [Rotation.settle_outputs]
    exact Output.judged_unopened (outputs i ▸ fresh.unopened i) _ _ _
  have permit : ((r.startOfCall now z rank).settle routes).permit = true ↔
      ∃ g ∈ (r.startOfCall now z rank).grants, routes.get g.zone = none := by
    rw [Rotation.settle_permit]
    refine exists_congr fun g => and_congr_right fun _ => or_iff_left ?_
    rintro ⟨i, -, opened⟩
    exact unopened i opened
  have turnLen : ((r.startOfCall now z rank).settle routes).turnLen = r.turnLen := (r.startOfCall_settings z rank).2.1
  refine ⟨⟨turnLen.symm ▸ fresh.timed, unfired, unopened, permit.1⟩, fun old => ?_⟩
  obtain ⟨g, mem, free⟩ := fresh.permitted old
  exact permit.2 ⟨g, grants mem, free⟩

end fresh

/-! ### The judgement of a derived IDLE (R82, R95) -/

section idle

variable {b : Burner} {s : State}

/-- The demand conditions look at the burner state only for being one of three. -/
theorem demandConditions_onStart (idle : s.burner.state = .idle) :
    demandConditions (s.onBurner Burner.start) = demandConditions s := by
  have permit : oilPermit (s.onBurner Burner.start) = oilPermit s := rfl
  have settled : (s.onBurner Burner.start).burner.settled = s.burner.settled := rfl
  rw [Bool.eq_iff_iff, demandConditions_iff, demandConditions_iff, permit, settled]
  simp [State.onBurner, Burner.start, idle]

/-- After a judgement IDLE stands only where the conditions fail, and STARTING only where they hold. -/
theorem judgeDemand_agrees (settled : s.burner.settled = true) :
    ((judgeDemand s).burner.state = .idle → demandConditions (judgeDemand s) = false) ∧
    ((judgeDemand s).burner.state = .starting → demandConditions (judgeDemand s) = true) := by
  cases state : s.burner.state with
  | idle =>
    rw [judgeDemand_idle settled state]
    by_cases met : demandConditions s = true
    · rw [if_pos met]
      exact ⟨BurnerState.noConfusion, fun _ => (demandConditions_onStart state).trans met⟩
    · rw [if_neg met]
      exact ⟨fun _ => Bool.eq_false_iff.2 met, fun starts => absurd (state.symm.trans starts) BurnerState.noConfusion⟩
  | starting =>
    rw [judgeDemand_starting settled state]
    by_cases met : demandConditions s = true
    · rw [if_pos met]
      exact ⟨fun idle => absurd (state.symm.trans idle) BurnerState.noConfusion, fun _ => met⟩
    · rw [if_neg met]
      exact ⟨BurnerState.noConfusion, BurnerState.noConfusion⟩
  | firing =>
    rw [judgeDemand_inFiring settled state]
    by_cases met : demandConditions s = true
    · rw [if_pos met, state]
      exact ⟨BurnerState.noConfusion, BurnerState.noConfusion⟩
    · rw [if_neg met]
      exact ⟨BurnerState.noConfusion, BurnerState.noConfusion⟩
  | _ =>
    rw [judgeDemand_quiet (by simp [state]) (by simp [state]) (by simp [state]), state]
    exact ⟨BurnerState.noConfusion, BurnerState.noConfusion⟩

/-- The burner stands as `b`, or was started from it with the demand conditions holding. -/
def StartedFrom (b : Burner) (s : State) : Prop :=
  s.burner = b ∨ (s.burner = b.start ∧ demandConditions s = true)

/-- The judgement settles whether an IDLE burner has started. -/
theorem StartedFrom.judged (idle : b.state = .idle) (settled : b.settled = true) (from_ : StartedFrom b s) :
    if demandConditions (judgeDemand s) = true then (judgeDemand s).burner = b.start else (judgeDemand s).burner = b := by
  obtain rfl | ⟨burner, met⟩ := from_
  · rw [judgeDemand_idle settled idle]
    by_cases met : demandConditions s = true
    · rw [if_pos met, if_pos ((demandConditions_onStart idle).trans met)]
      rfl
    · rw [if_neg met, if_neg met]
  · have same : judgeDemand s = s := by
      rw [judgeDemand_starting (burner ▸ settled) (by rw [burner]; rfl), if_pos met]
    rw [same, if_pos met]
    exact burner

theorem StartedFrom.judge (idle : b.state = .idle) (settled : b.settled = true) (from_ : StartedFrom b s) :
    StartedFrom b (judgeDemand s) := by
  have judged := from_.judged idle settled
  by_cases met : demandConditions (judgeDemand s) = true
  · rw [if_pos met] at judged
    exact .inr ⟨judged, met⟩
  · rw [if_neg met] at judged
    exact .inl judged

/-- A start of call keeps an IDLE burner or one started from it. -/
theorem StartedFrom.startOfCall {z : Fin 8} {rank : Nat} (idle : b.state = .idle) (settled : b.settled = true)
    (from_ : StartedFrom b s) (fresh : s.rot.Fresh (routesOf s)) :
    StartedFrom b (rotationEvent (·.startOfCall s.clock z rank) s) := by
  have kept := (fresh.started (now := s.clock) (z := z) (rank := rank)).2
  have given : StartedFrom b { s with rot := (rotationEvent (·.startOfCall s.clock z rank) s).rot } := by
    rw [rotationEvent_rot]
    refine from_.imp_right fun ⟨burner, met⟩ => ⟨burner, ?_⟩
    obtain ⟨permit, rest⟩ := demandConditions_iff.1 met
    exact demandConditions_iff.2 ⟨kept permit, rest⟩
  rw [rotationEvent_eq]
  split
  · exact given
  · exact given.judge idle settled

theorem handStart_startedFrom (i : Fin 8) (idle : b.state = .idle) (settled : b.settled = true) (from_ : StartedFrom b s)
    (fresh : s.rot.Fresh (routesOf s)) :
    StartedFrom b (handStart i s) ∧ (handStart i s).rot.Fresh (routesOf (handStart i s)) := by
  have routes : routesOf (handStart i s) = routesOf s := routesOf_congr fun z => (handStart_kept i z s).2.2
  have stored : (s.onZone i Zone.handOn).rot.Fresh (routesOf (s.onZone i Zone.handOn)) :=
    (onZone_handOn_routes i s).symm ▸ fresh
  rw [routes, handStart_eq]
  cases (s.zone i).rank with
  | none => exact ⟨from_, fresh⟩
  | some k =>
    refine ⟨StartedFrom.startOfCall (s := s.onZone i Zone.handOn) idle settled from_ stored, ?_⟩
    dsimp only
    rw [rotationEvent_rot, onZone_handOn_routes]
    exact fresh.started.1

theorem handStarts_startedFrom (l : List (Fin 8)) (idle : b.state = .idle) (settled : b.settled = true)
    (from_ : StartedFrom b s) (fresh : s.rot.Fresh (routesOf s)) : StartedFrom b (handStarts l s) := by
  induction l generalizing s with
  | nil => exact from_
  | cons i l ih =>
    obtain ⟨first, later⟩ := handStart_startedFrom i idle settled from_ fresh
    exact ih first later

end idle

end Sys2Proof.Machine
end

section
/-! What a RESTART or a RELOAD leaves (O7): the blocks' restart values, the burner state derived from them, the first
handoffs, and the judgement of a derived IDLE. -/

namespace Sys2Proof.Machine

/-! ### The first handoffs and the judgement after them -/

section handedOver

variable {b : State}

/-- The zones hand over, and the demand conditions are judged (R55, R56, R95). -/
def handedOver (b : State) : State := judgeDemand (restartZones b)

theorem handedOver_judged (outside : b.burner.state ≠ .firing) :
    b.burner.Judged (handedOver b).burner ∧ (handedOver b).oil = b.oil := by
  obtain ⟨first, oil⟩ := restartZones_judged outside
  obtain ⟨later, kept⟩ := judgeDemand_judged first.outside
  exact ⟨first.trans later, kept.trans oil⟩

theorem handedOver_of_quiet (quiet : b.burner.Quiet) : (handedOver b).burner = b.burner := by
  have first := restartZones_of_quiet quiet
  have still : judgeDemand (restartZones b) = restartZones b := judgeDemand_of_quiet (first.symm ▸ quiet)
  rw [handedOver, still, first]

/-- The handoffs change the zones' records, the Rotation Unit, and what the demand conditions move of the burner. -/
theorem handedOver_whole (outside : b.burner.state ≠ .firing) : handedOver b = { b with
    zones := { b.zones with recs := (handedOver b).zones.recs }
    rot := (handedOver b).rot, burner := (handedOver b).burner } := by
  have whole := restartZones_whole outside
  have oil := (handedOver_judged outside).2
  have frame := judgeDemand_frame (restartZones b)
  rw [← handedOver, whole] at frame
  obtain ⟨powered, free, tick, secTick, clock, ports, cls, zones, rot, recov, gauge, postbox, mgmt, store, pending⟩ := frame
  have zones' : (handedOver b).zones = { b.zones with recs := (handedOver b).zones.recs } := by rw [zones]
  generalize handedOver b = t at *
  cases t
  exact State.mk.injEq .. ▸ ⟨powered, free, tick, secTick, clock, ports, cls, zones', rfl, rfl, recov, gauge, oil, postbox,
    mgmt, store, pending⟩

theorem handedOver_zones (b : State) : (handedOver b).zones = (restartZones b).zones := by
  simp [handedOver]

theorem handedOver_zone (b : State) (i : Fin 8) :
    (handedOver b).zone i = ((b.zone i).restarted b.gauge.band b.clock).handOn := by
  rw [State.zone, handedOver_zones]
  exact restartZones_zone b i

theorem handedOver_rot (b : State) : (handedOver b).rot =
    (eightNumbers.filter fun z => decide (((handedOver b).zone z).state = .fallbackOn)).foldl
      (Rotation.startedAt b.clock (routesOf (handedOver b))) b.rot := by
  have rot : (handedOver b).rot = (restartZones b).rot := by simp [handedOver]
  have zone : ∀ z, (handedOver b).zone z = (restartZones b).zone z := fun z => by
    rw [State.zone, handedOver_zones]
    rfl
  rw [rot, routesOf_congr fun z => congrArg Zone.route (zone z)]
  simp only [zone]
  exact restartZones_rot b

theorem judgeDemand_kept {s : State} (outside : s.burner.state ≠ .firing) : SettingsKept s (judgeDemand s) := by
  obtain same | same | same := judgeDemand_cases outside <;> rw [same] <;> rfl

theorem judgeDemand_settings {src s : State} (same : s = copySettings src s) (outside : s.burner.state ≠ .firing) :
    judgeDemand s = copySettings src (judgeDemand s) := by
  have zones : (judgeDemand s).zones = s.zones := by simp
  refine settings_of_kept same (judgeDemand_kept outside) ?_
  simp only [State.zone, zones]
  exact congrArg State.zones same

theorem handedOver_settings {src : State} (same : b = copySettings src b) (outside : b.burner.state ≠ .firing)
    (bare : ∀ z, (src.zone z).slot1.Bare ∧ (src.zone z).slot2.Bare) :
    handedOver b = copySettings src (handedOver b) :=
  judgeDemand_settings (restartZones_settings same outside bare) (restartZones_judged outside).1.outside

/-- A derived IDLE is judged (R95): the burner starts where the demand conditions hold. -/
theorem handedOver_idle (idle : b.burner.state = .idle) (settled : b.burner.settled = true)
    (fresh : b.rot.Fresh (routesOf b)) :
    if demandConditions (handedOver b) = true then (handedOver b).burner = b.burner.start
    else (handedOver b).burner = b.burner := by
  have fresh' : (zonesReset b).rot.Fresh (routesOf (zonesReset b)) := (zonesReset_routes b).symm ▸ fresh
  exact (handStarts_startedFrom (s := zonesReset b) eightNumbers idle settled (.inl rfl) fresh').judged idle settled

theorem handedOver_agrees (settled : b.burner.settled = true) (outside : b.burner.state ≠ .firing) :
    ((handedOver b).burner.state = .idle → demandConditions (handedOver b) = false) ∧
    ((handedOver b).burner.state = .starting → demandConditions (handedOver b) = true) := by
  refine judgeDemand_agrees ?_
  rw [(restartZones_judged outside).1.frame]
  exact settled

end handedOver

/-! ### The derived burner state (R80, R95) -/

section derive

variable {left : BurnerState} {a : State}

theorem deriveBurner_settling (settling : a.burner.settled = false) : deriveBurner left a = a := by
  rw [deriveBurner, settling]
  rfl

variable (settled : a.burner.settled = true)
include settled

theorem deriveBurner_locked (run : a.burner.run.acc = some false) (lock : a.burner.lock.acc = some true) :
    deriveBurner left a = a.onBurner Burner.toLocked := by
  simp [deriveBurner, settled, Burner.runOn, Burner.lockOn, run, lock]

theorem deriveBurner_off (run : a.burner.run.acc = some false) (lock : a.burner.lock.acc = some false) :
    deriveBurner left a = a := by
  simp [deriveBurner, settled, Burner.runOn, Burner.lockOn, run, lock]

theorem deriveBurner_runout (run : a.burner.run.acc = some true) (lock : a.burner.lock.acc = some false)
    (from_ : left = .starting ∨ left = .firing ∨ left = .runout) :
    deriveBurner left a = a.onBurner Burner.toRunout := by
  obtain rfl | rfl | rfl := from_ <;> simp [deriveBurner, settled, Burner.runOn, Burner.lockOn, run, lock]

theorem deriveBurner_fault (run : a.burner.run.acc = some true)
    (other : ¬(a.burner.lock.acc = some false ∧ (left = .starting ∨ left = .firing ∨ left = .runout))) :
    deriveBurner left a = enterSenseFault left a := by
  have lock : a.burner.lock.acc = some true ∨ a.burner.lock.acc = some false := by
    have present := (Burner.settled_iff.1 settled).2
    match a.burner.lock.acc, present with
    | some true, _ => exact .inl rfl
    | some false, _ => exact .inr rfl
  have on : a.burner.runOn = true := by simp [Burner.runOn, run]
  have row : (!a.burner.lockOn && (decide (left = .starting) || decide (left = .firing) || decide (left = .runout))) = false := by
    rw [Bool.eq_false_iff]
    intro holds
    obtain lock | lock := lock <;> simp_all [Burner.lockOn, or_assoc]
  rw [deriveBurner, if_pos settled, if_pos on, row]
  rfl

end derive

end Sys2Proof.Machine
end

section
/-! The part at its restart values and the burner state derived from them (R17, R77, R80, R95, R117, R137, R142). -/

namespace Sys2Proof.Machine

/-! ### The rows of R95 -/

section rows

variable (b : Burner)

/-- Both levels are accepted (R80). -/
abbrev Burner.BothAccepted : Prop := b.run.acc ≠ none ∧ b.lock.acc ≠ none

/-- RUN is accepted on and LOCK off, from a state in which the burner may run. -/
abbrev Burner.RunsOn : Prop :=
  b.BothAccepted ∧ b.run.acc = some true ∧ b.lock.acc = some false ∧
    (b.state = .starting ∨ b.state = .firing ∨ b.state = .runout)

/-- RUN is accepted on otherwise. -/
abbrev Burner.SensesFault : Prop := b.BothAccepted ∧ b.run.acc = some true ∧ ¬b.RunsOn

/-- The NOTICE of a derived SENSE_FAULT (R88). -/
abbrev Burner.restartFault : Notice :=
  { bit := .burnerFault, code := 0x05, subject := b.state.code, value1 := if b.lock.acc = some true then 3 else 1 }

end rows

section derived

variable (reload run lock : Bool) (v : State)

/-- The blocks at their restart values with the burner state derived (R95). -/
def derived : State := deriveBurner v.burner.state (restartValues reload run lock v)

theorem restartPart_eq : restartPart reload run lock v = handedOver (derived reload run lock v) := rfl

theorem restartValues_settled : (restartValues reload run lock v).burner.settled = true ↔ v.burner.BothAccepted :=
  Burner.settled_iff

theorem restartValues_senseFault : (restartValues reload run lock v).burner.senseFault = v.burner.senseFault := by
  rw [restartValues]
  dsimp only [Burner.restarted]
  split <;> rfl

theorem restartValues_gap : (restartValues reload run lock v).burner.reset = false ∧
    (restartValues reload run lock v).burner.gap = if v.burner.reset = true then some v.recov.gapLen else v.burner.gap := by
  rw [restartValues]
  dsimp only [Burner.restarted]
  split <;> exact ⟨rfl, rfl⟩

variable {reload run lock v}

theorem derived_fault (faults : v.burner.SensesFault) : derived reload run lock v =
    pushHouse { frame := v.burner.restartFault.frame v.clock } (setAttn .burnerFault
      ((restartValues reload run lock v).onBurner fun b =>
        { b with demand := false, state := .senseFault, timer := none, senseFault := min 65535 (b.senseFault + 1) })) := by
  obtain ⟨settled, on, other⟩ := faults
  have row : ¬(v.burner.lock.acc = some false ∧
      (v.burner.state = .starting ∨ v.burner.state = .firing ∨ v.burner.state = .runout)) :=
    fun row => other ⟨settled, on, row⟩
  have enters : derived reload run lock v = enterSenseFault v.burner.state (restartValues reload run lock v) :=
    deriveBurner_fault ((restartValues_settled reload run lock v).2 settled) on row
  rw [enters, enterSenseFault_eq _ (s := restartValues reload run lock v) on]
  exact raise_of_accepted (s := (restartValues reload run lock v).onBurner _) (n := v.burner.restartFault)
    (show (0xFFFF : BitVec 16) &&& AttnBit.burnerFault.word ≠ 0 by decide) (Nat.succ_pos _)

/-- Where no sense fault is derived, only the burner takes a further change. -/
theorem derived_calm (calm : ¬v.burner.SensesFault) : ∃ b : Burner,
    derived reload run lock v = (restartValues reload run lock v).onBurner (fun _ => b) ∧
    b.senseFault = v.burner.senseFault := by
  have kept := restartValues_senseFault reload run lock v
  by_cases settled : v.burner.BothAccepted
  · have settled' := (restartValues_settled reload run lock v).2 settled
    match level : v.burner.run.acc, other : v.burner.lock.acc with
    | none, _ => exact absurd level settled.1
    | _, none => exact absurd other settled.2
    | some false, some true => exact ⟨_, deriveBurner_locked settled' level other, kept⟩
    | some false, some false => exact ⟨_, deriveBurner_off settled' level other, kept⟩
    | some true, some false =>
      by_cases runs : v.burner.state = .starting ∨ v.burner.state = .firing ∨ v.burner.state = .runout
      · exact ⟨_, deriveBurner_runout settled' level other runs, kept⟩
      · exact absurd ⟨settled, level, fun row => runs row.2.2.2⟩ calm
    | some true, some true =>
      exact absurd ⟨settled, level, fun row => absurd (other.symm.trans row.2.2.1) (by decide)⟩ calm
  · exact ⟨_, deriveBurner_settling (Bool.eq_false_iff.2 (mt (restartValues_settled reload run lock v).1 settled)), kept⟩

theorem derived_outside : (derived reload run lock v).burner.state ≠ .firing := by
  rw [derived, deriveBurner]
  (repeat' split) <;> simp [enterSenseFault, restartValues, Burner.restarted, State.onBurner, Burner.toRunout, Burner.toLocked]

/-- Whatever state is derived, RESET and its gap stand as the restart values have them. -/
theorem derived_relays : (derived reload run lock v).burner.reset = (restartValues reload run lock v).burner.reset ∧
    (derived reload run lock v).burner.gap = (restartValues reload run lock v).burner.gap := by
  rw [derived, deriveBurner]
  (repeat' split) <;> simp [enterSenseFault, State.onBurner, Burner.toRunout, Burner.toLocked]

theorem raise_kept (n : Notice) (s : State) : SettingsKept s (raise n s) := by
  rw [raise]
  (repeat' split) <;> rfl

theorem SettingsKept.trans {s t u : State} (first : SettingsKept s t) (second : SettingsKept t u) : SettingsKept s u := by
  calc u = { copySettings t u with zones := u.zones } := second
    _ = { copySettings { copySettings s t with zones := t.zones } u with zones := u.zones } := by rw [← first]
    _ = { copySettings s u with zones := u.zones } := rfl

theorem deriveBurner_kept (left : BurnerState) (s : State) : SettingsKept s (deriveBurner left s) := by
  rw [deriveBurner]
  (repeat' split)
  · rfl
  · exact SettingsKept.trans (t := s.onBurner fun b =>
      { b with demand := false, state := .senseFault, timer := none, senseFault := satInc b.senseFault }) rfl (raise_kept _ _)
  · rfl
  · rfl
  · rfl

theorem restartValues_kept : SettingsKept v (restartValues reload run lock v) := by
  have burner : (v.burner.restarted run lock v.recov.gapLen) = { v.burner.restarted run lock v.recov.gapLen with
      startLimit := v.burner.startLimit, runoutLimit := v.burner.runoutLimit, backOff := v.burner.backOff
      dryStop := v.burner.dryStop } := by
    dsimp only [Burner.restarted]
    split <;> rfl
  have gauge : v.gauge.restarted reload = { v.gauge.restarted reload with
      interval := v.gauge.interval, zero := v.gauge.zero, scale := v.gauge.scale, shift := v.gauge.shift
      delivery := v.gauge.delivery, dryT := v.gauge.dryT, lowT := v.gauge.lowT, bandHyst := v.gauge.bandHyst
      reportMin := v.gauge.reportMin, live := v.gauge.live, pend := v.gauge.pend } := by cases reload <;> rfl
  have oil : v.oil.restarted reload = { v.oil.restarted reload with
      nozzle := v.oil.nozzle, reconcileHours := v.oil.reconcileHours, idleLoss := v.oil.idleLoss
      runLoss := v.oil.runLoss, deliveryLoss := v.oil.deliveryLoss } := by cases reload <;> rfl
  rw [SettingsKept, restartValues]
  exact State.mk.injEq .. ▸ ⟨rfl, rfl, rfl, rfl, rfl, rfl, rfl, rfl, rfl, burner, rfl, gauge, oil, rfl, rfl, rfl, rfl⟩

theorem derived_kept : SettingsKept v (derived reload run lock v) := restartValues_kept.trans (deriveBurner_kept _ _)

end derived

end Sys2Proof.Machine
end

section
/-! The clauses of O7 block by block, and the settlement of O7. -/

namespace Sys2Proof.Machine

section clauses

variable {reload run lock : Bool} {v : State}

/-! ### The blocks that only take their restart values -/

theorem restartPart_blocks (reload run lock : Bool) (v : State) :
    (restartPart reload run lock v).cls = { v.cls with inHand := none } ∧
    (restartPart reload run lock v).postbox = v.postbox.restarted ∧
    (restartPart reload run lock v).recov = v.recov.restarted (v.burner.settled && v.burner.lockOn) ∧
    (restartPart reload run lock v).gauge = v.gauge.restarted reload ∧
    (restartPart reload run lock v).oil = v.oil.restarted reload ∧
    (restartPart reload run lock v).clock = v.clock ∧ (restartPart reload run lock v).store = v.store ∧
    (restartPart reload run lock v).ports = (derived reload run lock v).ports ∧
    (restartPart reload run lock v).mgmt = (derived reload run lock v).mgmt := by
  rw [restartPart_eq, handedOver_whole derived_outside, derived]
  simp only [deriveBurner_frame, and_true]
  exact ⟨rfl, rfl, rfl, rfl, rfl, rfl, rfl⟩

theorem restartPart_linesAndMgmt (reload run lock : Bool) (v : State) :
    (restartPart reload run lock v).ports = { v.ports with
      fieldAsm := { phase := .skip, gapFrom := v.tick }, houseAsm := { phase := .skip, gapFrom := v.tick }
      fieldRx := [], houseRx := [], fieldTx := [], fde := false, houseOnLine := false
      houseTx := if v.burner.SensesFault then [{ frame := v.burner.restartFault.frame v.clock }] else [] } ∧
    (restartPart reload run lock v).mgmt = { v.mgmt with
      attn := if v.burner.SensesFault then AttnBit.store.word ||| AttnBit.burnerFault.word else AttnBit.store.word
      enable := 0xFFFF, restart := none } := by
  obtain ⟨-, -, -, -, -, -, -, ports, mgmt⟩ := restartPart_blocks reload run lock v
  rw [ports, mgmt]
  by_cases faults : v.burner.SensesFault
  · rw [derived_fault faults, if_pos faults, if_pos faults]
    exact ⟨rfl, rfl⟩
  · obtain ⟨b, same, -⟩ := derived_calm (reload := reload) (run := run) (lock := lock) faults
    rw [same, if_neg faults, if_neg faults]
    exact ⟨rfl, rfl⟩

theorem Burner.locksOut_iff {b : Burner} :
    (b.settled && b.lockOn) = true ↔ b.BothAccepted ∧ b.lock.acc = some true := by
  rw [Bool.and_eq_true, Burner.settled_iff, Burner.lockOn, decide_eq_true_iff]

theorem Recovery.restarted_state (r : Recovery) (b : Burner) :
    (r.restarted (b.settled && b.lockOn)).state = (if b.BothAccepted ∧ b.lock.acc = some true then .cooling else .none) ∧
    (r.restarted (b.settled && b.lockOn)).timer =
      (if b.BothAccepted ∧ b.lock.acc = some true then some r.coolOff else none) :=
  ⟨ite_congr (propext Burner.locksOut_iff) (fun _ => rfl) fun _ => rfl,
    ite_congr (propext Burner.locksOut_iff) (fun _ => rfl) fun _ => rfl⟩

theorem Gauge.restarted_values (reload : Bool) (g : Gauge) :
    (g.restarted reload).rising = false ∧ (g.restarted reload).conv = .idle ∧
    (g.restarted reload).sampleTimer = (g.restarted reload).interval ∧
    (reload = false → (g.restarted reload).band = g.band) ∧ (reload = true → (g.restarted reload).band = .unknown) := by
  cases reload
  · exact ⟨rfl, rfl, rfl, fun _ => rfl, Bool.noConfusion⟩
  · exact ⟨rfl, rfl, rfl, Bool.noConfusion, fun _ => rfl⟩

/-! ### The burner (R95) -/

/-- A derived state that is not judged stays. -/
theorem restartPart_burner_of_quiet {b : Burner}
    (same : derived reload run lock v = (restartValues reload run lock v).onBurner fun _ => b) (quiet : b.Quiet) :
    (restartPart reload run lock v).burner = b := by
  have burner : (derived reload run lock v).burner = b := congrArg State.burner same
  rw [restartPart_eq, handedOver_of_quiet (burner.symm ▸ quiet), burner]

variable (reload run lock v)

theorem restartPart_locked (both : v.burner.BothAccepted) (off : v.burner.run.acc = some false)
    (on : v.burner.lock.acc = some true) : (restartPart reload run lock v).burner.state = .locked ∧
    (restartPart reload run lock v).burner.timer = none := by
  have same : derived reload run lock v = (restartValues reload run lock v).onBurner Burner.toLocked :=
    deriveBurner_locked ((restartValues_settled reload run lock v).2 both) off on
  have released : (restartValues reload run lock v).burner.runOn = false := decide_eq_false fun runs =>
    absurd (off.symm.trans runs) (by decide)
  rw [restartPart_burner_of_quiet same (.inr ⟨BurnerState.noConfusion, BurnerState.noConfusion, BurnerState.noConfusion⟩),
    Burner.toLocked, released]
  exact ⟨rfl, rfl⟩

theorem restartPart_runout (runs : v.burner.RunsOn) : (restartPart reload run lock v).burner.state = .runout ∧
    (restartPart reload run lock v).burner.timer = some (restartPart reload run lock v).burner.runoutLimit := by
  obtain ⟨both, on, off, left⟩ := runs
  have same : derived reload run lock v = (restartValues reload run lock v).onBurner Burner.toRunout :=
    deriveBurner_runout ((restartValues_settled reload run lock v).2 both) on off left
  rw [restartPart_burner_of_quiet same (.inr ⟨BurnerState.noConfusion, BurnerState.noConfusion, BurnerState.noConfusion⟩)]
  exact ⟨rfl, rfl⟩

theorem restartPart_senseFault (faults : v.burner.SensesFault) :
    (restartPart reload run lock v).burner.state = .senseFault ∧ (restartPart reload run lock v).burner.timer = none ∧
    (restartPart reload run lock v).burner.senseFault = min 65535 (v.burner.senseFault + 1) := by
  have burner := congrArg State.burner (derived_fault (reload := reload) (run := run) (lock := lock) faults)
  have quiet : (derived reload run lock v).burner.Quiet := by
    rw [burner]
    exact .inr ⟨BurnerState.noConfusion, BurnerState.noConfusion, BurnerState.noConfusion⟩
  rw [restartPart_eq, handedOver_of_quiet quiet, burner, ← restartValues_senseFault reload run lock v]
  exact ⟨rfl, rfl, rfl⟩

theorem restartPart_noFault (calm : ¬v.burner.SensesFault) :
    (restartPart reload run lock v).burner.senseFault = v.burner.senseFault := by
  obtain ⟨b, same, kept⟩ := derived_calm (reload := reload) (run := run) (lock := lock) calm
  have frame := (handedOver_judged (b := derived reload run lock v) derived_outside).1.frame
  rw [restartPart_eq, frame]
  exact (congrArg (fun u => u.burner.senseFault) same).trans kept

theorem restartValues_idle :
    (restartValues reload run lock v).burner.state = .idle ∧ (restartValues reload run lock v).burner.demand = false ∧
    (restartValues reload run lock v).burner.timer = none := ⟨rfl, rfl, rfl⟩

theorem restartPart_settling (settling : ¬v.burner.BothAccepted) :
    (restartPart reload run lock v).burner.state = .idle ∧ (restartPart reload run lock v).burner.timer = none := by
  have unsettled : (restartValues reload run lock v).burner.settled = false :=
    Bool.eq_false_iff.2 (mt (restartValues_settled reload run lock v).1 settling)
  have same : derived reload run lock v = restartValues reload run lock v := deriveBurner_settling unsettled
  rw [restartPart_burner_of_quiet same (.inl unsettled)]
  exact ⟨rfl, rfl⟩

theorem restartPart_agrees (both : v.burner.BothAccepted) (runOff : v.burner.run.acc = some false)
    (lockOff : v.burner.lock.acc = some false) :
    ((restartPart reload run lock v).burner.state = .idle → demandConditions (restartPart reload run lock v) = false) ∧
    ((restartPart reload run lock v).burner.state = .starting → demandConditions (restartPart reload run lock v) = true) := by
  have settled := (restartValues_settled reload run lock v).2 both
  have same : derived reload run lock v = restartValues reload run lock v := deriveBurner_off settled runOff lockOff
  rw [restartPart_eq, same]
  exact handedOver_agrees settled BurnerState.noConfusion

/-- No output is open at the restart values, and no zone is granted (R77). -/
theorem Rotation.restarted_fresh (routes : Routes) {r : Rotation} (timed : 1 ≤ r.turnLen) : r.restarted.Fresh routes where
  timed := timed
  unfired := fun _ mem => absurd mem List.not_mem_nil
  unopened i := by
    rw [Rotation.restarted, Eight.get_map, Output.restarted]
    split
    · simp [*]
    · exact OutState.noConfusion
  permitted := fun given => absurd given Bool.false_ne_true

theorem restartPart_idle (both : v.burner.BothAccepted) (runOff : v.burner.run.acc = some false)
    (lockOff : v.burner.lock.acc = some false) (timed : 1 ≤ v.rot.turnLen) :
    if demandConditions (restartPart reload run lock v) = true then
      (restartPart reload run lock v).burner.state = .starting ∧ (restartPart reload run lock v).burner.demand = true ∧
      (restartPart reload run lock v).burner.timer = some (restartPart reload run lock v).burner.startLimit
    else (restartPart reload run lock v).burner.state = .idle ∧ (restartPart reload run lock v).burner.demand = false ∧
      (restartPart reload run lock v).burner.timer = none := by
  have settled := (restartValues_settled reload run lock v).2 both
  have same : derived reload run lock v = restartValues reload run lock v := deriveBurner_off settled runOff lockOff
  have judged := handedOver_idle (b := restartValues reload run lock v) rfl settled (Rotation.restarted_fresh _ timed)
  rw [restartPart_eq, same]
  split at judged
  · rename_i met
    rw [if_pos met, judged]
    exact ⟨rfl, rfl, rfl⟩
  · rename_i unmet
    rw [if_neg unmet, judged]
    exact restartValues_idle reload run lock v

theorem restartPart_gap : (restartPart reload run lock v).burner.reset = false ∧
    (restartPart reload run lock v).burner.gap = if v.burner.reset = true then some v.recov.gapLen else v.burner.gap := by
  obtain ⟨reset, gap⟩ := derived_relays (reload := reload) (run := run) (lock := lock) (v := v)
  obtain ⟨released, started⟩ := restartValues_gap reload run lock v
  rw [restartPart_eq, (handedOver_judged derived_outside).1.frame]
  exact ⟨reset.trans released, gap.trans started⟩

/-! ### The Rotation Unit and the zones (R55, R56, R77) -/

theorem restartPart_rotSettings : v.rot.SameSettings (restartPart reload run lock v).rot := by
  rw [restartPart_eq, handedOver_rot, derived]
  simp only [deriveBurner_frame]
  exact foldl_startedAt_settings _ _ v.rot.restarted

theorem restartPart_rot : (restartPart reload run lock v).rot =
    (eightNumbers.filter fun z => decide (((restartPart reload run lock v).zone z).state = .fallbackOn)).foldl
      (fun r z => (r.startOfCall v.clock z 4).settle (routesOf (restartPart reload run lock v)))
      { limit := (restartPart reload run lock v).rot.limit, turnLen := (restartPart reload run lock v).rot.turnLen
        travelTime := (restartPart reload run lock v).rot.travelTime
        overrunTime := (restartPart reload run lock v).rot.overrunTime, bypass := (restartPart reload run lock v).rot.bypass
        lastFiring := v.rot.lastFiring
        grants := [], queue := [], grantCount := 0, joinCount := 0, overrun := none, pump := false, permit := false
        outputs := v.rot.outputs.map fun o =>
          if o.state = .shut then { o with held := false }
          else { state := .closing, travel := (restartPart reload run lock v).rot.travelTime, held := false } } := by
  obtain ⟨limit, turnLen, travelTime, overrunTime, bypass, -⟩ := restartPart_rotSettings reload run lock v
  have output : Output.restarted v.rot.travelTime = fun o => if o.state = .shut then { o with held := false }
      else { state := .closing, travel := v.rot.travelTime, held := false } := by
    funext o
    cases state : o.state <;> simp [Output.restarted, state]
  rw [limit, turnLen, travelTime, overrunTime, bypass, ← output, restartPart_eq]
  refine (handedOver_rot _).trans ?_
  rw [derived]
  simp only [deriveBurner_frame]
  rfl

theorem restartPart_zone (i : Fin 8) : (restartPart reload run lock v).zone i =
    ((v.zone i).restarted (v.gauge.restarted reload).band v.clock).handOn := by
  rw [restartPart_eq, handedOver_zone, derived]
  simp only [deriveBurner_frame, State.zone]
  rfl

theorem Zone.restarted_values (band : Band) (now : Clock) (z : Zone) :
    (z.restarted band now).handOn.requested = z.requested ∧ (z.restarted band now).handOn.mode = z.mode ∧
    (z.restarted band now).handOn.ovLeft = none ∧ (z.restarted band now).handOn.slot1.fresh = false ∧
    (z.restarted band now).handOn.slot2.fresh = false ∧ (z.restarted band now).handOn.normalCall = false ∧
    (z.restarted band now).handOn.frostFlag = false ∧
    (z.restarted band now).handOn.state = (if (z.restarted band now).handOn.enabled = false then .off
      else if 0 < (z.restarted band now).handOn.onTime then .fallbackOn else .fallbackRest) ∧
    (z.restarted band now).handOn.cycleStart = if (z.restarted band now).handOn.enabled = true then some now else none := by
  by_cases enabled : z.enabled = true
  · have entered : z.restarted band now = (z.clearLive.refresh band).enterFallback now := if_pos enabled
    have kept : ((z.clearLive.refresh band).enterFallback now).handOn.enabled = true := enabled
    rw [entered, kept]
    exact ⟨rfl, rfl, rfl, rfl, rfl, rfl, rfl, rfl, rfl⟩
  · have off : z.restarted band now = z.clearLive.refresh band := if_neg enabled
    have kept : (z.clearLive.refresh band).handOn.enabled = false := Bool.eq_false_iff.2 enabled
    rw [off, kept]
    exact ⟨rfl, rfl, rfl, rfl, rfl, rfl, rfl, rfl, rfl⟩

/-! ### The settings (R184) -/

theorem restartPart_settings {src : State} (same : v = copySettings src v)
    (bare : ∀ z, (src.zone z).slot1.Bare ∧ (src.zone z).slot2.Bare) :
    restartPart reload run lock v = copySettings src (restartPart reload run lock v) := by
  have zones : (derived reload run lock v).zones = v.zones := by simp [derived]
  rw [restartPart_eq]
  refine handedOver_settings (settings_of_kept same derived_kept ?_) derived_outside bare
  simp only [State.zone, zones]
  exact congrArg State.zones same

end clauses

/-- The settings of `src`, with these zones and this store, in a part that is otherwise `s`. -/
def settingsTaken (src : State) (zones : ZoneUnit) (store : Store) (s : State) : State :=
  { copySettings src s with zones := zones, store := store }

theorem settingsTaken_copied (src : State) (store : Store) (s : State) :
    settingsTaken src (copySettings src s).zones store s =
      copySettings src (settingsTaken src (copySettings src s).zones store s) := by
  have recs : (copySettings src s).zones.recs =
      Eight.ofFn fun i => (src.zones.recs.get i).settingsFrom ((copySettings src s).zones.recs.get i) := by
    refine Eight.ext_get fun i => ?_
    rw [Eight.get_ofFn, copySettings]
    dsimp only
    rw [Eight.get_ofFn]
    rfl
  exact congrArg (fun r => settingsTaken src { (copySettings src s).zones with recs := r } store s) recs

theorem loadSource_turnLen (ack : Bool) (t : Store) : 1 ≤ (loadSource ack t).rot.turnLen := by
  rw [loadSource]
  split
  · rw [(loadedPart_settings (imageBody t)).rotation.2.1, nearest_eq 5 60 _ (by decide)]
    omega
  · decide

/-- The source of the settings that a restart of either kind leaves in force. -/
structure RestartSource (ack : Bool) (kind : RestartKind) (s src : State) (zones : ZoneUnit) (store : Store) : Prop where
  records : ∀ i, (zones.recs.get i).requested = (s.zone i).requested ∧ (zones.recs.get i).mode = (s.zone i).mode
  mem : store.mem = s.store.mem
  timed : 1 ≤ s.rot.turnLen ∨ kind = .reload → 1 ≤ src.rot.turnLen
  restart : kind = .restart → src = s ∧ zones = s.zones ∧ store = s.store
  reload : kind = .reload → src = loadSource ack s.store ∧ zones = (copySettings src s).zones ∧
    store.fault = !imageAccepted ack s.store ∧
    store.failures = if imageAccepted ack s.store then s.store.failures else min 65535 (s.store.failures + 1)

theorem reloadSettings_store (ack : Bool) (s : State) : (reloadSettings ack s).store = { s.store with
    fault := !imageAccepted ack s.store
    failures := if imageAccepted ack s.store then s.store.failures else min 65535 (s.store.failures + 1) } := by
  have judged : (reloadSettings ack s).store = if imageAccepted ack s.store then { s.store with fault := false }
      else { s.store with fault := true, failures := satInc s.store.failures } := rfl
  rw [judged]
  cases imageAccepted ack s.store <;> rfl

theorem restartEffect_due {ack run lock : Bool} {kind : RestartKind} {s : State}
    (mark : s.mgmt.restart = some { kind := kind, answerSent := true }) : restartEffect ack run lock s =
      restartPart (decide (kind = .reload)) run lock (if kind = .reload then reloadSettings ack s else s) := by
  have gone : answerGone { kind := kind, answerSent := true } s = true := rfl
  rw [restartEffect, mark]
  cases kind <;> exact if_pos gone

theorem exec_restartEffect {ack run lock : Bool} {time : Tick} {kind : RestartKind} {s : State} (on : s.powered = true)
    (mark : s.mgmt.restart = some { kind := kind, answerSent := true }) : ∃ src zones store,
    exec (.restartEffect ack run lock time) s =
      .next (restartPart (decide (kind = .reload)) run lock (settingsTaken src zones store (s.reach time))) ∧
    RestartSource ack kind (s.reach time) src zones store := by
  have works : exec (.restartEffect ack run lock time) s = .next ((fun s => restartEffect ack run lock (s.reach time)) s) :=
    whenOn_powered (f := fun s => restartEffect ack run lock (s.reach time)) on
  rw [works]
  dsimp only
  rw [restartEffect_due (s := s.reach time) mark]
  generalize s.reach time = u
  cases kind with
  | restart => exact ⟨u, u.zones, u.store, rfl, fun _ => ⟨rfl, rfl⟩, rfl, fun timed => timed.resolve_right (by simp),
      fun _ => ⟨rfl, rfl, rfl⟩, fun other => by simp at other⟩
  | reload =>
    have store := reloadSettings_store ack u
    refine ⟨loadSource ack u.store, (copySettings (loadSource ack u.store) u).zones, (reloadSettings ack u).store, rfl,
      fun i => ?_, by rw [store], fun _ => loadSource_turnLen ack u.store, fun other => by simp at other,
      fun _ => ⟨rfl, rfl, by rw [store], by rw [store]⟩⟩
    rw [copySettings]
    dsimp only
    rw [Eight.get_ofFn]
    exact ⟨rfl, rfl⟩

/-- Settles O7: the clauses block by block, over the settings that the restart leaves in force. -/
theorem restartTakesEffect : Obligations.RestartTakesEffect := by
  intro ack run lock time kind s on mark settled runs faults locked fault
  obtain ⟨src, zones, store, works, source⟩ := exec_restartEffect (ack := ack) (run := run) (lock := lock) (time := time) on mark
  generalize taken : settingsTaken src zones store (s.reach time) = v at works
  obtain ⟨cls, postbox, recov, gauge, oil, clock, stored, -, -⟩ := restartPart_blocks (decide (kind = .reload)) run lock v
  obtain ⟨ports, mgmt⟩ := restartPart_linesAndMgmt (decide (kind = .reload)) run lock v
  obtain ⟨recovState, recovTimer⟩ := v.recov.restarted_state v.burner
  obtain ⟨reset, gap⟩ := restartPart_gap (decide (kind = .reload)) run lock v
  have lockedOut := restartPart_locked (decide (kind = .reload)) run lock v
  have runout := restartPart_runout (decide (kind = .reload)) run lock v
  have senses := restartPart_senseFault (decide (kind = .reload)) run lock v
  have calm := restartPart_noFault (decide (kind = .reload)) run lock v
  have settling := restartPart_settling (decide (kind = .reload)) run lock v
  have agrees := restartPart_agrees (decide (kind = .reload)) run lock v
  have idle := restartPart_idle (decide (kind = .reload)) run lock v
  have rot := restartPart_rot (decide (kind = .reload)) run lock v
  have zone := restartPart_zone (decide (kind = .reload)) run lock v
  have inForce := restartPart_settings (decide (kind = .reload)) run lock v (src := src)
  have rotSettings := restartPart_rotSettings (decide (kind = .reload)) run lock v
  have gaugeLeft := v.gauge.restarted_values (decide (kind = .reload))
  rw [← gauge] at gaugeLeft
  generalize restartPart (decide (kind = .reload)) run lock v = t at *
  subst taken
  refine ⟨t, works, ports, mgmt, ?_⟩
  refine ⟨congrArg (·.inHand) cls, congrArg (·.posts) postbox, congrArg (·.tagCounter) postbox, congrArg (·.word) recov,
    congrArg (·.side) recov, congrArg (·.hold) recov, congrArg (·.spacing) recov, congrArg (·.budget) recov,
    congrArg (·.log) recov, ?_⟩
  have coolOff : t.recov.coolOff = src.recov.coolOff := congrArg (·.coolOff) recov
  have gapLen : t.recov.gapLen = src.recov.gapLen := congrArg (·.gapLen) recov
  refine ⟨(congrArg (·.state) recov).trans recovState, ((congrArg (·.timer) recov).trans recovTimer).trans (by rw [coolOff]; rfl),
    fun ⟨both, off, on⟩ => lockedOut both off on, runout, senses, calm, settling, agrees,
    fun both off off' timed => idle both off off' (source.timed timed), rot, reset,
    fun on => gap.trans ((if_pos on).trans (congrArg some gapLen.symm)), fun off => gap.trans (if_neg (ne_true_of_eq_false off)), ?_⟩
  obtain ⟨rising, conv, sampleTimer, bandKept, bandUnknown⟩ := gaugeLeft
  refine ⟨rising, conv, sampleTimer, fun i => ?_, clock, fun a => ?_, fun restarts => ?_, fun reloads => ?_⟩
  · have values := Zone.restarted_values ((settingsTaken src zones store (s.reach time)).gauge.restarted
      (decide (kind = .reload))).band s.clock (zones.recs.get i)
    obtain ⟨requested, mode, rest⟩ := (zone i).symm ▸ values
    exact ⟨requested.trans (source.records i).1, mode.trans (source.records i).2, rest⟩
  · rw [stored]
    exact congrArg (fun m => Memory.read m a) source.mem
  · obtain ⟨rfl, rfl, rfl⟩ := source.restart restarts
    obtain ⟨limit, turnLen, travelTime, overrunTime, bypass, -⟩ := rotSettings
    subst restarts
    exact ⟨stored, bandKept rfl, congrArg (·.based) oil, congrArg (·.entries) cls, limit, turnLen, travelTime, overrunTime,
      bypass⟩
  · obtain ⟨rfl, rfl, fault', failures⟩ := source.reload reloads
    subst reloads
    exact ⟨(congrArg (·.fault) stored).trans fault', (congrArg (·.failures) stored).trans failures, bandUnknown rfl,
      congrArg (·.based) oil, settingsAfterLoad_of_source (inForce (settingsTaken_copied _ _ _)
        (loadSource_slots ack s.store))⟩

end Sys2Proof.Machine
end
